-- ==== Sys2Proof/Word.lean ====
section
/-! DEFINITION. The word types the spec's fields have, and nothing else. -/

namespace Sys2Proof

/-- One byte of a frame, message or page. -/
abbrev Byte := BitVec 8

/-- A 2-byte field (tags, epochs, times of section 11.2). -/
abbrev Half := BitVec 16

/-- A 4-byte field (pool sizes, setting values, counters). -/
abbrev Word := BitVec 32

/-- A 48-bit address (00_scope.md, Addresses). -/
abbrev Addr := BitVec 48

/-- Every counter is 32 bits wide (00_scope.md, Counters). -/
abbrev Counter := BitVec 32

/-- The remaining cabinet ticks of a timer: `none` is stopped, `some 0` has expired and waits for its expiry event
(00_scope.md, Time). -/
abbrev Timer := Option Nat

/-- A whole frame or message as its bytes, in the order they are sent. -/
abbrev Bytes := List Byte

end Sys2Proof
end

