-- ==== Sys2Proof/Syntax.lean ====
section
/-! DEFINITION. The commands: one constructor of `Instr` per row of spec/opcode_table.json, with the row's operands as the
rules give them. A request's operands are the raw fields of section 11.2, so that a value outside its range can be sent and is
answered as R220 gives. -/

namespace Sys2Proof

/-- A backbone port. -/
inductive Side where
  | fore | aft
  deriving DecidableEq, Repr

/-- A seat's in-band reported speed in Mbit/s (R117). -/
inductive Speed where
  | mbit10 | mbit100
  deriving DecidableEq, Repr

abbrev SeatNo := Fin 64
abbrev LinkNo := Fin 8
abbrev TrunkNo := Fin 8
abbrev RecordNo := Fin 512

/-- A port with an egress queue (R34). -/
inductive Port where
  | seat (p : SeatNo)
  | ceiling (c : LinkNo)
  | backbone (side : Side)
  deriving DecidableEq, Repr

/-- The three addresses a management message may be sent to (R188). -/
inductive Dest where
  | cabinet | allCabinets | group
  deriving DecidableEq, Repr

/-- What a request's frame and header carry beside its code and arguments (R191, section 11.1): the port it arrives on, the
address it is sent to, the requesting station, the tag it chose and the epoch it believes in (which R191 does not compare). -/
structure ReqHeader where
  side : Side
  dest : Dest
  station : Addr
  tag : Half
  epoch : Half
  deriving DecidableEq, Repr

/-- The seat profile fields of SET_PROFILE, raw (R221). -/
structure RawSeatProfile where
  enabled : Byte
  maxLength : Half
  acceptBroadcast : Byte
  acceptMulticast : Byte
  loopback : Byte
  idleTime : Half
  deriving DecidableEq, Repr

/-- The ceiling profile fields of SET_PROFILE, raw (R221). -/
structure RawCeilingProfile where
  enabled : Byte
  clientLimit : Byte
  maxLength : Half
  acceptBroadcast : Byte
  acceptMulticast : Byte
  idleTime : Half
  surveyWindow : Half
  threshold : Byte
  deriving DecidableEq, Repr

/-- The two forms of SET_PROFILE (R221). -/
inductive RawProfile where
  | seat (fields : RawSeatProfile)
  | ceiling (fields : RawCeilingProfile)
  deriving DecidableEq, Repr

/-- The six effect bytes of a lamp rule set, in the order of R130. -/
structure RawRules where
  linkUp : Byte
  clientAttached : Byte
  entitled : Byte
  parked : Byte
  activity : Byte
  lampBarred : Byte
  deriving DecidableEq, Repr

/-- The two forms of QUERY_CLIENT (R27, section 11.2). -/
inductive ClientRef where
  | number (n : Half)
  | address (x : Addr)
  deriving DecidableEq, Repr

/-- What a tick of a radio's in-band status carries (R141). -/
structure RadioStatus where
  ready : Bool
  busy : Bool
  deriving DecidableEq, Repr

/-- What a trunk's status says of its eight seats: `none` is an indication DOWN, `some v` an indication UP at speed v (R117). -/
abbrev TrunkStatus := Vector (Option Speed) 8

/-- The commands (spec/opcode_table.json). -/
inductive Instr where
  -- resets and settings memory (R211 to R217); an `access` is the number of the read or write the memory answers (log entry 14)
  | powerOn
  | resetLineAsserted
  | resetLineReleased
  | startLoad
  | settingsReadComplete (access : Nat)
  | accessTimerExpiry
  | storeStageComplete (access : Nat)
  | settingsWriteFailure (access : Nat)
  -- frames
  | backboneFrameArrival (side : Side) (frame : Bytes)
  | transmissionComplete (port : Port)
  | seatFrameArrival (p : SeatNo) (frame : Bytes)
  -- record timers
  | idleTimerExpiry (r : RecordNo)
  | lingerTimerExpiry (r : RecordNo)
  | releaseDeadlineExpiry (r : RecordNo)
  -- radios
  | ceilingData (c : LinkNo) (a : Byte) (frame : Bytes)
  | assoc (c : LinkNo) (a : Byte) (x : Addr) (signal : Byte)
  | disassoc (c : LinkNo) (a : Byte)
  | released (c : LinkNo) (a : Byte)
  | settingAnswer (c : LinkNo) (item : Byte) (value : Word) (result : Byte)
  | relayTimeout (c : LinkNo)
  | ceilingStatusTick (c : LinkNo) (status : Option RadioStatus) (cut : Bool)
  | surveyWindowEnd (c : LinkNo)
  | deferralExpiry (x : Addr)
  -- seats
  | trunkSignalLoss (t : TrunkNo) (cut : Nat)
  | trunkSignalReturn (t : TrunkNo) (status : TrunkStatus)
  | seatLinkIndicationChange (p : SeatNo) (indication : Option Speed)
  | seatSpeedChange (p : SeatNo) (speed : Speed)
  | activityTimerExpiry (p : SeatNo)
  | barredFrameMarkExpiry (p : SeatNo)
  -- share and entitlement timers
  | refill
  | minuteTimerExpiry
  -- coupling
  | pageTimerExpiry (side : Side)
  | pageArrival (side : Side) (page : Bytes)
  | silenceTimerExpiry (side : Side)
  | checkErrorWindowEnd (side : Side)
  | linkFailureTimerExpiry (side : Side)
  -- notices
  | spacingTimerExpiry (station : Addr)
  -- requests
  | enrol (h : ReqHeader) (roles threshold : Byte)
  | releaseRoles (h : ReqHeader) (roles : Byte)
  | clearCauses (h : ReqHeader) (causes : List Byte)
  | grantShare (h : ReqHeader) (pool : Word) (period basic standard premium : Half) (gateway : Byte)
  | entitle (h : ReqHeader) (x : Addr) (kind : Byte) (minutes : Half)
  | revoke (h : ReqHeader) (x : Addr)
  | journeyEnd (h : ReqHeader)
  | evict (h : ReqHeader) (x : Addr)
  | setProfile (h : ReqHeader) (port : Byte) (profile : RawProfile)
  | setLamp (h : ReqHeader) (otherParts : BitVec 5) (rules : Option RawRules) (brightness : Option Byte)
      (forces : Option (List (Byte × Byte)))
  | setLevels (h : ReqHeader) (pairs : List (Byte × Byte))
  | setTiming (h : ReqHeader) (release linger defer : Half)
  | setAddressing (h : ReqHeader) (cabinet : Addr) (allEnable : Byte) (group : Addr) (groupEnable : Byte)
  | setIdentity (h : ReqHeader) (vehicle : Word)
  | portOffline (h : ReqHeader) (port setting : Byte)
  | relaySetting (h : ReqHeader) (link item : Byte) (value : Word) (direction : Byte)
  | storeSettings (h : ReqHeader)
  | reloadSettings (h : ReqHeader)
  | cabinetReset (h : ReqHeader)
  | readCounters (h : ReqHeader) (group port clear : Byte)
  | queryCabinet (h : ReqHeader)
  | queryClient (h : ReqHeader) (client : ClientRef)
  | listClients (h : ReqHeader) (start : Half)
  | queryPort (h : ReqHeader) (kind port : Byte)
  | queryLink (h : ReqHeader) (link : Byte)
  | malformedRadioMessage (c : LinkNo) (message : Bytes)
  deriving DecidableEq, Repr

end Sys2Proof
end

