-- ==== Sys2Proof/Config.lean ====
section
/-! DEFINITION. The free values: what the spec leaves open and no rule fixes. Each is an uninterpreted constant applied to
the counter `State.free`, so no proof can see a value of it. -/

namespace Sys2Proof.Config

/-- Whether a store that fails in its FIRST stage leaves the image invalid: R216 says so only of a failure after the first
stage (log entry 15). -/
opaque firstStageFailureInvalidates : Nat → Bool

/-- The window length QUERY_LINK gives while no survey window runs: R166 lists the item and no rule says what it is then
(log entry 23). -/
opaque absentWindowLength : Nat → Half

/-- The busy count QUERY_LINK gives while no survey window runs (log entry 23). -/
opaque absentWindowBusy : Nat → Half

/-- The byte QUERY_CABINET gives for a settings source that is unset (log entry 24). -/
opaque unsetSource : Nat → Byte

end Sys2Proof.Config
end

