-- ==== Sys2Proof/Machine/Bytes.lean ====
section
/-! DEFINITION. Byte order and the cyclic checks of R219. -/

namespace Sys2Proof.Machine

/-- A number as `n` bytes, most significant first (11_message_formats.md: multi-byte fields are sent most significant byte
first). A number that does not fit keeps its low bytes. -/
def beBytes : Nat → Nat → Bytes
  | 0, _ => []
  | n + 1, v => BitVec.ofNat 8 (v / 256 ^ n) :: beBytes n v

/-- The number that bytes spell, most significant first. -/
def beNat (bs : Bytes) : Nat := bs.foldl (fun v b => v * 256 + b.toNat) 0

def addrBytes (x : Addr) : Bytes := beBytes 6 x.toNat
def halfBytes (x : Half) : Bytes := beBytes 2 x.toNat
def wordBytes (x : Word) : Bytes := beBytes 4 x.toNat

/-- `n` bytes of a message from `offset`. -/
def field (bs : Bytes) (offset n : Nat) : Bytes := (bs.drop offset).take n

def byteAt (bs : Bytes) (offset : Nat) : Byte := bs.getD offset 0
def halfAt (bs : Bytes) (offset : Nat) : Half := BitVec.ofNat 16 (beNat (field bs offset 2))
def wordAt (bs : Bytes) (offset : Nat) : Word := BitVec.ofNat 32 (beNat (field bs offset 4))
def addrAt (bs : Bytes) (offset : Nat) : Addr := BitVec.ofNat 48 (beNat (field bs offset 6))

/-- The bits of a byte, least significant first. -/
def bitsLow (b : Byte) : List Bool := (List.range 8).map b.getLsbD

/-- A left fold over a number that evaluates the number before each further step (it is `List.foldl`, as
Laws/Bytes.lean proves; the case split only keeps a long evaluation in the kernel shallow). -/
def foldNat {α : Type} (f : Nat → α → Nat) : Nat → List α → Nat
  | acc, [] => acc
  | acc, x :: xs =>
    match f acc x with
    | 0 => foldNat f 0 xs
    | n + 1 => foldNat f (n + 1) xs

/-- One bit folded into a check register of `w` bits by the polynomial (R219). -/
def crcBit (w poly : Nat) (r : Nat) (bit : Bool) : Nat :=
  if r.testBit (w - 1) != bit then ((r * 2) % 2 ^ w) ^^^ poly else (r * 2) % 2 ^ w

/-- One byte folded in, in the bit order of the check (R219): least significant bit first when `low`. -/
def crcByte (w poly : Nat) (low : Bool) (r : Nat) (b : Byte) : Nat :=
  foldNat (crcBit w poly) r (if low then bitsLow b else (bitsLow b).reverse)

/-- The register of `w` bits with its bits in the opposite order ("the result reflected", R219). -/
def reflect (w r : Nat) : Nat := foldNat (fun acc i => acc * 2 + (r.testBit i).toNat) 0 (List.range w)

/-- The 32-bit check of frames, pages and the settings image (R219). -/
def crc32 (bs : Bytes) : Word :=
  BitVec.ofNat 32 (reflect 32 (foldNat (crcByte 32 0x04C11DB7 true) 0xFFFFFFFF bs) ^^^ 0xFFFFFFFF)

/-- The 16-bit check of ceiling messages (R219). -/
def crc16 (bs : Bytes) : Half := BitVec.ofNat 16 (foldNat (crcByte 16 0x1021 false) 0xFFFF bs)

/-- The 8-bit check of lamp commands (R219). -/
def crc8 (bs : Bytes) : Byte := BitVec.ofNat 8 (foldNat (crcByte 8 0x07 false) 0x00 bs)

/-- A message closed by its 32-bit check. -/
def withCrc32 (bs : Bytes) : Bytes := bs ++ beBytes 4 (crc32 bs).toNat

/-- A message closed by its 16-bit check. -/
def withCrc16 (bs : Bytes) : Bytes := bs ++ beBytes 2 (crc16 bs).toNat

/-- A frame's check sequence is correct: its last four bytes are the check over the bytes before them. A frame of fewer than
four bytes holds no check sequence and fails (log entry 27, DEDUCED, safe). -/
def frameCheckOk (frame : Bytes) : Bool :=
  decide (4 ≤ frame.length)
    && frame.drop (frame.length - 4) == beBytes 4 (crc32 (frame.take (frame.length - 4))).toNat

/-- The frame's destination and source addresses and type code (section 11.1). -/
def frameDst (frame : Bytes) : Addr := addrAt frame 0
def frameSrc (frame : Bytes) : Addr := addrAt frame 6
def frameType (frame : Bytes) : Half := halfAt frame 12

/-- An address is multicast when the lowest bit of its first byte is 1 (00_scope.md, Addresses). -/
def isMulticast (x : Addr) : Bool := x.getLsbD 40

/-- The broadcast address. -/
def broadcast : Addr := 0xffffffffffff#48

/-- The fixed all-cabinets address (R188). -/
def allCabinets : Addr := 0x030000000648#48

/-- The part's management type code (section 11.1). -/
def managementType : Half := 0x9C48#16

/-- The cost of a frame of a length: its bytes divided by 64, rounded up (00_scope.md, Credit unit). -/
def frameCost (length : Nat) : Nat := (length + 63) / 64

end Sys2Proof.Machine
end

