-- ==== Sys2Proof/Machine/RadioFormat.lean ====
section
/-! DEFINITION. The messages of the ceiling links, byte for byte (section 11.5, R145, R224). -/

namespace Sys2Proof.Machine

/-- A message a radio sends to the part (R145), its number raw. -/
inductive RadioMessage where
  | data (a : Byte) (frame : Bytes)
  | assoc (a : Byte) (x : Addr) (signal : Byte)
  | disassoc (a : Byte)
  | released (a : Byte)
  | settingAnswer (item : Byte) (value : Word) (result : Byte)
  deriving DecidableEq, Repr

/-- The refusal reasons of a REFUSE (R145), in the order of their codes. -/
inductive RefuseReason where
  | barred | tableFull | linkFull
  deriving DecidableEq, Repr

/-- A control message the part sends to a radio (R145). DATA towards a radio is an egress queue entry (R38). -/
inductive RadioOut where
  | admitted (a : Fin 64)
  | refuse (a : Fin 64) (reason : RefuseReason)
  | defer (a : Fin 64)
  | release (a : Fin 64)
  | drop (a : Fin 64)
  | setting (item : Byte) (value : Word) (write : Bool)
  deriving DecidableEq, Repr

/-- The refusal reason codes of section 11.3. -/
def RefuseReason.code : RefuseReason → Byte
  | .barred => 1
  | .tableFull => 2
  | .linkFull => 3

/-- An association number as its byte. -/
def assocByte (a : Fin 64) : Byte := BitVec.ofNat 8 a.val

/-- A message to a radio without its check (section 11.5). -/
def RadioOut.body : RadioOut → Bytes
  | .admitted a => [0x82, assocByte a]
  | .refuse a r => [0x83, assocByte a, r.code]
  | .defer a => [0x84, assocByte a]
  | .release a => [0x85, assocByte a]
  | .drop a => [0x86, assocByte a]
  | .setting item value write => 0x87 :: item :: (wordBytes value ++ [if write then 1 else 0])

/-- A message to a radio as its bytes, closed by its check (R224). -/
def RadioOut.bytes (m : RadioOut) : Bytes := withCrc16 m.body

/-- DATA towards a radio: no message check (section 11.5). -/
def dataToRadio (a : Fin 64) (frame : Bytes) : Bytes := 0x81 :: assocByte a :: frame

/-- An address no client can have: multicast, or all zero (R224). -/
def badClientAddr (x : Addr) : Bool := isMulticast x || x == 0

/-- A message of a fixed length whose check agrees (R224). -/
def closedBy16 (bs : Bytes) (length : Nat) : Bool :=
  bs.length == length && bs.drop (length - 2) == beBytes 2 (crc16 (bs.take (length - 2))).toNat

/-- What a message from a radio spells, or `none` when it is malformed (R224). The association number is not tested here:
R145 tests it after this. -/
def parseRadio : Bytes → Option RadioMessage
  | [] => none
  | t :: rest =>
    let bs := t :: rest
    if t = 0x01 then
      match rest with
      | [] => none
      | a :: frame => some (.data a frame)
    else if t = 0x02 then
      if closedBy16 bs 11 && !badClientAddr (addrAt bs 2) then some (.assoc (byteAt bs 1) (addrAt bs 2) (byteAt bs 8)) else none
    else if t = 0x03 then
      if closedBy16 bs 4 then some (.disassoc (byteAt bs 1)) else none
    else if t = 0x04 then
      if closedBy16 bs 4 then some (.released (byteAt bs 1)) else none
    else if t = 0x05 then
      if closedBy16 bs 9 then some (.settingAnswer (byteAt bs 1) (wordAt bs 2) (byteAt bs 6)) else none
    else none

/-- A message received whole from a radio is malformed (R224). -/
def malformedRadio (bs : Bytes) : Bool := (parseRadio bs).isNone

/-- The association number a message carries (SETTING_ANSWER carries none, R224). -/
def RadioMessage.number : RadioMessage → Option Byte
  | .data a _ => some a
  | .assoc a _ _ => some a
  | .disassoc a => some a
  | .released a => some a
  | .settingAnswer _ _ _ => none

/-- R145: the number is 0 or above 63. -/
def RadioMessage.badNumber (m : RadioMessage) : Bool := m.number.any fun a => a == 0 || decide (63 < a.toNat)

end Sys2Proof.Machine
end

