-- ==== Sys2Proof/Machine/State.lean ====
section
/-! DEFINITION. The state of the part, block by block as 00_scope.md divides it, the reasons a step can stop, and the state
after reset. -/

namespace Sys2Proof.Machine

/-! ### Sparse tables -/

/-- Numbered things held sparsely: pairs of a number and what stands there, the numbers strictly rising; a number that is not
listed holds nothing (a VACANT record, R1; a free slot, R30). -/
abbrev Table (α : Type) := List (Nat × α)

/-- The canonical form of a table: its numbers strictly rise. -/
def Table.wf {α : Type} : Table α → Bool
  | [] => true
  | [_] => true
  | (j, _) :: (k, v) :: rest => decide (j < k) && Table.wf ((k, v) :: rest)

/-! ### Names and codes -/

/-- The causes of R200, in the order of their codes (section 11.3). -/
inductive Cause where
  | tableFull | linkFull | moveTimeout | couplingFault | ceilingLinkLoss | seatTrunkLoss | storeLow | settingsFault
  | barredSeen | overShare | unassociated
  deriving DecidableEq, Repr

/-- The statuses of R198. -/
inductive Status where
  | ok | notHolder | roleHeld | stationTableFull | badArgument | badFormat | notFound | listFull | busy | timeout | linkDown
  | conflict | settingsFault | unknownRequest
  deriving DecidableEq, Repr

/-- The classes of R1. -/
inductive Class where
  | basic | standard | premium | service
  deriving DecidableEq, Repr

/-- The kinds of an Entitlement List entry (R101). -/
inductive Kind where
  | standard | premium | service | barred
  deriving DecidableEq, Repr

/-- An association number, 1 to 63; 0 in an egress entry means all clients of the link (R34). -/
abbrev AssocNo := Fin 64

/-! ### Client Table and Move Controller -/

/-- Where a client is attached (R1). -/
inductive Place where
  | seat (p : SeatNo)
  | ceiling (c : LinkNo) (a : AssocNo)
  deriving DecidableEq, Repr

/-- The in-use states of a record, each with the fields R1 gives it. In MOVING the place is the target, and the former place,
the release deadline and the hold queue are the Move Controller's (R52). The idle timer is absent for a SERVICE record. -/
inductive RecordState where
  | attached (place : Place) (idle : Timer)
  | moving (target : Place) (formerLink : LinkNo) (formerNo : AssocNo) (deadline : Timer) (hold : List Nat)
  | lingering (linger : Timer)
  deriving DecidableEq, Repr

/-- An in-use client record (R1). -/
structure Record where
  addr : Addr
  cls : Class
  credit : Nat
  parked : List Nat
  charged : Counter
  overShare : Counter
  st : RecordState
  deriving DecidableEq, Repr

/-- The table-wide counters of R28. -/
structure CtCounters where
  created : Counter := 0
  reclaims : Counter := 0
  creationFailures : Counter := 0
  idleExpiries : Counter := 0
  lingerExpiries : Counter := 0
  evictions : Counter := 0
  unmatchedDisassociations : Counter := 0
  deriving DecidableEq, Repr

/-- The Client Table: its in-use records and the carriage linger time in seconds (R23). Seat occupants (R8) and attached counts
(R9) are views of the records (log entry 29). -/
structure ClientTable where
  records : Table Record := []
  lingerTime : Nat := 60
  counts : CtCounters := {}
  deriving DecidableEq, Repr

/-- The counters of R73. -/
structure McCounters where
  begun : Counter := 0
  byRelease : Counter := 0
  byDisassociation : Counter := 0
  byLinkLoss : Counter := 0
  supersessions : Counter := 0
  timeouts : Counter := 0
  cancellations : Counter := 0
  retargets : Counter := 0
  targetsLost : Counter := 0
  holdQueueDrops : Counter := 0
  flushDrops : Counter := 0
  holdDiscarded : Counter := 0
  strayReleases : Counter := 0
  deriving DecidableEq, Repr

/-- The Move Controller's carriage-wide state: the release timeout in ms (R57) and its counters. What it holds of a move
stands in the MOVING record. -/
structure MoveController where
  releaseTimeout : Nat := 200
  counts : McCounters := {}
  deriving DecidableEq, Repr

/-! ### Share Accounting Unit -/

/-- A grant's six fields (R77). -/
structure Grant where
  pool : Nat
  period : Nat
  basic : Nat
  standard : Nat
  premium : Nat
  gateway : Side
  deriving DecidableEq, Repr

/-- The share state with the grants it holds (R75, R76). -/
inductive ShareState where
  | held
  | granted (inForce : Grant) (pending : Option Grant)
  deriving DecidableEq, Repr

/-- The carriage-wide counters of R99. -/
structure SauCounters where
  framesCharged : Counter := 0
  framesUncharged : Counter := 0
  framesParked : Counter := 0
  framesReleased : Counter := 0
  overShareDrops : Counter := 0
  upstreamHoldDrops : Counter := 0
  gatewayFullDrops : Counter := 0
  parkedDiscarded : Counter := 0
  refills : Counter := 0
  grantsApplied : Counter := 0
  grantsPended : Counter := 0
  pendingReplaced : Counter := 0
  pendingTaken : Counter := 0
  holdEntries : Counter := 0
  deriving DecidableEq, Repr

/-- The Share Accounting Unit (R76). -/
structure ShareUnit where
  state : ShareState := .held
  pool : Nat := 0
  refill : Timer := none
  overShareMark : Bool := false
  waiting : List Nat := []
  counts : SauCounters := {}
  deriving DecidableEq, Repr

/-! ### Entitlement List -/

/-- An entry of the list (R101); `minutes = none` is journey-long. -/
structure Entitlement where
  addr : Addr
  kind : Kind
  minutes : Option Nat
  station : Addr
  deriving DecidableEq, Repr

/-- The counters of R116. -/
structure ElCounters where
  added : Counter := 0
  replaced : Counter := 0
  listFull : Counter := 0
  revoked : Counter := 0
  journeyEnd : Counter := 0
  expired : Counter := 0
  barsLifted : Counter := 0
  deriving DecidableEq, Repr

/-- The Entitlement List: its entries in rising order of address, since they keep no order among themselves (R101). -/
structure EntitlementList where
  entries : List Entitlement := []
  minute : Timer := none
  counts : ElCounters := {}
  deriving DecidableEq, Repr

/-! ### Seat lamps -/

/-- A lamp effect; in an output `none` is OFF (R129, section 11.3). -/
inductive Effect where
  | none | steady | slow | fast
  deriving DecidableEq, Repr

/-- A lamp output: an effect with its duty, the duty 0 for OFF (R129, R223). -/
structure LampOutput where
  effect : Effect := .none
  duty : Nat := 0
  deriving DecidableEq, Repr

/-- A seat's force (R129). -/
inductive Force where
  | auto | off | steady | slow | fast
  deriving DecidableEq, Repr

/-- The lamp rule set: an effect for each condition of R130. -/
structure LampRules where
  linkUp : Effect := .none
  clientAttached : Effect := .steady
  entitled : Effect := .steady
  parked : Effect := .slow
  activity : Effect := .none
  lampBarred : Effect := .fast
  deriving DecidableEq, Repr

/-- The six lamp conditions of a seat (R130). -/
structure LampConditions where
  linkUp : Bool
  clientAttached : Bool
  entitled : Bool
  parked : Bool
  activity : Bool
  lampBarred : Bool
  deriving DecidableEq, Repr

/-! ### Frame Store -/

/-- Where the frame of a slot came from (R30). -/
inductive Origin where
  | seat (p : SeatNo)
  | ceiling (c : LinkNo)
  | backbone (side : Side)
  | engine
  deriving DecidableEq, Repr

/-- A slot in use (R30). `resetResponse` marks the response to a CABINET_RESET, whose leaving brings the reset (R49). -/
structure Slot where
  frame : Bytes
  origin : Origin
  refs : Nat
  resetResponse : Bool := false
  deriving DecidableEq, Repr

/-- An egress queue entry: a slot and the association number it is sent under (R34; 0 elsewhere than on a ceiling link). -/
structure Entry where
  slot : Nat
  assoc : AssocNo := 0
  deriving DecidableEq, Repr

/-- The frame in transmission at the head of a queue: the nanoseconds the port's rate needs for it (R38, log entry 7). -/
structure Transmission where
  nanoseconds : Nat
  deriving DecidableEq, Repr

/-- A control message of R41: a page as its bytes, a message to a radio, or a lamp command (its cycle value is taken when it
goes out, R135). -/
inductive Control where
  | page (bytes : Bytes)
  | radio (m : RadioOut)
  | lamp (out : LampOutput)
  deriving DecidableEq, Repr

/-- The Frame Store's per-port counters (R50); those a kind of port does not keep stay 0. -/
structure PortCounters where
  sent : Counter := 0
  egressFull : Counter := 0
  portDown : Counter := 0
  loopbackDrops : Counter := 0
  discarded : Counter := 0
  lost : Counter := 0
  checkErrors : Counter := 0
  runts : Counter := 0
  oversize : Counter := 0
  notCoupled : Counter := 0
  deriving DecidableEq, Repr

/-- The egress side of one port (R34, R38, R41). -/
structure Egress where
  entries : List Entry := []
  tx : Option Transmission := none
  waiting : List Control := []
  counts : PortCounters := {}
  deriving DecidableEq, Repr

/-- The store-wide counters of R50. -/
structure FsCounters where
  clientNoSlot : Counter := 0
  backboneNoSlot : Counter := 0
  composedLost : Counter := 0
  absentClient : Counter := 0
  unknownUnicast : Counter := 0
  notForCabinet : Counter := 0
  unplaced : Counter := 0
  deriving DecidableEq, Repr

/-- The low-water mark (R33). -/
inductive LowMark where
  | armed | spent
  deriving DecidableEq, Repr

/-- The Frame Store: the slots in use, the mark and the egress queues (R30, R33, R34). -/
structure FrameStore where
  slots : Table Slot := []
  mark : LowMark := .armed
  seatQ : Vector Egress 64 := Vector.replicate 64 {}
  linkQ : Vector Egress 8 := Vector.replicate 8 {}
  foreQ : Egress := {}
  aftQ : Egress := {}
  counts : FsCounters := {}
  deriving DecidableEq, Repr

/-! ### Seat Port block -/

/-- A seat profile (R121), with its defaults. -/
structure SeatProfile where
  enabled : Bool := true
  maxLength : Nat := 1522
  acceptBroadcast : Bool := true
  acceptMulticast : Bool := false
  loopback : Bool := false
  idleTime : Nat := 300
  deriving DecidableEq, Repr

/-- The per-seat counters of R139. -/
structure SeatCounters where
  received : Counter := 0
  notUp : Counter := 0
  checkErrors : Counter := 0
  runts : Counter := 0
  oversize : Counter := 0
  barred : Counter := 0
  badSource : Counter := 0
  accepted : Counter := 0
  looped : Counter := 0
  linkDowns : Counter := 0
  lampCommands : Counter := 0
  deriving DecidableEq, Repr

/-- One seat port: its profile, the link indication with its speed (`none` is DOWN), its link state, and its lamp (R119, R120,
R121, R129). The lamp conditions are views (log entry 29). -/
structure Seat where
  profile : SeatProfile := {}
  indication : Option Speed := none
  up : Bool := false
  activity : Timer := none
  barredMark : Timer := none
  force : Force := .auto
  resolved : LampOutput := {}
  lastCommanded : Option LampOutput := none
  counts : SeatCounters := {}
  deriving DecidableEq, Repr

/-- The trunk states of R117. -/
inductive TrunkState where
  | held | lost | present
  deriving DecidableEq, Repr

/-- One seat trunk: its state and counters (R117, R139), and its wire (a pin): whether its in-band signal is there and what its
status says (log entry 17). -/
structure Trunk where
  state : TrunkState := .held
  signal : Bool := false
  wire : TrunkStatus := Vector.replicate 8 none
  signalLosses : Counter := 0
  cutFrames : Counter := 0
  deriving DecidableEq, Repr

/-- The Seat Port block (R117, R129). -/
structure SeatPortBlock where
  seats : Vector Seat 64 := Vector.replicate 64 {}
  trunks : Vector Trunk 8 := Vector.replicate 8 {}
  rules : LampRules := {}
  brightness : Nat := 12
  blinkRunning : Bool := false
  blink : Nat := 0
  deriving DecidableEq, Repr

/-! ### Ceiling Link block -/

/-- The link states of R141. -/
inductive LinkState where
  | held | down | unready | ready
  deriving DecidableEq, Repr

/-- A ceiling profile (R150), with its defaults. -/
structure CeilingProfile where
  enabled : Bool := true
  clientLimit : Nat := 40
  maxLength : Nat := 1522
  acceptBroadcast : Bool := true
  acceptMulticast : Bool := false
  idleTime : Nat := 120
  surveyWindow : Nat := 1000
  threshold : Nat := 80
  deriving DecidableEq, Repr

/-- The running survey window: its length, its ticks still to come and its busy count (R153, log entry 28). -/
structure SurveyWindow where
  length : Nat
  left : Nat
  busy : Nat
  deriving DecidableEq, Repr

/-- The last survey, when it is valid (R154). -/
structure Survey where
  busy : Nat
  length : Nat
  deriving DecidableEq, Repr

/-- A WAITING relay: the return details and the exchange (R163). -/
structure Relay where
  station : Addr
  side : Side
  tag : Half
  item : Byte
  write : Bool
  timeout : Timer
  deriving DecidableEq, Repr

/-- The answer to an ASSOC (R147). -/
inductive AssocAnswer where
  | admitted
  | refused (reason : RefuseReason)
  | deferred
  deriving DecidableEq, Repr

/-- The last association a link took (R156, R166). -/
structure LastAssoc where
  addr : Addr
  assoc : AssocNo
  signal : Byte
  answer : AssocAnswer
  deriving DecidableEq, Repr

/-- The per-link counters of R167. -/
structure LinkCounters where
  malformed : Counter := 0
  notReady : Counter := 0
  cutFrames : Counter := 0
  linkLosses : Counter := 0
  received : Counter := 0
  checkErrors : Counter := 0
  runts : Counter := 0
  oversize : Counter := 0
  unassociated : Counter := 0
  mismatches : Counter := 0
  accepted : Counter := 0
  disassociations : Counter := 0
  releases : Counter := 0
  associations : Counter := 0
  admissions : Counter := 0
  deferrals : Counter := 0
  refusedBarred : Counter := 0
  refusedLinkFull : Counter := 0
  refusedTableFull : Counter := 0
  madeAdmit : Counter := 0
  madeRefuse : Counter := 0
  madeDefer : Counter := 0
  madeRelease : Counter := 0
  madeDrop : Counter := 0
  madeSetting : Counter := 0
  relaysStarted : Counter := 0
  relaysAnswered : Counter := 0
  relaysTimedOut : Counter := 0
  relaysLinkDown : Counter := 0
  strayAnswers : Counter := 0
  deriving DecidableEq, Repr

/-- One ceiling link (R141, R150, R153, R163, R166); `statusIn` is its wire (a pin): status is being received. -/
structure Link where
  state : LinkState := .held
  statusIn : Bool := false
  ready : Bool := false
  busy : Bool := false
  profile : CeilingProfile := {}
  window : Option SurveyWindow := none
  survey : Option Survey := none
  relay : Option Relay := none
  lastAssoc : Option LastAssoc := none
  counts : LinkCounters := {}
  deriving DecidableEq, Repr

/-- An entry of the Deferral List with its remaining ms (R161). -/
structure Deferral where
  addr : Addr
  left : Nat
  deriving DecidableEq, Repr

/-- The Ceiling Link block (R161, R162, R167). -/
structure CeilingBlock where
  links : Vector Link 8 := Vector.replicate 8 {}
  deferrals : List Deferral := []
  deferWindow : Nat := 5000
  overflows : Counter := 0
  expiries : Counter := 0
  deriving DecidableEq, Repr

/-! ### Coupling Unit -/

/-- The coupling states of R169. -/
inductive CouplingState where
  | decoupled | paging | coupled | faulted
  deriving DecidableEq, Repr

/-- The fault codes of R169 and section 11.3. -/
inductive FaultCode where
  | none | offline | linkFailure | couplingError
  deriving DecidableEq, Repr

/-- The received items of a port (R169, R172). -/
structure Received where
  vehicle : Nat
  fault : FaultCode
  mark : Bool
  deriving DecidableEq, Repr

/-- The per-port counters of R187. -/
structure CuCounters where
  pagesSent : Counter := 0
  pagesReceived : Counter := 0
  pageErrors : Counter := 0
  faultsEntered : Counter := 0
  linkFailures : Counter := 0
  silences : Counter := 0
  couplings : Counter := 0
  deriving DecidableEq, Repr

/-- One backbone port (R169). -/
structure Backbone where
  state : CouplingState := .decoupled
  pagingHeld : Bool := true
  ownFault : FaultCode := .none
  offline : Bool := false
  linkFailure : Timer := none
  rx : Option Received := none
  matchCount : Nat := 0
  matched : Option Nat := none
  silence : Timer := none
  page : Timer := none
  errorCount : Nat := 0
  errorWindow : Timer := none
  counts : CuCounters := {}
  deriving DecidableEq, Repr

/-- The Coupling Unit: the two ports, the epoch, the vehicle number in force and the one of the current settings, and the
carriage-wide counter (R169, R180, R184, R187). The coupled set is a view of the two states. -/
structure CouplingUnit where
  fore : Backbone := {}
  aft : Backbone := {}
  epoch : Half := 0
  vehicle : Nat := 0
  vehicleSetting : Nat := 0
  setChanges : Counter := 0
  deriving DecidableEq, Repr

/-! ### Management Engine -/

/-- A role set (R192). -/
structure Roles where
  share : Bool := false
  entitle : Bool := false
  cabinet : Bool := false
  deriving DecidableEq, Repr

/-- An entry of the Station Table (R192); the pending set lists its causes in the order of their codes. -/
structure Station where
  addr : Addr
  side : Side
  roles : Roles
  threshold : Nat
  pending : List Cause
  spacing : Timer
  due : Bool
  number : Half
  epoch : Half
  deriving DecidableEq, Repr

/-- The settable addressing settings of R188, with their defaults. -/
structure Addressing where
  cabinet : Addr := 0x020000000000#48
  allEnable : Bool := true
  group : Addr := 0x030000000000#48
  groupEnable : Bool := false
  deriving DecidableEq, Repr

/-- The engine's own counters (R208); `raised` is in the order of the cause codes. -/
structure MeCounters where
  requests : Counter := 0
  discarded : Counter := 0
  unknown : Counter := 0
  badFormat : Counter := 0
  notHolder : Counter := 0
  notices : Counter := 0
  finalNotices : Counter := 0
  raised : Vector Counter 11 := Vector.replicate 11 0
  deriving DecidableEq, Repr

/-- The default levels of R200, in the order of the cause codes. -/
def defaultLevels : Vector Nat 11 := ⟨#[5, 3, 2, 6, 6, 5, 6, 7, 4, 1, 1], rfl⟩

/-- The Management Engine (R188, R192, R200). The Station Table stands in rising order of station address. -/
structure Engine where
  addressing : Addressing := {}
  levels : Vector Nat 11 := defaultLevels
  stations : List Station := []
  counts : MeCounters := {}
  deriving DecidableEq, Repr

/-! ### Settings Loader -/

/-- The settings image in the external memory (R209): the items as bytes and the check word, which is `none` while it is the
value that agrees with no image (R216). -/
structure Image where
  items : Bytes := []
  check : Option Word := none
  deriving DecidableEq, Repr

/-- The stage a store's write has reached (R216). -/
inductive Stage where
  | first | second | third
  deriving DecidableEq, Repr

/-- The settings unit state; a store holds its stage and the items it collected (R210, R216). -/
inductive UnitState where
  | idle
  | loading
  | storing (stage : Stage) (items : Bytes)
  deriving DecidableEq, Repr

/-- The operations of R210. -/
inductive Operation where
  | startLoad | reload | store
  deriving DecidableEq, Repr

/-- The outcomes of R210. -/
inductive LoadOutcome where
  | ok | badImage | noAnswer | writeFailed
  deriving DecidableEq, Repr

/-- The settings source of R210. -/
inductive Source where
  | stored | factory
  deriving DecidableEq, Repr

/-- The last reset cause of R211. -/
inductive ResetCause where
  | powerOn | resetLine | cabinetRequest
  deriving DecidableEq, Repr

/-- The return details of a long request (R199, R210). -/
structure Return where
  station : Addr
  side : Side
  code : Byte
  tag : Half
  deriving DecidableEq, Repr

/-- The counters of R218. -/
structure SlCounters where
  loadsFromImage : Counter := 0
  loadsDefaulted : Counter := 0
  reloadFaults : Counter := 0
  storesCompleted : Counter := 0
  storeFaults : Counter := 0
  busyRefusals : Counter := 0
  deriving DecidableEq, Repr

/-- The Settings Loader (R210, R211). `begun` says that the read of a load has begun (between a reset and START_LOAD it has
not); `access` numbers the reads and writes (log entry 14). -/
structure Loader where
  unit : UnitState := .loading
  begun : Bool := false
  access : Nat := 0
  accessTimer : Timer := some 500
  pendingReturn : Option Return := none
  lastOperation : Operation := .startLoad
  outcome : Option LoadOutcome := none
  source : Option Source := none
  resetCause : ResetCause := .powerOn
  resetCount : Nat := 0
  counts : SlCounters := {}
  deriving DecidableEq, Repr

/-! ### What an event sends and owes -/

/-- What left the part in the last event (log entry 32). -/
inductive Output where
  | frame (port : Port) (bytes : Bytes)
  | page (side : Side) (bytes : Bytes)
  | radio (c : LinkNo) (bytes : Bytes)
  | lamp (t : TrunkNo) (bytes : Bytes)
  deriving DecidableEq, Repr

/-- A response to compose at the end of the event (R49, R191): its address, the port the request arrived on, whether it is the
response of a long request (R199), and its contents. -/
structure Response where
  station : Addr
  side : Side
  long : Bool
  code : Byte
  tag : Half
  status : Status
  args : Bytes
  isReset : Bool := false
  deriving DecidableEq, Repr

/-- A message the engine composed in the last event, with the port it was to leave by and whether it was lost (R49). -/
inductive Composed where
  | response (r : Response) (side : Side) (lost : Bool)
  | notice (station : Addr) (side : Side) (hold : Bool) (number epoch : Half) (pending : List Cause) (lost : Bool)
  deriving DecidableEq, Repr

/-- What the last event sent and composed, and what an event owes at its end: responses, the slot of the request in hand,
trunks whose eight lamps are commanded whatever their output, ports that make a page, and a cabinet reset. `levels` and
`thresholds` are those in force when the event began (log entry 12). -/
structure EventLog where
  out : List Output := []
  composed : List Composed := []
  responses : List Response := []
  inHand : Option Nat := none
  relamp : List TrunkNo := []
  pages : List Side := []
  resetDue : Bool := false
  levels : Vector Nat 11 := defaultLevels
  thresholds : List (Addr × Nat) := []
  deriving DecidableEq, Repr

/-! ### The whole part -/

/-- The state of the part: the queue of commands, the ten blocks, the pins and the external settings memory. -/
structure State where
  pending : List Instr := []
  ev : EventLog := {}
  free : Nat := 0
  resetLine : Bool := false
  memory : Image := {}
  ct : ClientTable := {}
  mc : MoveController := {}
  sau : ShareUnit := {}
  el : EntitlementList := {}
  fs : FrameStore := {}
  spb : SeatPortBlock := {}
  clb : CeilingBlock := {}
  cu : CouplingUnit := {}
  me : Engine := {}
  sl : Loader := {}
  deriving DecidableEq, Repr

/-- Why a step stops with a fault. No rule of the spec names a condition that stops the part. -/
inductive Fault where
  /-- Raised by no meaning: every event the spec gives leaves the part running. Safe. -/
  | neverRaised
  deriving DecidableEq, Repr

/-- Why a step is refused. -/
inductive Refusal where
  /-- Raised by an arm of `exec` whose command has no meaning in this model. Safe. -/
  | notModelled (mnemonic : String)
  deriving DecidableEq, Repr

/-- The part right after power-on (R211): every block at its reset values, the reset record POWER_ON with count 0, the start-up
load not begun, nothing waiting in the queue. -/
def State.reset : State := {}

end Sys2Proof.Machine
end

