-- ==== Sys2Proof/Machine/Ops.lean ====
section
/-! DEFINITION. Named operations over the state: the sparse tables, the parts of each block, counters and timers. -/

namespace Sys2Proof.Machine

/-! ### Sparse tables -/

/-- What stands at a number. -/
def Table.get {α : Type} : Table α → Nat → Option α
  | [], _ => none
  | (j, v) :: rest, k => if j = k then some v else Table.get rest k

/-- Put a value at a number, keeping the numbers in rising order. -/
def Table.put {α : Type} : Table α → Nat → α → Table α
  | [], k, v => [(k, v)]
  | (j, w) :: rest, k, v =>
    if k < j then (k, v) :: (j, w) :: rest
    else if k = j then (k, v) :: rest
    else (j, w) :: Table.put rest k v

/-- Empty a number. -/
def Table.del {α : Type} : Table α → Nat → Table α
  | [], _ => []
  | (j, w) :: rest, k => if j = k then Table.del rest k else (j, w) :: Table.del rest k

/-- The lowest number, counted from `k`, that a table in canonical form does not list. -/
def Table.firstFree {α : Type} : Table α → Nat → Nat
  | [], k => k
  | (j, _) :: rest, k => if j = k then Table.firstFree rest (k + 1) else if j < k then Table.firstFree rest k else k

/-- Change what stands at a number; an empty number stays empty. -/
def Table.modify {α : Type} (t : Table α) (k : Nat) (f : α → α) : Table α :=
  match t.get k with
  | none => t
  | some v => t.put k (f v)

/-! ### Counters and timers -/

/-- A counter advances by 1 and stops at 4,294,967,295 (00_scope.md, Counters). -/
def bump (c : Counter) : Counter := if c = 0xFFFFFFFF#32 then c else c + 1

/-- A counter advances by `n` and stops at 4,294,967,295. -/
def bumpBy (c : Counter) (n : Nat) : Counter := BitVec.ofNat 32 (min (c.toNat + n) 4294967295)

/-- One cabinet tick of a timer. -/
def tickTimer : Timer → Timer
  | none => none
  | some n => some (n - 1)

/-- A timer has expired and its expiry event is to be taken. -/
def isDue (t : Timer) : Bool := t == some 0

/-! ### The blocks of the state -/

def State.onEv (s : State) (f : EventLog → EventLog) : State := { s with ev := f s.ev }
def State.onCt (s : State) (f : ClientTable → ClientTable) : State := { s with ct := f s.ct }
def State.onMc (s : State) (f : MoveController → MoveController) : State := { s with mc := f s.mc }
def State.onSau (s : State) (f : ShareUnit → ShareUnit) : State := { s with sau := f s.sau }
def State.onEl (s : State) (f : EntitlementList → EntitlementList) : State := { s with el := f s.el }
def State.onFs (s : State) (f : FrameStore → FrameStore) : State := { s with fs := f s.fs }
def State.onSpb (s : State) (f : SeatPortBlock → SeatPortBlock) : State := { s with spb := f s.spb }
def State.onClb (s : State) (f : CeilingBlock → CeilingBlock) : State := { s with clb := f s.clb }
def State.onCu (s : State) (f : CouplingUnit → CouplingUnit) : State := { s with cu := f s.cu }
def State.onMe (s : State) (f : Engine → Engine) : State := { s with me := f s.me }
def State.onSl (s : State) (f : Loader → Loader) : State := { s with sl := f s.sl }

/-- The counters of each block. -/
def State.countCt (s : State) (f : CtCounters → CtCounters) : State := s.onCt fun b => { b with counts := f b.counts }
def State.countMc (s : State) (f : McCounters → McCounters) : State := s.onMc fun b => { b with counts := f b.counts }
def State.countSau (s : State) (f : SauCounters → SauCounters) : State := s.onSau fun b => { b with counts := f b.counts }
def State.countEl (s : State) (f : ElCounters → ElCounters) : State := s.onEl fun b => { b with counts := f b.counts }
def State.countFs (s : State) (f : FsCounters → FsCounters) : State := s.onFs fun b => { b with counts := f b.counts }
def State.countMe (s : State) (f : MeCounters → MeCounters) : State := s.onMe fun b => { b with counts := f b.counts }
def State.countSl (s : State) (f : SlCounters → SlCounters) : State := s.onSl fun b => { b with counts := f b.counts }

/-! ### Parts of the blocks -/

/-- Every number below `n`, rising. -/
def numbers (n : Nat) [NeZero n] : List (Fin n) := (List.range n).map (Fin.ofNat n)

def allSeats : List SeatNo := numbers 64
def allLinks : List LinkNo := numbers 8
def allTrunks : List TrunkNo := numbers 8
def allSides : List Side := [.fore, .aft]

/-- A function applied to each element of a vector. -/
def mapVector {α β : Type} {n : Nat} (v : Vector α n) (f : α → β) : Vector β n := ⟨⟨v.toList.map f⟩, by simp⟩

/-- The trunk of a seat, and the seat's position on it: trunk t serves seats 8t to 8t + 7 (R117). -/
def trunkOf (p : SeatNo) : TrunkNo := ⟨p.val / 8, by omega⟩
def positionOf (p : SeatNo) : Fin 8 := ⟨p.val % 8, by omega⟩
def seatAt (t : TrunkNo) (i : Fin 8) : SeatNo := ⟨8 * t.val + i.val, by omega⟩
def seatsOf (t : TrunkNo) : List SeatNo := (numbers 8).map (seatAt t)

/-- The other backbone port. -/
def otherSide : Side → Side
  | .fore => .aft
  | .aft => .fore

def State.seat (s : State) (p : SeatNo) : Seat := s.spb.seats[p]
def State.onSeat (s : State) (p : SeatNo) (f : Seat → Seat) : State :=
  s.onSpb fun b => { b with seats := b.seats.set p (f b.seats[p]) }
def State.countSeat (s : State) (p : SeatNo) (f : SeatCounters → SeatCounters) : State :=
  s.onSeat p fun x => { x with counts := f x.counts }

def State.trunk (s : State) (t : TrunkNo) : Trunk := s.spb.trunks[t]
def State.onTrunk (s : State) (t : TrunkNo) (f : Trunk → Trunk) : State :=
  s.onSpb fun b => { b with trunks := b.trunks.set t (f b.trunks[t]) }

def State.link (s : State) (c : LinkNo) : Link := s.clb.links[c]
def State.onLink (s : State) (c : LinkNo) (f : Link → Link) : State :=
  s.onClb fun b => { b with links := b.links.set c (f b.links[c]) }
def State.countLink (s : State) (c : LinkNo) (f : LinkCounters → LinkCounters) : State :=
  s.onLink c fun x => { x with counts := f x.counts }

def State.side (s : State) : Side → Backbone
  | .fore => s.cu.fore
  | .aft => s.cu.aft
def State.onSide (s : State) (side : Side) (f : Backbone → Backbone) : State :=
  s.onCu fun b =>
    match side with
    | .fore => { b with fore := f b.fore }
    | .aft => { b with aft := f b.aft }
def State.countSide (s : State) (side : Side) (f : CuCounters → CuCounters) : State :=
  s.onSide side fun x => { x with counts := f x.counts }

/-- A port's egress side. -/
def State.queue (s : State) : Port → Egress
  | .seat p => s.fs.seatQ[p]
  | .ceiling c => s.fs.linkQ[c]
  | .backbone .fore => s.fs.foreQ
  | .backbone .aft => s.fs.aftQ
def State.setQueue (s : State) (port : Port) (q : Egress) : State :=
  s.onFs fun b =>
    match port with
    | .seat p => { b with seatQ := b.seatQ.set p q }
    | .ceiling c => { b with linkQ := b.linkQ.set c q }
    | .backbone .fore => { b with foreQ := q }
    | .backbone .aft => { b with aftQ := q }
def State.onQueue (s : State) (port : Port) (f : Egress → Egress) : State := s.setQueue port (f (s.queue port))
def State.countPort (s : State) (port : Port) (f : PortCounters → PortCounters) : State :=
  s.onQueue port fun q => { q with counts := f q.counts }

/-- Is a backbone port in the coupled set (R180)? -/
def State.coupled (s : State) (side : Side) : Bool := (s.side side).state == .coupled

/-! ### Records -/

def State.record (s : State) (n : Nat) : Option Record := s.ct.records.get n
def State.putRecord (s : State) (n : Nat) (r : Record) : State :=
  s.onCt fun b => { b with records := b.records.put n r }
def State.delRecord (s : State) (n : Nat) : State :=
  s.onCt fun b => { b with records := b.records.del n }
def State.onRecord (s : State) (n : Nat) (f : Record → Record) : State :=
  s.onCt fun b => { b with records := b.records.modify n f }

/-- The place of a record: for a MOVING record, the target (R1). -/
def RecordState.place : RecordState → Option Place
  | .attached pl _ => some pl
  | .moving t _ _ _ _ => some t
  | .lingering _ => none

/-- The former place of a record (R52). -/
def RecordState.former : RecordState → Option (LinkNo × AssocNo)
  | .moving _ c a _ _ => some (c, a)
  | _ => none

/-- The hold queue of a record: empty but in MOVING (R52). -/
def RecordState.hold : RecordState → List Nat
  | .moving _ _ _ _ h => h
  | _ => []

def RecordState.isLingering : RecordState → Bool
  | .lingering _ => true
  | _ => false

/-- The place is on a ceiling link. -/
def Place.onLink (c : LinkNo) : Place → Bool
  | .seat _ => false
  | .ceiling d _ => d == c

/-- The first record that fits, with its number. -/
def State.findRecord (s : State) (p : Record → Bool) : Option (Nat × Record) :=
  s.ct.records.find? fun e => p e.2

/-- R3's first lookup: the in-use record that holds an address. -/
def State.byAddr (s : State) (x : Addr) : Option (Nat × Record) := s.findRecord fun r => r.addr == x

/-- The in-use record whose place is a given one: R3's second lookup, and the seat occupant of R8. -/
def State.atPlace (s : State) (pl : Place) : Option (Nat × Record) := s.findRecord fun r => r.st.place == some pl

/-- R53's lookup: the MOVING record whose former place is (c, a). -/
def State.byFormer (s : State) (c : LinkNo) (a : AssocNo) : Option (Nat × Record) :=
  s.findRecord fun r => r.st.former == some (c, a)

/-- The seat occupant of R8. -/
def State.occupant (s : State) (p : SeatNo) : Option (Nat × Record) := s.atPlace (.seat p)

/-- The attached count of R9: the in-use records whose place is on the link. -/
def State.attachedCount (s : State) (c : LinkNo) : Nat :=
  s.ct.records.countP fun e => (e.2.st.place.map (Place.onLink c)).getD false

/-! ### The Frame Store's numbers -/

/-- R30: the slots with count 0. -/
def State.freeSlots (s : State) : Nat := 2048 - s.fs.slots.length

/-- The length of the frame in a slot (0 for a slot that is free, which no entry refers to; log entry 35). -/
def State.slotLength (s : State) (k : Nat) : Nat :=
  match s.fs.slots.get k with
  | none => 0
  | some x => x.frame.length

end Sys2Proof.Machine
end

