-- ==== Sys2Proof/Machine/Flags.lean ====
section
/-! DEFINITION. The marks a block raises and a station sees: causes, pending sets and due marks (R200, R201, R204). -/

namespace Sys2Proof.Machine

/-- The causes in the order of their codes (section 11.3). -/
def allCauses : List Cause :=
  [.tableFull, .linkFull, .moveTimeout, .couplingFault, .ceilingLinkLoss, .seatTrunkLoss, .storeLow, .settingsFault,
   .barredSeen, .overShare, .unassociated]

/-- A cause's place in that order; its code is one more. -/
def Cause.index : Cause → Fin 11
  | .tableFull => 0
  | .linkFull => 1
  | .moveTimeout => 2
  | .couplingFault => 3
  | .ceilingLinkLoss => 4
  | .seatTrunkLoss => 5
  | .storeLow => 6
  | .settingsFault => 7
  | .barredSeen => 8
  | .overShare => 9
  | .unassociated => 10

/-- The pending set with a cause added, in the order of the codes. -/
def addCause (c : Cause) (set : List Cause) : List Cause := allCauses.filter fun d => d == c || set.contains d

/-- The pending set with causes removed (R204). -/
def removeCauses (cs set : List Cause) : List Cause := set.filter fun d => !cs.contains d

/-- A cause set as the number its 2 bytes spell: bit c - 1 for code c (section 11.3). -/
def causeSetNat (set : List Cause) : Nat :=
  (allCauses.filter fun c => set.contains c).foldl (fun v c => v + 2 ^ c.index.val) 0

/-- The threshold that stands against a cause entering a pending set: the one in force when the event began; a new entry's own
(R193, log entry 12). -/
def thresholdFor (before : List (Addr × Nat)) (st : Station) : Nat :=
  match before.find? fun e => e.1 == st.addr with
  | some e => e.2
  | none => st.threshold

/-- One entry at a raise (R201): the cause enters the set once, and when its level is greater than the threshold the entry
falls due. -/
def Station.enter (st : Station) (c : Cause) (level threshold : Nat) : Station :=
  if st.pending.contains c then st
  else { st with pending := addCause c st.pending, due := st.due || decide (threshold < level) }

/-- A block raises a cause (R201): the raised counter advances and the cause enters every station's pending set. -/
def State.raise (s : State) (c : Cause) : State :=
  s.onMe fun m =>
    { m with
      counts := { m.counts with raised := m.counts.raised.set c.index (bump m.counts.raised[c.index]) }
      stations := m.stations.map fun st => st.enter c s.ev.levels[c.index] (thresholdFor s.ev.thresholds st) }

end Sys2Proof.Machine
end

