-- ==== Sys2Proof/Machine/FrameStore.lean ====
section
/-! DEFINITION. The Frame Store: slots and references, egress queues, transmission, and the control messages that go out
between frames (R30 to R41). -/

namespace Sys2Proof.Machine

/-! ### Slots -/

/-- The reserve a claim must leave free (R31). -/
def clientReserve : Nat := 128
def backboneReserve : Nat := 16
def engineReserve : Nat := 0

/-- A claim that leaves `free` slots brings the mark to SPENT and raises STORE_LOW when it is ARMED and `free` is 128 or below
(R33). -/
def State.lowWater (s : State) (free : Nat) : State :=
  if s.fs.mark = .armed ∧ free ≤ 128 then (s.onFs fun b => { b with mark := .spent }).raise .storeLow else s

/-- A slot claimed for a frame under a reserve, or refused (R31). The lowest free slot is taken (log entry 5, DESIGN CHOICE,
safe for what the outside sees). The frame is written after the low-water mark is tested, so that a notice carries a STORE_LOW
that its own claim raises (log entry 11). The slot's count is 0 until an entry takes the frame. -/
def State.claim (s : State) (reserve : Nat) (origin : Origin) (reset : Bool) (frame : State → Bytes) : Option (Nat × State) :=
  if s.freeSlots ≤ reserve then none
  else
    let s1 := s.lowWater (s.freeSlots - 1)
    let k := s.fs.slots.firstFree 0
    some (k, s1.onFs fun b =>
      { b with slots := b.slots.put k { frame := frame s1, origin := origin, refs := 0, resetResponse := reset } })

/-- A slot becomes free; a release that brings the free count above 256 arms a SPENT mark (R32, R33). -/
def State.freeSlot (s : State) (k : Nat) : State :=
  let s1 := s.onFs fun b => { b with slots := b.slots.del k }
  if s1.fs.mark = .spent ∧ 256 < s1.freeSlots then s1.onFs fun b => { b with mark := .armed } else s1

/-- An entry takes a reference to a slot (R35). -/
def State.addRef (s : State) (k : Nat) : State :=
  s.onFs fun b => { b with slots := b.slots.modify k fun x => { x with refs := x.refs + 1 } }

/-- A reference is given up; at 0 the slot is free (R32). When the response to a CABINET_RESET goes, the reset is due (R49). -/
def State.dropRef (s : State) (k : Nat) : State :=
  match s.fs.slots.get k with
  | none => s
  | some x =>
    if x.refs ≤ 1 then (s.freeSlot k).onEv fun e => { e with resetDue := e.resetDue || x.resetResponse }
    else s.onFs fun b => { b with slots := b.slots.put k { x with refs := x.refs - 1 } }

/-- At the end of a frame's arrival its slot is free again when no entry took it (R31). -/
def State.settle (s : State) (k : Nat) : State :=
  match s.fs.slots.get k with
  | none => s
  | some x => if x.refs = 0 then s.freeSlot k else s

/-! ### Ports -/

/-- The number of entries a queue may hold (R34). -/
def queueCapacity : Port → Nat
  | .seat _ => 32
  | .ceiling _ => 256
  | .backbone _ => 512

/-- The port transmits from its queue: COUPLED, UP, READY (R38; a seat in loopback transmits its looped frames). -/
def State.transmits (s : State) : Port → Bool
  | .seat p => (s.seat p).up
  | .ceiling c => (s.link c).state == .ready
  | .backbone side => s.coupled side

/-- A seat in loopback refuses downstream appends (R35, R126). -/
def State.inLoopback (s : State) : Port → Bool
  | .seat p => (s.seat p).profile.loopback
  | _ => false

/-- Control messages can go out on the port (R41): the link is READY, the seat's trunk is PRESENT, paging is not held. -/
def State.controlOpen (s : State) : Port → Bool
  | .seat p => (s.trunk (trunkOf p)).state == .present
  | .ceiling c => (s.link c).state == .ready
  | .backbone side => !(s.side side).pagingHeld

/-- The nanoseconds a transmission takes (R38): 1 Gbit/s on a backbone port and for the whole DATA message on a ceiling link,
the reported 10 or 100 Mbit/s on a seat port. -/
def State.transmissionTime (s : State) (port : Port) (length : Nat) : Nat :=
  match port with
  | .seat p =>
    match (s.seat p).indication with
    | some .mbit100 => length * 80
    | _ => length * 800
  | .ceiling _ => (length + 2) * 8
  | .backbone _ => length * 8

/-- Transmission of the head begins when the port is in its sending state and idle (R38). -/
def State.beginTransmission (s : State) (port : Port) : State :=
  let q := s.queue port
  match q.entries, q.tx with
  | e :: _, none =>
    if s.transmits port then
      s.setQueue port { q with tx := some { nanoseconds := s.transmissionTime port (s.slotLength e.slot) } }
    else s
  | _, _ => s

/-! ### Appending -/

/-- Why an append is refused, or `none` (R35). `looped` is a frame that loopback returns. -/
inductive Refused where
  | loopback | portDown | full
  deriving DecidableEq, Repr

/-- The test of R35. -/
def State.appendTest (s : State) (port : Port) (looped : Bool) : Option Refused :=
  if s.inLoopback port && !looped then some .loopback
  else if !s.transmits port then some .portDown
  else if queueCapacity port ≤ (s.queue port).entries.length then some .full
  else none

/-- The counter a refusal advances (R35, R50). -/
def Refused.count (c : PortCounters) : Refused → PortCounters
  | .loopback => { c with loopbackDrops := bump c.loopbackDrops }
  | .portDown => { c with portDown := bump c.portDown }
  | .full => { c with egressFull := bump c.egressFull }

/-- An entry offered to a queue: joined at the tail, its transmission begun if the port is idle; or refused and counted. The
slot's count is the caller's (R35 raises it, R36 leaves it). -/
def State.offer (s : State) (port : Port) (e : Entry) (looped : Bool) : State × Bool :=
  match s.appendTest port looped with
  | some why => (s.countPort port fun c => why.count c, false)
  | none => ((s.onQueue port fun q => { q with entries := q.entries ++ [e] }).beginTransmission port, true)

/-- R35: a frame appended to an egress queue; the slot's count rises by 1, or the append is refused. -/
def State.append (s : State) (port : Port) (e : Entry) (looped : Bool) : State × Bool :=
  let r := s.offer port e looped
  if r.2 then (r.1.addRef e.slot, true) else r

/-! ### Control messages -/

/-- The effect codes of section 11.3. -/
def Effect.code : Effect → Byte
  | .none => 0
  | .steady => 1
  | .slow => 2
  | .fast => 3

/-- A lamp command as its bytes: position, effect, duty, blink cycle value, check (R224). -/
def lampBytes (p : SeatNo) (out : LampOutput) (blink : Nat) : Bytes :=
  let body := [BitVec.ofNat 8 (positionOf p).val, out.effect.code, BitVec.ofNat 8 out.duty] ++ beBytes 2 blink
  body ++ [crc8 body]

/-- Something leaves the part. -/
def State.emit (s : State) (o : Output) : State := s.onEv fun e => { e with out := e.out ++ [o] }

/-- A control message goes out on its port (R41, R135, R170). -/
def State.goOut (s : State) (port : Port) (m : Control) : State :=
  match port, m with
  | .backbone side, .page bytes =>
    (s.countSide side fun c => { c with pagesSent := bump c.pagesSent }).emit (.page side bytes)
  | .ceiling c, .radio r => s.emit (.radio c r.bytes)
  | .seat p, .lamp out =>
    (s.onSeat p fun x =>
      { x with lastCommanded := some out, counts := { x.counts with lampCommands := bump x.counts.lampCommands } }).emit
      (.lamp (trunkOf p) (lampBytes p out s.spb.blink))
  | _, _ => s

/-- A control message made for a port: at once when no frame is in transmission there, otherwise after its completion; not sent
at all on a port that is not open (R41). -/
def State.sendControl (s : State) (port : Port) (m : Control) : State :=
  if !s.controlOpen port then s
  else if (s.queue port).tx.isSome then s.onQueue port fun q => { q with waiting := q.waiting ++ [m] }
  else s.goOut port m

/-- The messages waiting for a completion go out in the order they were made; on a port that is no longer open they are not
sent (R41). -/
def State.releaseWaiting (s : State) (port : Port) : State :=
  let ms := (s.queue port).waiting
  let s1 := s.onQueue port fun q => { q with waiting := [] }
  if s.controlOpen port then ms.foldl (fun t m => t.goOut port m) s1 else s1

/-! ### Discards and completions -/

/-- A queue discarded whole (R37, R40): the frame in transmission is counted lost, the others discarded, every reference is
given up, and the control messages that waited for the transmission go out (log entry 9). -/
def State.discardQueue (s : State) (port : Port) : State :=
  let q := s.queue port
  let lost := if q.tx.isSome then 1 else 0
  let s1 := s.setQueue port
    { q with
      entries := []
      tx := none
      counts := { q.counts with
        lost := bumpBy q.counts.lost lost
        discarded := bumpBy q.counts.discarded (q.entries.length - lost) } }
  (q.entries.foldl (fun t e => t.dropRef e.slot) s1).releaseWaiting port

/-- What a completed transmission put on the port: a frame, or on a ceiling link DATA with the entry's number (R38). -/
def sentBytes (port : Port) (e : Entry) (frame : Bytes) : Bytes :=
  match port with
  | .ceiling _ => dataToRadio e.assoc frame
  | _ => frame

/-- The frame in a slot. -/
def State.slotFrame (s : State) (k : Nat) : Bytes :=
  match s.fs.slots.get k with
  | none => []
  | some x => x.frame

/-- A transmission completes (R39): the head leaves, its reference is given up, the frames-sent counter advances, waiting
control messages go out, and the next frame begins. A port with no frame in transmission has no completion. The command names
its port alone and completes whatever frame is in transmission there when it is taken (log entry 41). -/
def State.completeTransmission (s : State) (port : Port) : State :=
  let q := s.queue port
  match q.tx, q.entries with
  | some _, e :: rest =>
    let s1 := (s.setQueue port { q with entries := rest, tx := none, counts := { q.counts with sent := bump q.counts.sent } }).emit
      (.frame port (sentBytes port e (s.slotFrame e.slot)))
    let s2 := ((s1.dropRef e.slot).releaseWaiting port).beginTransmission port
    match port with
    | .seat p => s2.onSeat p fun x => { x with activity := some 100 }
    | _ => s2
  | _, _ => s

end Sys2Proof.Machine
end

