-- ==== Sys2Proof/Machine/Share.lean ====
section
/-! DEFINITION. The Share Accounting Unit (R75 to R100): grants, charging, parking, the refill and its release pass, and uplink
hold. -/

namespace Sys2Proof.Machine

/-- The class allowance under a grant; SERVICE has none and its credit is 0 (R77, R78). -/
def Grant.allowance (g : Grant) : Class → Nat
  | .basic => g.basic
  | .standard => g.standard
  | .premium => g.premium
  | .service => 0

/-- The grant in force. -/
def ShareState.grant : ShareState → Option Grant
  | .held => none
  | .granted g _ => some g

/-- The credit a new record starts with (R7). -/
def State.newCredit (s : State) (cls : Class) : Nat :=
  match s.sau.state with
  | .held => 0
  | .granted g _ => g.allowance cls

/-- The gateway side of the grant in force (R80). -/
def State.gateway (s : State) : Option Side := s.sau.state.grant.map Grant.gateway

/-- The record leaves the Waiting List; the others keep their order (R86). -/
def State.leaveWaiting (s : State) (n : Nat) : State :=
  s.onSau fun b => { b with waiting := b.waiting.filter fun m => m != n }

/-- A list of parked entries is discarded, each counted, oldest first (R87, R96). -/
def State.discardParked (s : State) (parked : List Nat) : State :=
  parked.foldl
    (fun t k => (t.dropRef k).countSau fun c => { c with parkedDiscarded := bump c.parkedDiscarded }) s

/-- A record's parked list is released and it leaves the Waiting List (R87). -/
def State.clearParked (s : State) (n : Nat) : State :=
  match s.record n with
  | none => s
  | some r => ((s.discardParked r.parked).onRecord n fun x => { x with parked := [] }).leaveWaiting n

/-! ### Frames reaching the unit -/

/-- R85: a frame parked behind the others, or dropped over-share when the list holds 4. -/
def State.park (s : State) (slot n : Nat) (r : Record) : State :=
  if r.parked.length < 4 then
    let s1 := (s.addRef slot).onRecord n fun x => { x with parked := x.parked ++ [slot] }
    let s2 := s1.countSau fun c => { c with framesParked := bump c.framesParked }
    if r.parked.isEmpty then s2.onSau fun b => { b with waiting := b.waiting ++ [n] } else s2
  else
    let s1 := s.onRecord n fun x => { x with overShare := bump x.overShare }
    let s2 := s1.countSau fun c => { c with overShareDrops := bump c.overShareDrops }
    (s2.onSau fun b => { b with overShareMark := true }).settle slot

/-- R83 and R84 in UPLINK_GRANTED: sent uncharged, parked, charged and sent, or parked. -/
def State.charge (s : State) (slot n : Nat) (r : Record) (g : Grant) : State :=
  let k := frameCost (s.slotLength slot)
  let port := Port.backbone g.gateway
  let refused := fun (t : State) =>
    (t.countSau fun c => { c with gatewayFullDrops := bump c.gatewayFullDrops }).settle slot
  if r.cls = .service then
    let o := s.append port { slot := slot } false
    if o.2 then o.1.countSau fun c => { c with framesUncharged := bump c.framesUncharged } else refused o.1
  else if !r.parked.isEmpty then s.park slot n r
  else if k ≤ r.credit ∧ k ≤ s.sau.pool then
    let o := s.append port { slot := slot } false
    if o.2 then
      let s1 := o.1.onRecord n fun x => { x with credit := x.credit - k, charged := bumpBy x.charged k }
      (s1.onSau fun b => { b with pool := b.pool - k }).countSau fun c => { c with framesCharged := bump c.framesCharged }
    else refused o.1
  else s.park slot n r

/-- R81: an upstream client frame of record `n` in a slot. In UPLINK_HELD it is a hold drop (R82). -/
def State.submit (s : State) (slot n : Nat) : State :=
  match s.sau.state with
  | .held => (s.countSau fun c => { c with upstreamHoldDrops := bump c.upstreamHoldDrops }).settle slot
  | .granted g _ =>
    match s.record n with
    | none => s.settle slot
    | some r => s.charge slot n r g

/-! ### Release of parked frames -/

/-- One parked entry leaves for the gateway-side queue; a refused one is dropped and counted (R36, R91). -/
def State.moveParked (s : State) (g : Grant) (k : Nat) : State × Bool :=
  let o := s.offer (.backbone g.gateway) { slot := k } false
  if o.2 then o
  else ((o.1.dropRef k).countSau fun c => { c with gatewayFullDrops := bump c.gatewayFullDrops }, false)

/-- R90 and R91 for one record's parked list, oldest first: what is still parked when the record stops. -/
def State.releaseFrames (s : State) (g : Grant) (n : Nat) : List Nat → State × List Nat
  | [] => (s, [])
  | k :: rest =>
    let cost := frameCost (s.slotLength k)
    let credit := ((s.record n).map Record.credit).getD 0
    if cost ≤ credit ∧ cost ≤ s.sau.pool then
      let o := s.moveParked g k
      if o.2 then
        let s1 := o.1.onRecord n fun x => { x with credit := x.credit - cost, charged := bumpBy x.charged cost }
        let s2 := s1.onSau fun b => { b with pool := b.pool - cost }
        (s2.countSau fun c => { c with framesReleased := bump c.framesReleased }).releaseFrames g n rest
      else o.1.releaseFrames g n rest
    else (s, k :: rest)

/-- One record's turn in a sweep (R90). -/
def State.releaseRecord (s : State) (g : Grant) (cls : Class) (n : Nat) : State :=
  match s.record n with
  | none => s
  | some r =>
    if r.cls = cls then
      let o := s.releaseFrames g n r.parked
      let s1 := o.1.onRecord n fun x => { x with parked := o.2 }
      if o.2.isEmpty then s1.leaveWaiting n else s1
    else s

/-- The release pass: the Waiting List read for PREMIUM, then STANDARD, then BASIC records (R90). -/
def State.releasePass (s : State) (g : Grant) : State :=
  [Class.premium, .standard, .basic].foldl
    (fun t cls => t.sau.waiting.foldl (fun u n => u.releaseRecord g cls n) t) s

/-- R95: a record that became SERVICE has its parked frames released uncharged. -/
def State.serviceRelease (s : State) (n : Nat) : State :=
  match s.record n, s.sau.state.grant with
  | some r, some g =>
    let s1 := r.parked.foldl
      (fun t k =>
        let o := t.moveParked g k
        if o.2 then o.1.countSau fun c => { c with framesUncharged := bump c.framesUncharged } else o.1) s
    (s1.onRecord n fun x => { x with parked := [] }).leaveWaiting n
  | _, _ => s

/-! ### Grants, refill and hold -/

/-- Every in-use record's credit is set by its class under a grant (R78, R89). -/
def State.setCredits (s : State) (credit : Class → Nat) : State :=
  s.onCt fun b => { b with records := b.records.map fun e => (e.1, { e.2 with credit := credit e.2.cls }) }

/-- R78: a grant applied at once from UPLINK_HELD. -/
def State.applyGrant (s : State) (g : Grant) : State :=
  let s1 := s.onSau fun b =>
    { b with state := .granted g none, pool := g.pool, refill := some g.period, overShareMark := false }
  (s1.setCredits g.allowance).countSau fun c => { c with grantsApplied := bump c.grantsApplied }

/-- R79: a grant made pending; an earlier pending grant is replaced. -/
def State.pendGrant (s : State) (inForce : Grant) (earlier : Option Grant) (g : Grant) : State :=
  let s1 := s.onSau fun b => { b with state := .granted inForce (some g) }
  s1.countSau fun c =>
    { c with
      grantsPended := bump c.grantsPended
      pendingReplaced := if earlier.isSome then bump c.pendingReplaced else c.pendingReplaced }

/-- R89: the refill, its six steps in order. -/
def State.doRefill (s : State) (inForce : Grant) (pending : Option Grant) : State :=
  let g := pending.getD inForce
  let s1 := s.onSau fun b => { b with state := .granted g none, pool := g.pool }
  let s2 := (s1.setCredits g.allowance).releasePass g
  let s3 := if s2.sau.overShareMark then s2.raise .overShare else s2
  let s4 := s3.onSau fun b => { b with overShareMark := false, refill := some g.period }
  s4.countSau fun c =>
    { c with
      refills := bump c.refills
      pendingTaken := if pending.isSome then bump c.pendingTaken else c.pendingTaken }

/-- R96: entry to UPLINK_HELD at a coupled-set change. -/
def State.enterHold (s : State) : State :=
  let s1 := s.ct.records.foldl (fun t e => t.discardParked e.2.parked) s
  let s2 := s1.onCt fun b =>
    { b with records := b.records.map fun e => (e.1, { e.2 with parked := [], credit := 0 }) }
  let s3 := s2.onSau fun b =>
    { b with state := .held, pool := 0, refill := none, overShareMark := false, waiting := [] }
  s3.countSau fun c => { c with holdEntries := bump c.holdEntries }

end Sys2Proof.Machine
end

