-- ==== Sys2Proof/Machine/ClientTable.lean ====
section
/-! DEFINITION. The Client Table and the Move Controller (R1 to R29, R52 to R74): records obtained and removed, learning at a
seat, admitted associations, moves, and class changes. -/

namespace Sys2Proof.Machine

/-! ### Messages to radios -/

/-- The counter a message to a radio advances (R147, R167). -/
def RadioOut.count (c : LinkCounters) : RadioOut → LinkCounters
  | .admitted _ => { c with madeAdmit := bump c.madeAdmit }
  | .refuse _ _ => { c with madeRefuse := bump c.madeRefuse }
  | .defer _ => { c with madeDefer := bump c.madeDefer }
  | .release _ => { c with madeRelease := bump c.madeRelease }
  | .drop _ => { c with madeDrop := bump c.madeDrop }
  | .setting _ _ _ => { c with madeSetting := bump c.madeSetting }

/-- A control message made for a ceiling link (R147). -/
def State.sendRadio (s : State) (c : LinkNo) (m : RadioOut) : State :=
  (s.countLink c fun x => m.count x).sendControl (.ceiling c) (.radio m)

/-! ### Timers of a record -/

/-- The idle time of a place's profile, in ms (R22). -/
def State.idleMs (s : State) : Place → Nat
  | .seat p => (s.seat p).profile.idleTime * 1000
  | .ceiling c _ => (s.link c).profile.idleTime * 1000

/-- The idle timer as it is set for a class at a place: a SERVICE record has none (R22). -/
def State.idleFor (s : State) (cls : Class) (pl : Place) : Timer :=
  if cls = .service then none else some (s.idleMs pl)

/-- The record becomes ATTACHED at a place, its idle timer set (R22). -/
def State.attach (s : State) (n : Nat) (pl : Place) : State :=
  s.onRecord n fun r => { r with st := .attached pl (s.idleFor r.cls pl) }

/-! ### Leaving ATTACHED and MOVING -/

/-- Hold queue entries discarded, each counted (R68, R69). -/
def State.discardHold (s : State) (hold : List Nat) : State :=
  hold.foldl (fun t k => (t.dropRef k).countMc fun c => { c with holdDiscarded := bump c.holdDiscarded }) s

/-- A place that leaves a seat discards the seat's egress queue (R8). -/
def State.leaveSeat (s : State) : Option Place → State
  | some (.seat p) => s.discardQueue (.seat p)
  | _ => s

/-- R21: a record enters LINGERING. A MOVING one has lost its target (R68). -/
def State.enterLingering (s : State) (n : Nat) : State :=
  match s.record n with
  | none => s
  | some r =>
    match r.st with
    | .lingering _ => s
    | .attached pl _ =>
      let s1 := s.onRecord n fun x => { x with st := .lingering (some (s.ct.lingerTime * 1000)) }
      (s1.leaveSeat (some pl)).clearParked n
    | .moving pl _ _ _ hold =>
      let s1 := s.onRecord n fun x => { x with st := .lingering (some (s.ct.lingerTime * 1000)) }
      let s2 := ((s1.leaveSeat (some pl)).clearParked n).discardHold hold
      s2.countMc fun c => { c with targetsLost := bump c.targetsLost }

/-- R25: a record becomes VACANT. -/
def State.vacate (s : State) (n : Nat) : State :=
  match s.record n with
  | none => s
  | some r => (((s.leaveSeat r.st.place).clearParked n).discardHold r.st.hold).delRecord n

/-- R26: a record is removed by EVICT or by a bar: DROP for a ceiling place or target, and the evictions counter. -/
def State.evictRecord (s : State) (n : Nat) : State :=
  match s.record n with
  | none => s
  | some r =>
    let s1 := s.vacate n
    let s2 := match r.st.place with
      | some (.ceiling c a) => s1.sendRadio c (.drop a)
      | _ => s1
    s2.countCt fun c => { c with evictions := bump c.evictions }

/-! ### Obtaining a record -/

/-- The linger time a record has left, when it is LINGERING. -/
def Record.lingerLeft (r : Record) : Option Nat :=
  match r.st with
  | .lingering t => some (t.getD 0)
  | _ => none

/-- R5: the LINGERING record with the least time left, the lowest number among equals. -/
def leastLingering : Table Record → Option (Nat × Nat)
  | [] => none
  | (n, r) :: rest =>
    match r.lingerLeft, leastLingering rest with
    | none, best => best
    | some t, none => some (n, t)
    | some t, some (m, u) => if t ≤ u then some (n, t) else some (m, u)

/-- R4: the number of a record for a new client, and whether it is reclaimed; `none` when no record can be had. -/
def State.obtain (s : State) : Option (Nat × Bool) :=
  let n := s.ct.records.firstFree 0
  if n < 512 then some (n, false)
  else (leastLingering s.ct.records).map fun e => (e.1, true)

/-- The class an Entitlement List kind gives (R102). BARRED is not a class and no record is created for a barred address, so
its line is never used. -/
def Kind.cls : Kind → Class
  | .standard => .standard
  | .premium => .premium
  | .service => .service
  | .barred => .basic

/-- R102: the kind of the entry that holds an address. -/
def State.entitlement (s : State) (x : Addr) : Option Kind := (s.el.entries.find? fun e => e.addr == x).map Entitlement.kind

/-- The class of an address (R7). -/
def State.classOf (s : State) (x : Addr) : Class := ((s.entitlement x).map Kind.cls).getD .basic

/-- R7: a new record set up at number `n`, ATTACHED at a place. -/
def State.setUp (s : State) (n : Nat) (reclaimed : Bool) (x : Addr) (pl : Place) : State :=
  let cls := s.classOf x
  let s1 := s.putRecord n
    { addr := x, cls := cls, credit := s.newCredit cls, parked := [], charged := 0, overShare := 0,
      st := .attached pl (s.idleFor cls pl) }
  s1.countCt fun c =>
    { c with created := bump c.created, reclaims := if reclaimed then bump c.reclaims else c.reclaims }

/-- R4, R5 and R7: a record obtained for a new client; `none` when creation fails. -/
def State.create (s : State) (x : Addr) (pl : Place) : Option (Nat × State) :=
  s.obtain.map fun o => (o.1, s.setUp o.1 o.2 x pl)

/-! ### Moves -/

/-- The port and association number that frames for a place are queued under (R34, R65). -/
def Place.port : Place → Port
  | .seat p => .seat p
  | .ceiling c _ => .ceiling c
def Place.entry (pl : Place) (slot : Nat) : Entry :=
  match pl with
  | .seat _ => { slot := slot }
  | .ceiling _ a => { slot := slot, assoc := a }

/-- R65: hold entries moved to a place's egress queue, oldest first; a refused one is dropped. -/
def State.flush (s : State) (pl : Place) (hold : List Nat) : State :=
  hold.foldl
    (fun t k =>
      let o := t.offer pl.port (pl.entry k) false
      if o.2 then o.1 else (o.1.dropRef k).countMc fun c => { c with flushDrops := bump c.flushDrops }) s

/-- R61: a move completes, counted by its cause. -/
def State.completeMove (s : State) (n : Nat) (count : McCounters → McCounters) : State :=
  match s.record n with
  | none => s
  | some r =>
    match r.st with
    | .moving target _ _ _ hold => ((s.flush target hold).attach n target).countMc count
    | _ => s

/-- R55: another MOVING record with the same former place completes its move first. -/
def State.supersede (s : State) (c : LinkNo) (a : AssocNo) : State :=
  match s.byFormer c a with
  | none => s
  | some (m, _) => s.completeMove m fun k => { k with supersessions := bump k.supersessions }

/-- R54: a move begins for record `n` from the former place (c, a) towards a target. -/
def State.beginMove (s : State) (n : Nat) (c : LinkNo) (a : AssocNo) (target : Place) : State :=
  let s1 := s.supersede c a
  let s2 := s1.onRecord n fun r => { r with st := .moving target c a none [] }
  let s3 := s2.sendRadio c (.release a)
  let s4 := s3.onRecord n fun r => { r with st := .moving target c a (some s.mc.releaseTimeout) [] }
  s4.countMc fun k => { k with begun := bump k.begun }

/-- The abandoned target of a retarget or a cancelled move is released (R66). -/
def State.abandonTarget (s : State) : Place → State
  | .seat q => s.discardQueue (.seat q)
  | .ceiling e n => s.sendRadio e (.drop n)

/-- R66: a move is retargeted. -/
def State.retarget (s : State) (n : Nat) (target : Place) : State :=
  match s.record n with
  | none => s
  | some r =>
    match r.st with
    | .moving old c a deadline hold =>
      let s1 := (s.abandonTarget old).onRecord n fun x => { x with st := .moving target c a deadline hold }
      s1.countMc fun k => { k with retargets := bump k.retargets }
    | _ => s

/-- R67: a move is cancelled by an association on the former link. -/
def State.cancelMove (s : State) (n : Nat) (place : Place) : State :=
  match s.record n with
  | none => s
  | some r =>
    match r.st with
    | .moving old _ _ _ hold =>
      let s1 := (((s.abandonTarget old).attach n place).flush place hold)
      s1.countMc fun k => { k with cancellations := bump k.cancellations }
    | _ => s

/-! ### Learning at a seat -/

/-- Another occupant of the seat goes to LINGERING before client `n` takes it (R8). -/
def State.clearSeat (s : State) (p : SeatNo) (n : Option Nat) : State :=
  match s.occupant p with
  | none => s
  | some (m, _) => if some m = n then s else s.enterLingering m

/-- R10 to R13: a frame from source X arrives from seat p. The record of the client, or `none` when creation fails (R6). -/
def State.learnSeat (s : State) (p : SeatNo) (x : Addr) : State × Option Nat :=
  match s.byAddr x with
  | none =>
    let s1 := s.clearSeat p none
    match s1.create x (.seat p) with
    | some (n, s2) => (s2, some n)
    | none => ((s1.countCt fun c => { c with creationFailures := bump c.creationFailures }).raise .tableFull, none)
  | some (n, r) =>
    match r.st with
    | .attached (.seat q) _ =>
      if q = p then (s.attach n (.seat p), some n)
      else (((s.clearSeat p (some n)).discardQueue (.seat q)).attach n (.seat p), some n)
    | .attached (.ceiling c a) _ => ((s.clearSeat p (some n)).beginMove n c a (.seat p), some n)
    | .moving target _ _ _ _ =>
      if target = .seat p then (s, some n) else ((s.clearSeat p (some n)).retarget n (.seat p), some n)
    | .lingering _ => ((s.clearSeat p (some n)).attach n (.seat p), some n)

/-! ### Admitted associations -/

/-- The in-use record other than X's own whose place is (c, a): the displaced record of R14 and R156. -/
def State.displaced (s : State) (x : Addr) (c : LinkNo) (a : AssocNo) : Option Nat :=
  match s.atPlace (.ceiling c a) with
  | some (m, r) => if r.addr = x then none else some m
  | none => none

/-- R14 to R17: the hand-over of an admitted association (X, c, a). -/
def State.handOver (s : State) (x : Addr) (c : LinkNo) (a : AssocNo) : State :=
  let pl := Place.ceiling c a
  let s1 := match s.displaced x c a with
    | some m => s.enterLingering m
    | none => s
  match s1.byAddr x with
  | none =>
    match s1.create x pl with
    | some (_, s2) => s2
    | none => s1
  | some (n, r) =>
    match r.st with
    | .lingering _ => s1.attach n pl
    | .attached (.seat q) _ => (s1.discardQueue (.seat q)).attach n pl
    | .attached (.ceiling d b) _ => if d = c then s1.attach n pl else s1.beginMove n d b pl
    | .moving target f b deadline hold =>
      if f = c then s1.cancelMove n pl
      else if target.onLink c then s1.onRecord n fun y => { y with st := .moving pl f b deadline hold }
      else s1.retarget n pl

/-! ### Events of a link or a seat -/

/-- The numbers of the records that fit, rising. -/
def State.recordsWhere (s : State) (p : Record → Bool) : List Nat :=
  (s.ct.records.filter fun e => p e.2).map Prod.fst

/-- R19: links leave READY in one event. What is placed on any of them lingers, a move's loss of target before any flush (R65,
R68); then the moves away from them complete, in rising order of record number across the event (R63). -/
def State.linksLost (s : State) (cs : List LinkNo) : State :=
  let placed := s.recordsWhere fun r => r.st.place.any fun pl => cs.any fun c => pl.onLink c
  let leaving := s.recordsWhere fun r => r.st.former.any fun f => cs.contains f.1
  let s1 := placed.foldl (fun t n => t.enterLingering n) s
  leaving.foldl (fun t n => t.completeMove n fun k => { k with byLinkLoss := bump k.byLinkLoss }) s1

/-- R20: seat p is reported DOWN. -/
def State.seatLost (s : State) (p : SeatNo) : State :=
  match s.occupant p with
  | none => s
  | some (n, _) => s.enterLingering n

/-- R18: DISASSOC(a) on READY link c. -/
def State.disassociate (s : State) (c : LinkNo) (a : AssocNo) : State :=
  let placed := s.atPlace (.ceiling c a)
  let leaving := s.byFormer c a
  let s1 := match placed with
    | some (n, _) => s.enterLingering n
    | none => s
  let s2 := match leaving with
    | some (n, _) => s1.completeMove n fun k => { k with byDisassociation := bump k.byDisassociation }
    | none => s1
  if placed.isNone && leaving.isNone then
    s2.countCt fun k => { k with unmatchedDisassociations := bump k.unmatchedDisassociations }
  else s2

/-- R62: RELEASED(a) on READY link c. -/
def State.releasedBy (s : State) (c : LinkNo) (a : AssocNo) : State :=
  match s.byFormer c a with
  | some (n, _) => s.completeMove n fun k => { k with byRelease := bump k.byRelease }
  | none => s.countMc fun k => { k with strayReleases := bump k.strayReleases }

/-- R58: a downstream frame for a MOVING record: held, or dropped when the hold queue is full. -/
def State.holdFrame (s : State) (n slot : Nat) : State :=
  match s.record n with
  | none => s.settle slot
  | some r =>
    match r.st with
    | .moving target c a deadline hold =>
      if hold.length < 32 then
        (s.addRef slot).onRecord n fun x => { x with st := .moving target c a deadline (hold ++ [slot]) }
      else (s.countMc fun k => { k with holdQueueDrops := bump k.holdQueueDrops }).settle slot
    | _ => s.settle slot

/-! ### Class changes -/

/-- The idle timer after a class change (R24): it stops at SERVICE, starts afresh from SERVICE, and runs on otherwise. -/
def State.idleAfterChange (s : State) (old new : Class) : RecordState → RecordState
  | .attached pl idle =>
    if new = .service then .attached pl none
    else if old = .service then .attached pl (some (s.idleMs pl))
    else .attached pl idle
  | st => st

/-- R24, R94, R95: the class of a record is set. An unchanged class changes nothing. -/
def State.setClass (s : State) (n : Nat) (new : Class) : State :=
  match s.record n with
  | none => s
  | some r =>
    if r.cls = new then s
    else
      let s1 := s.onRecord n fun x => { x with cls := new, st := s.idleAfterChange r.cls new x.st }
      if new = .service ∧ ¬ r.parked.isEmpty then s1.serviceRelease n else s1

/-- The class of an address's record becomes what an entry gives, or BASIC (R24, R105). -/
def State.setClassOf (s : State) (x : Addr) (new : Class) : State :=
  match s.byAddr x with
  | none => s
  | some (n, _) => s.setClass n new

end Sys2Proof.Machine
end

