-- ==== Sys2Proof/Machine/Entitlement.lean ====
section
/-! DEFINITION. The Entitlement List (R101 to R116): writing, removing and expiring entries, and what each change claims of the
Client Table. -/

namespace Sys2Proof.Machine

/-- The entry that holds an address. -/
def State.entryOf (s : State) (x : Addr) : Option Entitlement := s.el.entries.find? fun e => e.addr == x

/-- An entry written among the others, replacing the one of its address (R103). The entries stand in rising order of
address. -/
def putEntitlement (e : Entitlement) : List Entitlement → List Entitlement
  | [] => [e]
  | d :: rest =>
    if e.addr.toNat < d.addr.toNat then e :: d :: rest
    else if e.addr = d.addr then e :: rest
    else d :: putEntitlement e rest

/-- What an ENTITLE did to the record of its address (R103). -/
inductive RecordEffect where
  | noRecord | classSet | classAlready | removed
  deriving DecidableEq, Repr

/-- The effect's code (R222). -/
def RecordEffect.code : RecordEffect → Byte
  | .noRecord => 0
  | .classSet => 1
  | .classAlready => 2
  | .removed => 3

/-- The effect a written kind has on the record of an address (R104). -/
def recordEffect (kind : Kind) : Option (Nat × Record) → RecordEffect
  | none => .noRecord
  | some (_, r) => if kind = .barred then .removed else if r.cls = kind.cls then .classAlready else .classSet

/-- R104: a written entry claims the Client Table for its address. -/
def State.pushEntitlement (s : State) (e : Entitlement) : State :=
  match s.byAddr e.addr with
  | none => s
  | some (n, _) => if e.kind = .barred then s.evictRecord n else s.setClass n e.kind.cls

/-- R103: an entry written for an address, an earlier one being replaced; then R104. -/
def State.writeEntitlement (s : State) (e : Entitlement) : State :=
  let old := s.entryOf e.addr
  let s1 := s.onEl fun b => { b with entries := putEntitlement e b.entries }
  let s2 := s1.countEl fun c =>
    { c with
      added := if old.isSome then c.added else bump c.added
      replaced := if old.isSome then bump c.replaced else c.replaced
      barsLifted := if old.any (fun d => d.kind == .barred) && e.kind != .barred then bump c.barsLifted else c.barsLifted }
  s2.pushEntitlement e

/-- What the removal of an entry brings (R105, R108, R113): a bar is lifted, or the class of the record of its address becomes
BASIC. -/
def State.entryGone (s : State) (e : Entitlement) : State :=
  if e.kind = .barred then s.countEl fun c => { c with barsLifted := bump c.barsLifted } else s.setClassOf e.addr .basic

/-- The entries that fit removed in one event, each removal counted, and then what each brings. -/
def State.removeEntitlements (s : State) (out : Entitlement → Bool) (count : ElCounters → ElCounters) : State :=
  let gone := s.el.entries.filter out
  let s1 := s.onEl fun b => { b with entries := b.entries.filter fun e => !out e }
  gone.foldl (fun t e => (t.countEl count).entryGone e) s1

/-- One minute taken from a timed entry (R108). -/
def Entitlement.minuteLater (e : Entitlement) : Entitlement := { e with minutes := e.minutes.map fun m => m - 1 }

/-- R108: the minute timer's expiry. -/
def State.minuteExpiry (s : State) : State :=
  let s1 := s.onEl fun b => { b with entries := b.entries.map Entitlement.minuteLater, minute := some 60000 }
  s1.removeEntitlements (fun e => e.minutes == some 0) fun c => { c with expired := bump c.expired }

end Sys2Proof.Machine
end

