-- ==== Sys2Proof/Machine/SeatPorts.lean ====
section
/-! DEFINITION. The Seat Port block (R117 to R140): link states, profiles, trunks, frames from a seat, and the lamps. -/

namespace Sys2Proof.Machine

/-! ### Link states -/

/-- R119: the three conditions of UP. -/
def State.seatShouldBeUp (s : State) (p : SeatNo) : Bool :=
  (s.trunk (trunkOf p)).state == .present && (s.seat p).indication.isSome && (s.seat p).profile.enabled

/-- A seat goes DOWN (R20, R40, R119). -/
def State.seatDown (s : State) (p : SeatNo) : State :=
  let s1 := s.onSeat p fun x => { x with up := false, counts := { x.counts with linkDowns := bump x.counts.linkDowns } }
  (s1.seatLost p).discardQueue (.seat p)

/-- R119: a seat takes the link state that its conditions give. -/
def State.seatUpdate (s : State) (p : SeatNo) : State :=
  if s.seatShouldBeUp p then
    if (s.seat p).up then s else s.onSeat p fun x => { x with up := true }
  else if (s.seat p).up then s.seatDown p
  else s

/-- R122: a seat profile replaced; the enabled change is made before the loopback change, and entering loopback discards the
seat's queue (R126). -/
def State.setSeatProfile (s : State) (p : SeatNo) (profile : SeatProfile) : State :=
  let old := (s.seat p).profile
  let s1 := (s.onSeat p fun x => { x with profile := { profile with loopback := old.loopback } }).seatUpdate p
  let s2 := s1.onSeat p fun x => { x with profile := profile }
  if profile.loopback && !old.loopback then s2.discardQueue (.seat p) else s2

/-! ### Trunks -/

/-- The status of a trunk gives its seats' indications (R117). -/
def State.applyIndications (s : State) (t : TrunkNo) : State :=
  (numbers 8).foldl
    (fun u i => (u.onSeat (seatAt t i) fun x => { x with indication := (u.trunk t).wire[i] }).seatUpdate (seatAt t i)) s

/-- A trunk enters PRESENT, at release or when its signal returns: the first status gives all eight indications, and the eight
lamps are to be set afresh (R117, R135). -/
def State.trunkPresent (s : State) (t : TrunkNo) : State :=
  let s1 := s.onTrunk t fun x => { x with state := .present }
  (s1.applyIndications t).onEv fun e => { e with relamp := e.relamp ++ [t] }

/-- R117: a trunk leaves HELD at release. -/
def State.releaseTrunk (s : State) (t : TrunkNo) : State :=
  if (s.trunk t).signal then s.trunkPresent t else s.onTrunk t fun x => { x with state := .lost }

/-- The signal of a trunk is lost (R118). The wire has no status then (log entry 17); the cut frames counter rises by the frames
that were being delivered (log entry 36). The loss of a signal that is absent changes nothing (DESIGN CHOICE, unsafe; log entry 52). -/
def State.trunkLoss (s : State) (t : TrunkNo) (cut : Nat) : State :=
  let x := s.trunk t
  if !x.signal then s
  else
    let s1 := s.onTrunk t fun y => { y with signal := false, wire := Vector.replicate 8 none }
    if x.state = .present then
      let s2 := s1.onTrunk t fun y =>
        { y with state := .lost, signalLosses := bump y.signalLosses, cutFrames := bumpBy y.cutFrames cut }
      (s2.applyIndications t).raise .seatTrunkLoss
    else s1

/-- The signal of a trunk returns with its first status (R117, R135). The return of a signal that is present changes nothing (DESIGN
CHOICE, unsafe; log entry 52). -/
def State.trunkReturn (s : State) (t : TrunkNo) (status : TrunkStatus) : State :=
  let x := s.trunk t
  if x.signal then s
  else
    let s1 := s.onTrunk t fun y => { y with signal := true, wire := status }
    if x.state = .lost then s1.trunkPresent t else s1

/-- The status of one seat on its trunk's wire changes; a PRESENT trunk passes it on (R117, R119, R120). -/
def State.seatStatus (s : State) (p : SeatNo) (indication : Option Speed) : State :=
  let t := trunkOf p
  let x := s.trunk t
  if !x.signal then s
  else
    let s1 := s.onTrunk t fun y => { y with wire := y.wire.set (positionOf p) indication }
    if x.state = .present then (s1.onSeat p fun y => { y with indication := indication }).seatUpdate p else s1

/-! ### Frames from a seat -/

/-- The checks of R124, in order. -/
inductive SeatCheck where
  | checkError | runt | oversize | barred | badSource
  deriving DecidableEq, Repr

/-- Checks 1 to 3 of R124. -/
def State.seatFrameFault (s : State) (p : SeatNo) (frame : Bytes) : Option SeatCheck :=
  if !frameCheckOk frame then some .checkError
  else if frame.length < 64 then some .runt
  else if (s.seat p).profile.maxLength < frame.length then some .oversize
  else none

/-- An address no client frame may come from: multicast, zero, or one of the part's own (R124). -/
def State.badSource (s : State) (x : Addr) : Bool :=
  isMulticast x || x == 0 || x == s.me.addressing.cabinet || x == allCabinets || x == s.me.addressing.group

/-- Checks 4 and 5 of R124. -/
def State.seatSourceFault (s : State) (x : Addr) : Option SeatCheck :=
  if s.entitlement x = some .barred then some .barred else if s.badSource x then some .badSource else none

/-- The counter a failed check advances (R124). -/
def SeatCheck.count (c : SeatCounters) : SeatCheck → SeatCounters
  | .checkError => { c with checkErrors := bump c.checkErrors }
  | .runt => { c with runts := bump c.runts }
  | .oversize => { c with oversize := bump c.oversize }
  | .barred => { c with barred := bump c.barred }
  | .badSource => { c with badSource := bump c.badSource }

/-- A client-side frame refused a slot (R31). -/
def State.clientNoSlot (s : State) : State := s.countFs fun c => { c with clientNoSlot := bump c.clientNoSlot }

/-- R127: a frame returned by loopback. -/
def State.loopFrame (s : State) (p : SeatNo) (frame : Bytes) : State :=
  match s.claim clientReserve (.seat p) false (fun _ => frame) with
  | none => s.clientNoSlot
  | some (k, s1) =>
    let o := s1.append (.seat p) { slot := k } true
    if o.2 then o.1.countSeat p fun c => { c with looped := bump c.looped } else o.1.settle k

/-- R124's hand-over: the frame has a slot, its client is learned (R10 to R13), and it goes on to the Share Accounting Unit. A
frame whose client can have no record is dropped (R6). -/
def State.learnAndSubmit (s : State) (p : SeatNo) (frame : Bytes) : State :=
  match s.claim clientReserve (.seat p) false (fun _ => frame) with
  | none => s.clientNoSlot
  | some (k, s1) =>
    let o := (s1.countSeat p fun c => { c with accepted := bump c.accepted }).learnSeat p (frameSrc frame)
    match o.2 with
    | some n => o.1.submit k n
    | none => o.1.settle k

/-- A barred frame (R111): counted by the caller, the cause raised and the seat's mark set. -/
def State.barredFrame (s : State) (p : SeatNo) : State :=
  (s.onSeat p fun x => { x with barredMark := some 10000 }).raise .barredSeen

/-- R123 and R124: a frame delivered whole for seat p. A trunk that is HELD delivers none (R117, log entry 19). -/
def State.seatFrame (s : State) (p : SeatNo) (frame : Bytes) : State :=
  if (s.trunk (trunkOf p)).state = .held then s
  else if !(s.seat p).up then s.countSeat p fun c => { c with notUp := bump c.notUp }
  else
    let s1 := s.countSeat p fun c => { c with received := bump c.received }
    match s.seatFrameFault p frame with
    | some why => s1.countSeat p fun c => why.count c
    | none =>
      let s2 := s1.onSeat p fun x => { x with activity := some 100 }
      if (s.seat p).profile.loopback then s2.loopFrame p frame
      else
        match s.seatSourceFault (frameSrc frame) with
        | some .barred => (s2.countSeat p fun c => SeatCheck.barred.count c).barredFrame p
        | some why => s2.countSeat p fun c => why.count c
        | none => s2.learnAndSubmit p frame

/-! ### Lamps -/

/-- R130: the six conditions of a seat. A timer that has expired runs until its expiry event is taken (R131, R132). -/
def State.lampConditions (s : State) (p : SeatNo) : LampConditions :=
  let x := s.seat p
  match s.occupant p with
  | none =>
    { linkUp := x.up, clientAttached := false, entitled := false, parked := false, activity := x.activity.isSome,
      lampBarred := x.barredMark.isSome }
  | some (_, r) =>
    { linkUp := x.up, clientAttached := true, entitled := r.cls != .basic, parked := !r.parked.isEmpty,
      activity := x.activity.isSome, lampBarred := x.barredMark.isSome }

/-- The strength of an effect (R133). -/
def Effect.strength : Effect → Nat
  | .none => 0
  | .steady => 1
  | .slow => 2
  | .fast => 3

/-- The stronger of two effects. -/
def Effect.stronger (a b : Effect) : Effect := if a.strength < b.strength then b else a

/-- The effect of a condition that holds. -/
def Effect.when (e : Effect) (holds : Bool) : Effect := if holds then e else .none

/-- R133: the strongest of the effects that the rule set gives to the conditions that hold. -/
def strongestEffect (r : LampRules) (c : LampConditions) : Effect :=
  (((((r.linkUp.when c.linkUp).stronger (r.clientAttached.when c.clientAttached)).stronger
    (r.entitled.when c.entitled)).stronger (r.parked.when c.parked)).stronger (r.activity.when c.activity)).stronger
    (r.lampBarred.when c.lampBarred)

/-- The effect a force gives, `none` for AUTO (R133). -/
def Force.effect : Force → Option Effect
  | .auto => none
  | .off => some .none
  | .steady => some .steady
  | .slow => some .slow
  | .fast => some .fast

/-- An effect with the carriage brightness as its duty; OFF has duty 0 (R133, R223). -/
def lampOutput (e : Effect) (brightness : Nat) : LampOutput :=
  if e = .none then { effect := .none, duty := 0 } else { effect := e, duty := brightness }

/-- R133: the output that seat p's lamp resolves to. -/
def State.resolveLamp (s : State) (p : SeatNo) : LampOutput :=
  lampOutput ((s.seat p).force.effect.getD (strongestEffect s.spb.rules (s.lampConditions p))) s.spb.brightness

/-- R135: a command is made for the seat in this event. -/
def State.lampDue (s : State) (p : SeatNo) : Bool :=
  (s.trunk (trunkOf p)).state == .present
    && (s.resolveLamp p != (s.seat p).resolved || s.ev.relamp.contains (trunkOf p))

/-- The lamp of one seat resolved, recorded, and commanded where R135 asks it. -/
def State.sweepLamp (s : State) (p : SeatNo) : State :=
  let out := s.resolveLamp p
  let s1 := if out = (s.seat p).resolved then s else s.onSeat p fun x => { x with resolved := out }
  if s.lampDue p then s1.sendControl (.seat p) (.lamp out) else s1

/-- The lamps of all seats resolved, as at the end of an event (R133). A seat none of whose inputs changed resolves to what it
had. The commands of one event go out in rising order of seat (log entry 45). -/
def State.sweepLamps (s : State) : State :=
  (allSeats.foldl (fun t p => t.sweepLamp p) s).onEv fun e => { e with relamp := [] }

end Sys2Proof.Machine
end

