-- ==== Sys2Proof/Machine/Ceiling.lean ====
section
/-! DEFINITION. The Ceiling Link block (R141 to R168): link states, profiles, the load survey, radio messages, admission, the
Deferral List and the setting relay. -/

namespace Sys2Proof.Machine

/-- A response joins those the event is to compose at its end (R191). -/
def State.pushResponse (s : State) (r : Response) : State := s.onEv fun e => { e with responses := e.responses ++ [r] }

/-! ### Setting relay -/

/-- The request code of RELAY_SETTING. -/
def relayCode : Byte := 0x27

/-- An exchange ends: the relay becomes IDLE and its response is to be composed (R164, R165). -/
def State.endRelay (s : State) (c : LinkNo) (status : Status) (args : Bytes) (count : LinkCounters → LinkCounters) : State :=
  match (s.link c).relay with
  | none => s
  | some r =>
    let s1 := s.onLink c fun x => { x with relay := none, counts := count x.counts }
    s1.pushResponse
      { station := r.station, side := r.side, long := true, code := relayCode, tag := r.tag, status := status, args := args }

/-- The link as the byte of an answer. -/
def linkByte (c : LinkNo) : Byte := BitVec.ofNat 8 c.val

/-- What an exchange ended by TIMEOUT or LINK_DOWN carries: link and item (R222). -/
def relayNames (c : LinkNo) : Option Relay → Bytes
  | none => []
  | some r => [linkByte c, r.item]

/-- R163: the timeout of an exchange. -/
def State.relayExpiry (s : State) (c : LinkNo) : State :=
  s.endRelay c .timeout (relayNames c (s.link c).relay) fun k => { k with relaysTimedOut := bump k.relaysTimedOut }

/-- R163: a SETTING_ANSWER on a READY link. -/
def State.takeSettingAnswer (s : State) (c : LinkNo) (item : Byte) (value : Word) (result : Byte) : State :=
  let stray := s.countLink c fun k => { k with strayAnswers := bump k.strayAnswers }
  match (s.link c).relay with
  | none => stray
  | some r =>
    if r.item = item then
      s.endRelay c .ok (linkByte c :: item :: (if r.write then 1 else 0) :: (wordBytes value ++ [result])) fun k =>
        { k with relaysAnswered := bump k.relaysAnswered }
    else stray

/-! ### Link states -/

/-- R143 for one link that has left READY, beside its clients: its queue discarded, its exchange ended, its survey abandoned, the
cause raised. -/
def State.linkClosed (s : State) (c : LinkNo) : State :=
  let s1 := s.discardQueue (.ceiling c)
  let s2 := s1.endRelay c .linkDown (relayNames c (s1.link c).relay) fun k => { k with relaysLinkDown := bump k.relaysLinkDown }
  let s3 := s2.onLink c fun x =>
    { x with window := none, survey := none, counts := { x.counts with linkLosses := bump x.counts.linkLosses } }
  s3.raise .ceilingLinkLoss

/-- R143: READY links leave READY for a new state in one event. All have left it before any move completes, so none takes a
flush (R65); the rest of R143 follows link by link, in rising order (log entry 43). -/
def State.leaveReady (s : State) (cs : List LinkNo) (new : LinkState) : State :=
  let s1 := cs.foldl (fun t c => t.onLink c fun x => { x with state := new }) s
  cs.foldl (fun t c => t.linkClosed c) (s1.linksLost cs)

/-- A survey window that begins takes the profile's length as it stands (R153). -/
def Link.newWindow (x : Link) : SurveyWindow := { length := x.profile.surveyWindow, left := x.profile.surveyWindow, busy := 0 }

/-- R144: a link enters READY. The window that begins counts from the next tick of status on: the tick whose event brings the link to
READY is none of its ticks (DESIGN CHOICE, unsafe; log entry 28). -/
def State.enterReady (s : State) (c : LinkNo) : State :=
  s.onLink c fun x => { x with state := .ready, window := some x.newWindow }

/-- R154: a survey window ends, its result is stored, and the next begins. -/
def State.windowEnd (s : State) (c : LinkNo) : State :=
  s.onLink c fun x =>
    match x.window with
    | none => x
    | some w => { x with survey := some { busy := w.busy, length := w.length }, window := some x.newWindow }

/-- The window has had its n ticks (log entry 28). -/
def Link.windowDone (x : Link) : Bool := x.window.any fun w => w.left == 0

/-- R153: one tick of the survey window. A window that has had all its ticks, and whose end has not been taken, ends first (log
entry 28). -/
def State.surveyTick (s : State) (c : LinkNo) (busy : Bool) : State :=
  let s1 := if (s.link c).windowDone then s.windowEnd c else s
  s1.onLink c fun x =>
    { x with window := x.window.map fun w => { w with left := w.left - 1, busy := w.busy + busy.toNat } }

/-- R142: a tick of the radio's status, or a tick without signal; `cut` says that a frame or message was being delivered. -/
def State.statusTick (s : State) (c : LinkNo) (status : Option RadioStatus) (cut : Bool) : State :=
  let s0 := s.onLink c fun x => { x with statusIn := status.isSome }
  match (s.link c).state, status with
  | .held, _ => s0
  | st, none =>
    let s1 := s0.onLink c fun x =>
      { x with
        ready := false
        busy := false
        counts := { x.counts with cutFrames := if cut then bump x.counts.cutFrames else x.counts.cutFrames } }
    if st = .ready then s1.leaveReady [c] .down else s1.onLink c fun x => { x with state := .down }
  | st, some r =>
    let s1 := s0.onLink c fun x => { x with ready := r.ready, busy := r.busy }
    match st with
    | .ready => if r.ready then s1.surveyTick c r.busy else s1.leaveReady [c] .unready
    | .unready => if r.ready && (s1.link c).profile.enabled then s1.enterReady c else s1
    | _ => s1.onLink c fun x => { x with state := .unready }

/-- R141: a link leaves HELD at release. -/
def State.releaseLink (s : State) (c : LinkNo) : State :=
  s.onLink c fun x => { x with state := if x.statusIn then .unready else .down }

/-- R151 and R152: ceiling profiles replaced in one event; the READY links that this disables go to UNREADY together. Every
profile is in force before they do, so a move that completes takes its target's new idle time (log entry 42). -/
def State.setCeilingProfiles (s : State) (profiles : List (LinkNo × CeilingProfile)) : State :=
  let disabled := (profiles.filter fun e => (s.link e.1).state == .ready && !e.2.enabled).map Prod.fst
  let s1 := profiles.foldl (fun t e => t.onLink e.1 fun x => { x with profile := e.2 }) s
  s1.leaveReady disabled .unready

/-- The accepting indication the part sends on a link that is not HELD (R141). -/
def Link.accepting (x : Link) : Bool := x.state != .held && x.profile.enabled

/-! ### Upstream DATA -/

/-- What R148's fourth check finds. -/
inductive DataOwner where
  | record (n : Nat) (attached : Bool)
  | unassociated
  | mismatch
  deriving DecidableEq, Repr

/-- A record found by number, if its address is the frame's source (R53). -/
def ownerIf (x : Addr) : Option (Nat × Record) → Option (Nat × Record)
  | none => none
  | some (n, r) => if r.addr = x then some (n, r) else none

/-- A record is ATTACHED. -/
def Record.isAttached (r : Record) : Bool :=
  match r.st with
  | .attached _ _ => true
  | _ => false

/-- R53 and R148: whose frame a DATA(a) from source x is. -/
def State.dataOwner (s : State) (c : LinkNo) (a : AssocNo) (x : Addr) : DataOwner :=
  let placed := s.atPlace (.ceiling c a)
  let former := s.byFormer c a
  match ownerIf x placed, ownerIf x former with
  | some (n, r), _ => .record n r.isAttached
  | none, some (n, _) => .record n false
  | none, none => if placed.isNone && former.isNone then .unassociated else .mismatch

/-- R149: a DATA frame that passes its checks. -/
def State.acceptData (s : State) (c : LinkNo) (n : Nat) (attached : Bool) (place : Place) (frame : Bytes) : State :=
  match s.claim clientReserve (.ceiling c) false (fun _ => frame) with
  | none => s.clientNoSlot
  | some (k, s1) =>
    let s2 := s1.countLink c fun x => { x with accepted := bump x.accepted }
    let s3 := if attached then s2.attach n place else s2
    s3.submit k n

/-- R148: DATA(a, frame) on READY link c. -/
def State.takeData (s : State) (c : LinkNo) (a : AssocNo) (frame : Bytes) : State :=
  let s1 := s.countLink c fun x => { x with received := bump x.received }
  if !frameCheckOk frame then s1.countLink c fun x => { x with checkErrors := bump x.checkErrors }
  else if frame.length < 64 then s1.countLink c fun x => { x with runts := bump x.runts }
  else if (s.link c).profile.maxLength < frame.length then s1.countLink c fun x => { x with oversize := bump x.oversize }
  else
    match s.dataOwner c a (frameSrc frame) with
    | .unassociated => (s1.countLink c fun x => { x with unassociated := bump x.unassociated }).raise .unassociated
    | .mismatch => s1.countLink c fun x => { x with mismatches := bump x.mismatches }
    | .record n attached => s1.acceptData c n attached (.ceiling c a) frame

/-! ### Admission -/

/-- R155: the link is crowded. -/
def Link.crowded (x : Link) : Bool :=
  match x.survey with
  | none => false
  | some v => x.profile.threshold != 0 && decide (x.profile.threshold * v.length ≤ v.busy * 100)

/-- R159 step 2: a link other than c that a deferred client could try. -/
def State.quieterLink (s : State) (c : LinkNo) : Bool :=
  allLinks.any fun d =>
    d != c && (s.link d).state == .ready && !(s.link d).crowded
      && decide (s.attachedCount d < (s.link d).profile.clientLimit)

/-- R156: X counts as SERVICE. -/
def State.isService (s : State) (x : Addr) : Bool :=
  match s.byAddr x with
  | some (_, r) => r.cls == .service
  | none => s.classOf x == .service

/-- R156: the effective count of c for ASSOC(X, a). -/
def State.effectiveCount (s : State) (x : Addr) (c : LinkNo) (a : AssocNo) : Nat :=
  if (s.displaced x c a).isSome then s.attachedCount c - 1 else s.attachedCount c

/-- R159: a record can be had. -/
def State.canHaveRecord (s : State) (x : Addr) (c : LinkNo) (a : AssocNo) : Bool :=
  s.obtain.isSome || (s.displaced x c a).isSome

/-- The Deferral List holds an address. -/
def State.isDeferred (s : State) (x : Addr) : Bool := s.clb.deferrals.any fun d => d.addr == x

/-- R156 to R159: the answer to ASSOC(X, a) on READY link c. -/
def State.admission (s : State) (x : Addr) (c : LinkNo) (a : AssocNo) : AssocAnswer :=
  let full := decide ((s.link c).profile.clientLimit ≤ s.effectiveCount x c a) && !s.isService x
  if s.entitlement x = some .barred then .refused .barred
  else
    match (s.byAddr x).bind fun e => e.2.st.place with
    | some pl => if pl.onLink c then .admitted else if full then .refused .linkFull else .admitted
    | none =>
      if full then .refused .linkFull
      else if (s.link c).crowded && !s.isService x && !s.isDeferred x && s.quieterLink c then .deferred
      else if (s.byAddr x).isNone && !s.canHaveRecord x c a then .refused .tableFull
      else .admitted

/-- R162: an entry inserted at the tail, the oldest removed when the list is full. -/
def State.insertDeferral (s : State) (x : Addr) : State :=
  s.onClb fun b =>
    let e : Deferral := { addr := x, left := b.deferWindow }
    if b.deferrals.length < 32 then { b with deferrals := b.deferrals ++ [e] }
    else { b with deferrals := b.deferrals.drop 1 ++ [e], overflows := bump b.overflows }

/-- R162: an entry removed. -/
def State.removeDeferral (s : State) (x : Addr) : State :=
  s.onClb fun b => { b with deferrals := b.deferrals.filter fun d => d.addr != x }

/-- A deferral entry's time has expired (R162). -/
def State.deferralDue (s : State) (x : Addr) : Bool := s.clb.deferrals.any fun d => d.addr == x && d.left == 0

/-- R162: an entry's expiry. -/
def State.deferralOver (s : State) (x : Addr) : State :=
  (s.removeDeferral x).onClb fun b => { b with expiries := bump b.expiries }

/-- What an answer brings (R112, R156 to R159). -/
def State.answerAssoc (s : State) (x : Addr) (c : LinkNo) (a : AssocNo) : AssocAnswer → State
  | .admitted =>
    let s1 := (s.sendRadio c (.admitted a)).countLink c fun k => { k with admissions := bump k.admissions }
    (s1.removeDeferral x).handOver x c a
  | .deferred =>
    ((s.sendRadio c (.defer a)).countLink c fun k => { k with deferrals := bump k.deferrals }).insertDeferral x
  | .refused .barred =>
    ((s.sendRadio c (.refuse a .barred)).countLink c fun k => { k with refusedBarred := bump k.refusedBarred }).raise .barredSeen
  | .refused .linkFull =>
    ((s.sendRadio c (.refuse a .linkFull)).countLink c fun k => { k with refusedLinkFull := bump k.refusedLinkFull }).raise
      .linkFull
  | .refused .tableFull =>
    ((s.sendRadio c (.refuse a .tableFull)).countLink c fun k => { k with refusedTableFull := bump k.refusedTableFull }).raise
      .tableFull

/-- R156: ASSOC(X, a, signal) on READY link c. -/
def State.takeAssoc (s : State) (c : LinkNo) (a : AssocNo) (x : Addr) (signal : Byte) : State :=
  let answer := s.admission x c a
  let s1 := s.onLink c fun k =>
    { k with
      lastAssoc := some { addr := x, assoc := a, signal := signal, answer := answer }
      counts := { k.counts with associations := bump k.counts.associations } }
  s1.answerAssoc x c a answer

/-! ### Messages from a radio -/

/-- A byte as an association number. -/
def assocNo (a : Byte) : AssocNo := Fin.ofNat 64 a.toNat

/-- R145: a well-formed message on a READY link. -/
def State.takeRadio (s : State) (c : LinkNo) : RadioMessage → State
  | .data a frame => s.takeData c (assocNo a) frame
  | .assoc a x signal => s.takeAssoc c (assocNo a) x signal
  | .disassoc a => (s.countLink c fun k => { k with disassociations := bump k.disassociations }).disassociate c (assocNo a)
  | .released a => (s.countLink c fun k => { k with releases := bump k.releases }).releasedBy c (assocNo a)
  | .settingAnswer item value result => s.takeSettingAnswer c item value result

/-- R145: a message received whole from radio c, `none` when it is malformed. A HELD link delivers none (R141, log entry 19). -/
def State.fromRadio (s : State) (c : LinkNo) (m : Option RadioMessage) : State :=
  let malformed := s.countLink c fun k => { k with malformed := bump k.malformed }
  if (s.link c).state = .held then s
  else
    match m with
    | none => malformed
    | some m =>
      if m.badNumber then malformed
      else if (s.link c).state = .ready then s.takeRadio c m
      else s.countLink c fun k => { k with notReady := bump k.notReady }

end Sys2Proof.Machine
end

