-- ==== Sys2Proof/Machine/Engine.lean ====
section
/-! DEFINITION. What the Management Engine composes: management frames, responses and notices (R49, R199 to R205, R220). -/

namespace Sys2Proof.Machine

/-! ### Codes -/

/-- The status codes of section 11.3. -/
def Status.code : Status → Byte
  | .ok => 0
  | .notHolder => 1
  | .roleHeld => 2
  | .stationTableFull => 3
  | .badArgument => 4
  | .badFormat => 5
  | .notFound => 6
  | .listFull => 7
  | .busy => 8
  | .timeout => 9
  | .linkDown => 10
  | .conflict => 11
  | .settingsFault => 12
  | .unknownRequest => 13

/-- The kinds of a management message (R220). -/
def requestKind : Byte := 1
def responseKind : Byte := 2
def noticeKind : Byte := 3

/-- The code of a notice (R220). -/
def noticeCode : Byte := 0x40

/-! ### Frames -/

/-- The 25 bytes of a management message up to its arguments (section 11.1), for `n` bytes of arguments. -/
def managementHeader (dst src : Addr) (kind code status flags : Byte) (tag epoch : Half) (n : Nat) : Bytes :=
  addrBytes dst ++ addrBytes src ++ halfBytes managementType ++ [1, kind, code, status, flags] ++ halfBytes tag
    ++ halfBytes epoch ++ beBytes 2 n

/-- A management message as its frame: header, arguments, zero bytes up to 64, and the check sequence (section 11.1, R220). -/
def managementFrame (dst src : Addr) (kind code status flags : Byte) (tag epoch : Half) (args : Bytes) : Bytes :=
  let body := managementHeader dst src kind code status flags tag epoch args.length ++ args
  withCrc32 (body ++ List.replicate (60 - body.length) 0)

/-! ### The Station Table -/

/-- The entry of a station. -/
def State.stationAt (s : State) (x : Addr) : Option Station := s.me.stations.find? fun st => st.addr == x

/-- Change the entry of a station. -/
def State.onStation (s : State) (x : Addr) (f : Station → Station) : State :=
  s.onMe fun m => { m with stations := m.stations.map fun st => if st.addr = x then f st else st }

/-! ### Composing -/

/-- A composed frame is lost (R49); when it is the response to a CABINET_RESET, the reset is due. -/
def State.loseComposed (s : State) (reset : Bool) : State :=
  (s.countFs fun c => { c with composedLost := bump c.composedLost }).onEv fun e => { e with resetDue := e.resetDue || reset }

/-- R49: a frame composed, given a slot, and appended to a backbone port's queue; whether it was lost is told. -/
def State.compose (s : State) (side : Side) (reset : Bool) (frame : State → Bytes) : State × Bool :=
  match s.claim engineReserve .engine reset frame with
  | none => (s.loseComposed reset, true)
  | some (k, s1) =>
    let o := s1.append (.backbone side) { slot := k } false
    if o.2 then (o.1, false) else ((o.1.freeSlot k).loseComposed reset, true)

/-- The port a response leaves by (R49, R199). -/
def State.responseSide (s : State) (r : Response) : Side :=
  if r.long then ((s.stationAt r.station).map Station.side).getD r.side else r.side

/-- A response as its frame (R220). -/
def responseFrame (r : Response) (s : State) : Bytes :=
  managementFrame r.station s.me.addressing.cabinet responseKind r.code r.status.code 0 r.tag s.cu.epoch r.args

/-- A response composed (R191). -/
def State.sendResponse (s : State) (r : Response) : State :=
  let side := s.responseSide r
  let o := s.compose side r.isReset (responseFrame r)
  o.1.onEv fun e => { e with composed := e.composed ++ [.response r side o.2] }

/-- The responses of the event, in the order they were made ready. -/
def State.sendResponses (s : State) : State :=
  s.ev.responses.foldl (fun t r => t.sendResponse r) (s.onEv fun e => { e with responses := [] })

/-- A notice to a station as its frame (R203, R220). -/
def noticeFrame (st : Station) (hold : Bool) (s : State) : Bytes :=
  match s.stationAt st.addr with
  | none => []
  | some now =>
    managementFrame now.addr s.me.addressing.cabinet noticeKind noticeCode 0 (if hold then 1 else 0) now.number s.cu.epoch
      (beBytes 2 (causeSetNat now.pending))

/-- After a notice its number advances; an ordinary notice clears the due mark and sets the spacing timer (R202, R203). -/
def Station.noticed (hold : Bool) (st : Station) : Station :=
  if hold then { st with number := st.number + 1 }
  else { st with number := st.number + 1, due := false, spacing := some 20 }

/-- A notice composed for a station (R203): ordinary, or the final one with the HOLD mark. -/
def State.sendNotice (s : State) (hold : Bool) (st : Station) : State :=
  let o := s.compose st.side false (noticeFrame st hold)
  let pending := ((o.1.stationAt st.addr).map Station.pending).getD []
  let s1 := o.1.onEv fun e =>
    { e with composed := e.composed ++ [.notice st.addr st.side hold st.number s.cu.epoch pending o.2] }
  (s1.onStation st.addr (Station.noticed hold)).countMe fun c =>
    { c with
      notices := if hold then c.notices else bump c.notices
      finalNotices := if hold then bump c.finalNotices else c.finalNotices }

/-- The first entry, in rising order of address, whose due mark is SET while its spacing timer is stopped (R202). -/
def State.nextDue (s : State) : Option Station := s.me.stations.find? fun st => st.due && st.spacing.isNone

/-- R202 at the end of an event. A notice that raises STORE_LOW by its own claim may make a further entry due, so the table is
looked at again after each; no entry gets two (log entry 11). -/
def State.ordinaryNotices (s : State) : Nat → State
  | 0 => s
  | n + 1 =>
    match s.nextDue with
    | none => s
    | some st => (s.sendNotice false st).ordinaryNotices n

/-- R182 and R205: the final notices of a coupled-set change, "in ascending order of station address" (R49), which is the order the
Station Table stands in. -/
def State.finalNotices (s : State) : State :=
  (s.me.stations.filter fun st => s.coupled st.side).foldl (fun t st => t.sendNotice true st) s

/-- R202: what the expiry of a spacing timer looks at. -/
def State.noticeStillDue (s : State) (st : Station) : Bool :=
  st.due && st.pending.any fun c => decide (st.threshold < s.me.levels[c.index])

/-- R202: a spacing timer expires. When a notice is to go, the due mark stays SET for the end of the event; otherwise it becomes
CLEAR. -/
def State.spacingExpiry (s : State) (x : Addr) : State :=
  match s.stationAt x with
  | none => s
  | some st => s.onStation x fun y => { y with spacing := none, due := s.noticeStillDue st }

end Sys2Proof.Machine
end

