-- ==== Sys2Proof/Machine/Coupling.lean ====
section
/-! DEFINITION. The Coupling Unit (R169 to R187): pages, matching, port states, link failures and coupled-set changes. -/

namespace Sys2Proof.Machine

/-! ### Pages -/

/-- The fault codes of section 11.3. -/
def FaultCode.code : FaultCode → Byte
  | .none => 0
  | .offline => 1
  | .linkFailure => 2
  | .couplingError => 3

/-- The fault a code names. -/
def faultOf (b : Byte) : Option FaultCode :=
  if b = 0 then some .none
  else if b = 1 then some .offline
  else if b = 2 then some .linkFailure
  else if b = 3 then some .couplingError
  else none

/-- A page as its bytes after the delimiter (section 11.6). -/
def pageBytes (vehicle : Nat) (fault : FaultCode) (mark : Bool) : Bytes :=
  withCrc32 (beBytes 3 vehicle ++ [fault.code, if mark then 1 else 0])

/-- The page a port makes now (R170). -/
def State.ownPage (s : State) (side : Side) : Bytes :=
  let b := s.side side
  pageBytes s.cu.vehicle b.ownFault (b.matchCount == 3)

/-- A page made, to go out by R41. -/
def State.makePage (s : State) (side : Side) : State := s.sendControl (.backbone side) (.page (s.ownPage side))

/-- What a received page is (R225). -/
inductive PageKind where
  | valid (rx : Received)
  | malformed
  | checkError
  deriving DecidableEq, Repr

/-- R225: a page of fewer than 9 bytes is malformed without its check being computed; then the check is tested, and then the
length, the fault code and the mark. -/
def readPage (page : Bytes) : PageKind :=
  if page.length < 9 then .malformed
  else if field page 5 4 != beBytes 4 (crc32 (page.take 5)).toNat then .checkError
  else
    match faultOf (byteAt page 3) with
    | none => .malformed
    | some fault =>
      if page.length = 9 ∧ (byteAt page 4).toNat ≤ 1 then
        .valid { vehicle := beNat (field page 0 3), fault := fault, mark := byteAt page 4 == 1 }
      else .malformed

/-! ### The coupled set -/

/-- R181: a coupled-set change, its four steps in order. -/
def State.coupledSetChange (s : State) : State :=
  let s1 := s.onCu fun b => { b with epoch := b.epoch + 1, setChanges := bump b.setChanges }
  (s1.enterHold.finalNotices).onMe fun m => { m with stations := [] }

/-! ### Port states -/

/-- R174: the coupling state that a port's items give. -/
def Backbone.derive (b : Backbone) : CouplingState :=
  match b.rx with
  | none => .decoupled
  | some rx =>
    if b.ownFault ≠ .none ∨ rx.fault ≠ .none then .faulted
    else if b.matchCount = 3 ∧ rx.mark then .coupled
    else .paging

/-- A port enters a state (R170, R174, R175, R178, R187): the page timer and the page it owes, the cause, the discard of its
queue. -/
def State.enterCoupling (s : State) (side : Side) (old new : CouplingState) : State :=
  let s1 := s.onSide side fun b =>
    { b with
      state := new
      page := if new = .decoupled then some 100 else if old = .decoupled then some 10 else b.page
      counts := { b.counts with
        faultsEntered := if new = .faulted then bump b.counts.faultsEntered else b.counts.faultsEntered
        silences := if new = .decoupled then bump b.counts.silences else b.counts.silences
        couplings := if new = .coupled then bump b.counts.couplings else b.counts.couplings } }
  let s2 := if old = .decoupled then s1.onEv fun e => { e with pages := e.pages ++ [side] } else s1
  let s3 := if new = .faulted then s2.raise .couplingFault else s2
  if old = .coupled then s3.discardQueue (.backbone side) else s3

/-- R174: at the end of an event that changes a port's items its state is derived, and a change into or out of COUPLED is a
coupled-set change (R181). -/
def State.rederive (s : State) (side : Side) : State :=
  let old := (s.side side).state
  let new := (s.side side).derive
  if new = old then s
  else
    let s1 := s.enterCoupling side old new
    if old = .coupled ∨ new = .coupled then s1.coupledSetChange else s1

/-! ### Link failures and the check-error window -/

/-- R177: a link failure begins. Its start leaves the match count and the matched number, and so the match mark on the port's pages,
as they stand; the next valid page makes the count 0 (R173). R177 does not list the count, as R179 does for OFFLINE, while R174 says
that the count was 0 while the port was faulted (DESIGN CHOICE, unsafe, log entry 50). -/
def State.linkFailureBegin (s : State) (side : Side) : State :=
  (s.onSide side fun b =>
    { b with
      ownFault := .linkFailure
      linkFailure := some 1000
      counts := { b.counts with linkFailures := bump b.counts.linkFailures } }).rederive side

/-- The window's count after one more error, stopping at 65,535 (R169, log entry 26). -/
def moreErrors (n : Nat) : Nat := if n < 65535 then n + 1 else n

/-- R176: an error counted into a port's window; a rise to 16 may begin a link failure. -/
def State.countError (s : State) (side : Side) : State :=
  let b := s.side side
  let n := moreErrors b.errorCount
  let s1 := s.onSide side fun x => { x with errorCount := n }
  if n = 16 ∧ b.state ≠ .decoupled ∧ b.ownFault ≠ .offline ∧ b.ownFault ≠ .linkFailure then s1.linkFailureBegin side else s1

/-! ### Events -/

/-- R172: the own fault after a page's vehicle number is tested. -/
def faultAfterTest (own : FaultCode) (invalid : Bool) : FaultCode :=
  match own with
  | .none => if invalid then .couplingError else .none
  | .couplingError => if invalid then .couplingError else .none
  | .offline => .offline
  | .linkFailure => .linkFailure

/-- R173: the match count and the matched number after a page. -/
def matchAfter (own : FaultCode) (rx : Received) (invalid : Bool) (count : Nat) (matched : Option Nat) : Nat × Option Nat :=
  if own ≠ .none ∨ rx.fault ≠ .none ∨ invalid then (0, none)
  else if matched = some rx.vehicle then (min (count + 1) 3, matched)
  else (1, some rx.vehicle)

/-- A port's items after a valid page (R171 to R173). -/
def Backbone.afterPage (b : Backbone) (rx : Received) (vehicle : Nat) : Backbone :=
  let invalid := rx.vehicle == 0 || rx.vehicle == vehicle
  let own := faultAfterTest b.ownFault invalid
  let m := matchAfter own rx invalid b.matchCount b.matched
  { b with
    rx := some rx
    ownFault := own
    matchCount := m.1
    matched := m.2
    silence := some 50
    counts := { b.counts with pagesReceived := bump b.counts.pagesReceived } }

/-- R171: a page received on a port. While paging is held none is taken (R169, log entry 19). -/
def State.takePage (s : State) (side : Side) (page : Bytes) : State :=
  let wrong := s.countSide side fun c => { c with pageErrors := bump c.pageErrors }
  if (s.side side).pagingHeld then s
  else
    match readPage page with
    | .malformed => wrong
    | .checkError => wrong.countError side
    | .valid rx => (s.onSide side fun b => b.afterPage rx s.cu.vehicle).rederive side

/-- R178: the silence timer's expiry. -/
def State.silenceExpiry (s : State) (side : Side) : State :=
  (s.onSide side fun b =>
    { b with
      matchCount := 0
      matched := none
      rx := none
      ownFault := if b.ownFault = .couplingError then .none else b.ownFault
      silence := none }).rederive side

/-- R170: the page timer's expiry. -/
def State.pageExpiry (s : State) (side : Side) : State :=
  (s.makePage side).onSide side fun b => { b with page := some (if b.state = .decoupled then 100 else 10) }

/-- R177: the link-failure timer's expiry. -/
def State.linkFailureExpiry (s : State) (side : Side) : State :=
  (s.onSide side fun b => { b with ownFault := .none, linkFailure := none }).rederive side

/-- R176: a check-error window ends and the next begins. -/
def State.errorWindowEnd (s : State) (side : Side) : State :=
  s.onSide side fun b => { b with errorCount := 0, errorWindow := some 100 }

/-- R179: a port set OFFLINE or ONLINE; the setting in force repeated changes nothing. OFFLINE makes the match count 0 and keeps the
matched number, which R179 does not name, while R173 and R178 name the two together (DESIGN CHOICE, unsafe, log entry 51). -/
def State.setOffline (s : State) (side : Side) (offline : Bool) : State :=
  if (s.side side).offline = offline then s
  else if offline then
    (s.onSide side fun b =>
      { b with offline := true, ownFault := .offline, linkFailure := none, matchCount := 0 }).rederive side
  else
    (s.onSide side fun b =>
      { b with offline := false, ownFault := if b.ownFault = .offline then .none else b.ownFault }).rederive side

/-- R169, R170, R176: a port at release. -/
def State.releaseBackbone (s : State) (side : Side) : State :=
  s.onSide side fun b => { b with pagingHeld := false, page := some 100, errorCount := 0, errorWindow := some 100 }

/-- R184: in an event in which neither port is COUPLED the unit takes the vehicle number of the current settings. -/
def State.takeVehicle (s : State) : State :=
  if s.coupled .fore || s.coupled .aft || s.cu.vehicle == s.cu.vehicleSetting then s
  else s.onCu fun b => { b with vehicle := b.vehicleSetting }

end Sys2Proof.Machine
end

