-- ==== Sys2Proof/Machine/Operands.lean ====
section
/-! DEFINITION. The fields of requests and of the settings image: what a raw field names, or that it is outside its values, and
how each value is written back (section 11.2, R220 to R223, R209). -/

namespace Sys2Proof.Machine

/-! ### One-byte fields -/

def boolByte (b : Bool) : Byte := if b then 1 else 0

/-- A boolean byte (R220). -/
def boolOf (b : Byte) : Option Bool := if b = 0 then some false else if b = 1 then some true else none

def sideCode : Side → Byte
  | .fore => 0
  | .aft => 1

/-- A side byte: 0 FORE, 1 AFT. -/
def sideOf (b : Byte) : Option Side := if b = 0 then some .fore else if b = 1 then some .aft else none

def effectOf (b : Byte) : Option Effect :=
  if b = 0 then some .none else if b = 1 then some .steady else if b = 2 then some .slow else if b = 3 then some .fast else none

def Force.code : Force → Byte
  | .auto => 0
  | .off => 1
  | .steady => 2
  | .slow => 3
  | .fast => 4

def forceOf (b : Byte) : Option Force :=
  if b = 0 then some .auto
  else if b = 1 then some .off
  else if b = 2 then some .steady
  else if b = 3 then some .slow
  else if b = 4 then some .fast
  else none

def Kind.code : Kind → Byte
  | .standard => 1
  | .premium => 2
  | .service => 3
  | .barred => 4

def kindOf (b : Byte) : Option Kind :=
  if b = 1 then some .standard
  else if b = 2 then some .premium
  else if b = 3 then some .service
  else if b = 4 then some .barred
  else none

def Class.code : Class → Byte
  | .basic => 0
  | .standard => 1
  | .premium => 2
  | .service => 3

/-- A cause code, 1 to 11 (section 11.3). -/
def causeOf (b : Byte) : Option Cause := if b = 0 then none else allCauses[b.toNat - 1]?

/-- A seat, link, level or brightness byte in its range. -/
def seatOf (b : Byte) : Option SeatNo := if h : b.toNat < 64 then some ⟨b.toNat, h⟩ else none
def linkOf (b : Byte) : Option LinkNo := if h : b.toNat < 8 then some ⟨b.toNat, h⟩ else none
def levelOf (b : Byte) : Option Nat := if b.toNat ≤ 7 then some b.toNat else none
def brightnessOf (b : Byte) : Option Nat := if 1 ≤ b.toNat ∧ b.toNat ≤ 16 then some b.toNat else none

/-- A number within a range. -/
def within (lo hi n : Nat) : Option Nat := if lo ≤ n ∧ n ≤ hi then some n else none

/-- A role set: any bit beside the three names a role outside them (section 11.3). -/
def rolesOf (b : Byte) : Option Roles :=
  if 8 ≤ b.toNat then none
  else some { share := b.getLsbD 0, entitle := b.getLsbD 1, cabinet := b.getLsbD 2 }

def Roles.code (r : Roles) : Byte :=
  (if r.share then 1 else 0) ||| (if r.entitle then 2 else 0) ||| (if r.cabinet then 4 else 0)

def Roles.isEmpty (r : Roles) : Bool := !r.share && !r.entitle && !r.cabinet
def Roles.union (a b : Roles) : Roles :=
  { share := a.share || b.share, entitle := a.entitle || b.entitle, cabinet := a.cabinet || b.cabinet }
def Roles.minus (a b : Roles) : Roles :=
  { share := a.share && !b.share, entitle := a.entitle && !b.entitle, cabinet := a.cabinet && !b.cabinet }
def Roles.inter (a b : Roles) : Roles :=
  { share := a.share && b.share, entitle := a.entitle && b.entitle, cabinet := a.cabinet && b.cabinet }

/-! ### Profiles (R121, R150) -/

/-- A seat profile whose fields all lie within their values (R122). -/
def seatProfileOf (r : RawSeatProfile) : Option SeatProfile :=
  match boolOf r.enabled, within 64 2048 r.maxLength.toNat, boolOf r.acceptBroadcast, boolOf r.acceptMulticast,
    boolOf r.loopback, within 10 3600 r.idleTime.toNat with
  | some e, some m, some b, some u, some l, some i =>
    some { enabled := e, maxLength := m, acceptBroadcast := b, acceptMulticast := u, loopback := l, idleTime := i }
  | _, _, _, _, _, _ => none

/-- A ceiling profile whose fields all lie within their values (R151). -/
def ceilingProfileOf (r : RawCeilingProfile) : Option CeilingProfile :=
  match boolOf r.enabled, within 1 63 r.clientLimit.toNat, within 64 2048 r.maxLength.toNat, boolOf r.acceptBroadcast,
    boolOf r.acceptMulticast, within 10 3600 r.idleTime.toNat, within 100 10000 r.surveyWindow.toNat,
    within 0 100 r.threshold.toNat with
  | some e, some n, some m, some b, some u, some i, some w, some t =>
    some { enabled := e, clientLimit := n, maxLength := m, acceptBroadcast := b, acceptMulticast := u, idleTime := i,
           surveyWindow := w, threshold := t }
  | _, _, _, _, _, _, _, _ => none

/-- The raw fields of a profile as they stand (for an answer or an image). -/
def SeatProfile.raw (p : SeatProfile) : RawSeatProfile :=
  { enabled := boolByte p.enabled, maxLength := BitVec.ofNat 16 p.maxLength, acceptBroadcast := boolByte p.acceptBroadcast,
    acceptMulticast := boolByte p.acceptMulticast, loopback := boolByte p.loopback, idleTime := BitVec.ofNat 16 p.idleTime }

def CeilingProfile.raw (p : CeilingProfile) : RawCeilingProfile :=
  { enabled := boolByte p.enabled, clientLimit := BitVec.ofNat 8 p.clientLimit, maxLength := BitVec.ofNat 16 p.maxLength,
    acceptBroadcast := boolByte p.acceptBroadcast, acceptMulticast := boolByte p.acceptMulticast,
    idleTime := BitVec.ofNat 16 p.idleTime, surveyWindow := BitVec.ofNat 16 p.surveyWindow,
    threshold := BitVec.ofNat 8 p.threshold }

/-- The 8 bytes of a seat profile (R221). -/
def seatProfileBytes (r : RawSeatProfile) : Bytes :=
  r.enabled :: (halfBytes r.maxLength ++ [r.acceptBroadcast, r.acceptMulticast, r.loopback] ++ halfBytes r.idleTime)

/-- The 11 bytes of a ceiling profile (R221). -/
def ceilingProfileBytes (r : RawCeilingProfile) : Bytes :=
  r.enabled :: r.clientLimit :: (halfBytes r.maxLength ++ [r.acceptBroadcast, r.acceptMulticast] ++ halfBytes r.idleTime
    ++ halfBytes r.surveyWindow ++ [r.threshold])

/-- The seat profile that 8 bytes from an offset spell. -/
def readSeatProfile (bs : Bytes) (o : Nat) : RawSeatProfile :=
  { enabled := byteAt bs o, maxLength := halfAt bs (o + 1), acceptBroadcast := byteAt bs (o + 3),
    acceptMulticast := byteAt bs (o + 4), loopback := byteAt bs (o + 5), idleTime := halfAt bs (o + 6) }

/-- The ceiling profile that 11 bytes from an offset spell. -/
def readCeilingProfile (bs : Bytes) (o : Nat) : RawCeilingProfile :=
  { enabled := byteAt bs o, clientLimit := byteAt bs (o + 1), maxLength := halfAt bs (o + 2),
    acceptBroadcast := byteAt bs (o + 4), acceptMulticast := byteAt bs (o + 5), idleTime := halfAt bs (o + 6),
    surveyWindow := halfAt bs (o + 8), threshold := byteAt bs (o + 10) }

/-! ### Lamp settings (R133, R136) -/

/-- A rule set whose effects all lie within their values. -/
def rulesOf (r : RawRules) : Option LampRules :=
  match effectOf r.linkUp, effectOf r.clientAttached, effectOf r.entitled, effectOf r.parked, effectOf r.activity,
    effectOf r.lampBarred with
  | some u, some c, some e, some p, some a, some b =>
    some { linkUp := u, clientAttached := c, entitled := e, parked := p, activity := a, lampBarred := b }
  | _, _, _, _, _, _ => none

/-- The 6 bytes of a rule set, in the order of R130. -/
def LampRules.bytes (r : LampRules) : Bytes :=
  [r.linkUp.code, r.clientAttached.code, r.entitled.code, r.parked.code, r.activity.code, r.lampBarred.code]

def rawRulesBytes (r : RawRules) : Bytes := [r.linkUp, r.clientAttached, r.entitled, r.parked, r.activity, r.lampBarred]

/-- The rule set that 6 bytes from an offset spell. -/
def readRules (bs : Bytes) (o : Nat) : RawRules :=
  { linkUp := byteAt bs o, clientAttached := byteAt bs (o + 1), entitled := byteAt bs (o + 2), parked := byteAt bs (o + 3),
    activity := byteAt bs (o + 4), lampBarred := byteAt bs (o + 5) }

/-- A list of seat forces whose seats and forces all lie within their values (R136). -/
def forcesOf : List (Byte × Byte) → Option (List (SeatNo × Force))
  | [] => some []
  | (p, f) :: rest =>
    match seatOf p, forceOf f, forcesOf rest with
    | some p, some f, some fs => some ((p, f) :: fs)
    | _, _, _ => none

/-- A list of cause and level pairs that all lie within their values (R200). -/
def levelsOf : List (Byte × Byte) → Option (List (Cause × Nat))
  | [] => some []
  | (c, l) :: rest =>
    match causeOf c, levelOf l, levelsOf rest with
    | some c, some l, some ls => some ((c, l) :: ls)
    | _, _, _ => none

/-- A list of cause codes that are all among the eleven (R204). -/
def causesOf : List Byte → Option (List Cause)
  | [] => some []
  | c :: rest =>
    match causeOf c, causesOf rest with
    | some c, some cs => some (c :: cs)
    | _, _ => none

/-! ### Grants (R77) -/

/-- A grant whose fields lie within their ranges. -/
def grantOf (pool : Word) (period basic standard premium : Half) (gateway : Byte) : Option Grant :=
  match within 0 1048575 pool.toNat, within 1 1000 period.toNat, sideOf gateway with
  | some n, some t, some g =>
    some { pool := n, period := t, basic := basic.toNat, standard := standard.toNat, premium := premium.toNat, gateway := g }
  | _, _, _ => none

/-! ### Addressing (R188, R189) -/

/-- Addressing settings whose fields lie within their values. -/
def addressingOf (cabinet : Addr) (allEnable : Byte) (group : Addr) (groupEnable : Byte) : Option Addressing :=
  match boolOf allEnable, boolOf groupEnable with
  | some a, some g =>
    if isMulticast cabinet || cabinet == 0 || cabinet == allCabinets || !isMulticast group || group == broadcast
        || group == allCabinets then none
    else some { cabinet := cabinet, allEnable := a, group := group, groupEnable := g }
  | _, _ => none

/-! ### Carriage timings (R23, R57, R162) -/

/-- The three timings of SET_TIMING. -/
structure Timing where
  release : Nat
  linger : Nat
  defer : Nat
  deriving DecidableEq, Repr

/-- Timings that lie within their ranges. -/
def timingOf (release linger defer : Half) : Option Timing :=
  match within 20 1000 release.toNat, within 5 600 linger.toNat, within 1000 30000 defer.toNat with
  | some r, some l, some d => some { release := r, linger := l, defer := d }
  | _, _, _ => none

/-! ### The settings image (R209, R219) -/

/-- The current settings as the image holds them. -/
structure Settings where
  vehicle : Nat
  addressing : Addressing
  seats : List SeatProfile
  links : List CeilingProfile
  rules : LampRules
  brightness : Nat
  levels : List Nat
  timing : Timing
  deriving DecidableEq, Repr

/-- Number and width of the image's bytes (R219). -/
def imageLength : Nat := 642

/-- The items of the image as bytes, in the order of R209's table. -/
def Settings.bytes (x : Settings) : Bytes :=
  beBytes 4 x.vehicle ++ addrBytes x.addressing.cabinet ++ addrBytes x.addressing.group
    ++ [boolByte x.addressing.groupEnable, boolByte x.addressing.allEnable]
    ++ x.seats.flatMap (fun p => seatProfileBytes p.raw) ++ x.links.flatMap (fun p => ceilingProfileBytes p.raw)
    ++ x.rules.bytes ++ [BitVec.ofNat 8 x.brightness] ++ x.levels.map (BitVec.ofNat 8)
    ++ beBytes 2 x.timing.release ++ beBytes 2 x.timing.linger ++ beBytes 2 x.timing.defer

/-- Every element of a list read, or none. -/
def readAll {α β : Type} (f : α → Option β) : List α → Option (List β)
  | [] => some []
  | a :: rest =>
    match f a, readAll f rest with
    | some b, some bs => some (b :: bs)
    | _, _ => none

/-- The settings that the items of an image spell, or `none` when the items are not of the image's length or an item lies
outside its range (R209). -/
def readSettings (bs : Bytes) : Option Settings :=
  if bs.length ≠ imageLength then none
  else
    match within 0 16777215 (wordAt bs 0).toNat,
      addressingOf (addrAt bs 4) (byteAt bs 17) (addrAt bs 10) (byteAt bs 16),
      readAll (fun i => seatProfileOf (readSeatProfile bs (18 + 8 * i))) (List.range 64),
      readAll (fun i => ceilingProfileOf (readCeilingProfile bs (530 + 11 * i))) (List.range 8),
      rulesOf (readRules bs 618), brightnessOf (byteAt bs 624), readAll (fun i => levelOf (byteAt bs (625 + i))) (List.range 11),
      timingOf (halfAt bs 636) (halfAt bs 638) (halfAt bs 640) with
    | some v, some a, some ss, some ls, some r, some b, some lv, some t =>
      some { vehicle := v, addressing := a, seats := ss, links := ls, rules := r, brightness := b, levels := lv, timing := t }
    | _, _, _, _, _, _, _, _ => none

/-- The settings of an image whose check word is the one computed over its items (R209), or `none` for an invalid image. -/
def Image.settings (m : Image) : Option Settings :=
  if m.check = some (crc32 m.items) then readSettings m.items else none

/-- The factory defaults (R212). -/
def factorySettings : Settings :=
  { vehicle := 0, addressing := {}, seats := List.replicate 64 {}, links := List.replicate 8 {}, rules := {}, brightness := 12,
    levels := defaultLevels.toList, timing := { release := 200, linger := 60, defer := 5000 } }

/-- The current settings collected from their owners (R216). The vehicle number is that of the current settings (R184). -/
def State.settings (s : State) : Settings :=
  { vehicle := s.cu.vehicleSetting
    addressing := s.me.addressing
    seats := s.spb.seats.toList.map Seat.profile
    links := s.clb.links.toList.map Link.profile
    rules := s.spb.rules
    brightness := s.spb.brightness
    levels := s.me.levels.toList
    timing := { release := s.mc.releaseTimeout, linger := s.ct.lingerTime, defer := s.clb.deferWindow } }

end Sys2Proof.Machine
end

