-- ==== Sys2Proof/Machine/Request.lean ====
section
/-! DEFINITION. Requests as messages: their codes, their arguments as bytes, and the decoding of a management message (sections
11.1 and 11.2, R190, R191, R220, R221). -/

namespace Sys2Proof.Machine

/-- A request with its arguments, raw, in the order of section 11.2. -/
inductive Request where
  | enrol (roles threshold : Byte)
  | releaseRoles (roles : Byte)
  | clearCauses (causes : List Byte)
  | grantShare (pool : Word) (period basic standard premium : Half) (gateway : Byte)
  | entitle (x : Addr) (kind : Byte) (minutes : Half)
  | revoke (x : Addr)
  | journeyEnd
  | evict (x : Addr)
  | setProfile (port : Byte) (profile : RawProfile)
  | setLamp (otherParts : BitVec 5) (rules : Option RawRules) (brightness : Option Byte) (forces : Option (List (Byte × Byte)))
  | setLevels (pairs : List (Byte × Byte))
  | setTiming (release linger defer : Half)
  | setAddressing (cabinet : Addr) (allEnable : Byte) (group : Addr) (groupEnable : Byte)
  | setIdentity (vehicle : Word)
  | portOffline (port setting : Byte)
  | relaySetting (link item : Byte) (value : Word) (direction : Byte)
  | storeSettings
  | reloadSettings
  | cabinetReset
  | readCounters (group port clear : Byte)
  | queryCabinet
  | queryClient (client : ClientRef)
  | listClients (start : Half)
  | queryPort (kind port : Byte)
  | queryLink (link : Byte)
  deriving DecidableEq, Repr

/-- The request codes of section 11.2. -/
def Request.code : Request → Byte
  | .enrol _ _ => 0x01
  | .releaseRoles _ => 0x02
  | .clearCauses _ => 0x03
  | .grantShare _ _ _ _ _ _ => 0x10
  | .entitle _ _ _ => 0x11
  | .revoke _ => 0x12
  | .journeyEnd => 0x13
  | .evict _ => 0x14
  | .setProfile _ _ => 0x20
  | .setLamp _ _ _ _ => 0x21
  | .setLevels _ => 0x22
  | .setTiming _ _ _ => 0x23
  | .setAddressing _ _ _ _ => 0x24
  | .setIdentity _ => 0x25
  | .portOffline _ _ => 0x26
  | .relaySetting _ _ _ _ => relayCode
  | .storeSettings => 0x28
  | .reloadSettings => 0x29
  | .cabinetReset => 0x2A
  | .readCounters _ _ _ => 0x30
  | .queryCabinet => 0x31
  | .queryClient _ => 0x32
  | .listClients _ => 0x33
  | .queryPort _ _ => 0x34
  | .queryLink _ => 0x35

/-! ### Arguments as bytes -/

/-- Pairs of bytes, one pair after the other. -/
def pairBytes (ps : List (Byte × Byte)) : Bytes := ps.flatMap fun p => [p.1, p.2]

/-- The pairs that bytes spell. -/
def readPairs : Bytes → List (Byte × Byte)
  | a :: b :: rest => (a, b) :: readPairs rest
  | _ => []

/-- The part set byte of SET_LAMP (R221): rule set, brightness and force list from the lowest bit up. -/
def partSet (other : BitVec 5) (rules brightness forces : Bool) : Byte :=
  BitVec.ofNat 8 (other.toNat * 8 + forces.toNat * 4 + brightness.toNat * 2 + rules.toNat)

/-- The force part: its count and its pairs. -/
def forceBytes (ps : List (Byte × Byte)) : Bytes := BitVec.ofNat 8 ps.length :: pairBytes ps

/-- The arguments of a request as bytes (section 11.2). -/
def Request.args : Request → Bytes
  | .enrol roles threshold => [roles, threshold]
  | .releaseRoles roles => [roles]
  | .clearCauses causes => causes
  | .grantShare pool period basic standard premium gateway =>
    wordBytes pool ++ halfBytes period ++ halfBytes basic ++ halfBytes standard ++ halfBytes premium ++ [gateway]
  | .entitle x kind minutes => addrBytes x ++ [kind] ++ halfBytes minutes
  | .revoke x => addrBytes x
  | .journeyEnd => []
  | .evict x => addrBytes x
  | .setProfile port (.seat f) => 0 :: port :: seatProfileBytes f
  | .setProfile port (.ceiling f) => 1 :: port :: ceilingProfileBytes f
  | .setLamp other rules brightness forces =>
    partSet other rules.isSome brightness.isSome forces.isSome
      :: ((rules.map rawRulesBytes).getD [] ++ (brightness.map fun b => [b]).getD [] ++ (forces.map forceBytes).getD [])
  | .setLevels pairs => pairBytes pairs
  | .setTiming release linger defer => halfBytes release ++ halfBytes linger ++ halfBytes defer
  | .setAddressing cabinet allEnable group groupEnable => addrBytes cabinet ++ [allEnable] ++ addrBytes group ++ [groupEnable]
  | .setIdentity vehicle => wordBytes vehicle
  | .portOffline port setting => [port, setting]
  | .relaySetting link item value direction => link :: item :: (wordBytes value ++ [direction])
  | .storeSettings => []
  | .reloadSettings => []
  | .cabinetReset => []
  | .readCounters group port clear => [group, port, clear]
  | .queryCabinet => []
  | .queryClient (.number n) => halfBytes n
  | .queryClient (.address x) => addrBytes x
  | .listClients start => halfBytes start
  | .queryPort kind port => [kind, port]
  | .queryLink link => [link]

/-- The lists of a request have lengths that the table of section 11.2 allows; a force count is one byte. -/
def Request.inFormat : Request → Bool
  | .clearCauses causes => decide (causes.length ≤ 11)
  | .setLevels pairs => decide (pairs.length ≤ 11)
  | .setLamp _ _ _ (some forces) => decide (forces.length ≤ 255)
  | _ => true

/-! ### Decoding -/

/-- What the code and the arguments of a request are found to be (R191, steps 1 and 2). -/
inductive Decoded where
  | unknown
  | badFormat
  | request (q : Request)
  deriving DecidableEq, Repr

/-- A request whose arguments have the one length the table gives. -/
def ofLength (bs : Bytes) (n : Nat) (q : Request) : Decoded := if bs.length = n then .request q else .badFormat

/-- The lists of SET_LAMP as its bytes give them: the length must equal what the set bits and the count imply (R221). -/
def readLamp (bs : Bytes) : Decoded :=
  let part := byteAt bs 0
  let afterRules := if part.getLsbD 0 then 7 else 1
  let afterBrightness := if part.getLsbD 1 then afterRules + 1 else afterRules
  let count := (byteAt bs afterBrightness).toNat
  let length := if part.getLsbD 2 then afterBrightness + 1 + 2 * count else afterBrightness
  ofLength bs length
    (.setLamp (part.extractLsb' 3 5) (if part.getLsbD 0 then some (readRules bs 1) else none)
      (if part.getLsbD 1 then some (byteAt bs afterRules) else none)
      (if part.getLsbD 2 then some (readPairs (bs.drop (afterBrightness + 1))) else none))

/-- SET_PROFILE: length 10 with port kind 0, or 13 with port kind 1 (R221). -/
def readProfile (bs : Bytes) : Decoded :=
  if byteAt bs 0 = 0 then ofLength bs 10 (.setProfile (byteAt bs 1) (.seat (readSeatProfile bs 2)))
  else if byteAt bs 0 = 1 then ofLength bs 13 (.setProfile (byteAt bs 1) (.ceiling (readCeilingProfile bs 2)))
  else .badFormat

/-- QUERY_CLIENT: a record number, or a client address (section 11.2). -/
def readClientRef (bs : Bytes) : Decoded :=
  if bs.length = 2 then .request (.queryClient (.number (halfAt bs 0)))
  else if bs.length = 6 then .request (.queryClient (.address (addrAt bs 0)))
  else .badFormat

/-- A code with its arguments (section 11.2). -/
def readRequest (code : Byte) (bs : Bytes) : Decoded :=
  if code = 0x01 then ofLength bs 2 (.enrol (byteAt bs 0) (byteAt bs 1))
  else if code = 0x02 then ofLength bs 1 (.releaseRoles (byteAt bs 0))
  else if code = 0x03 then if bs.length ≤ 11 then .request (.clearCauses bs) else .badFormat
  else if code = 0x10 then
    ofLength bs 13
      (.grantShare (wordAt bs 0) (halfAt bs 4) (halfAt bs 6) (halfAt bs 8) (halfAt bs 10) (byteAt bs 12))
  else if code = 0x11 then ofLength bs 9 (.entitle (addrAt bs 0) (byteAt bs 6) (halfAt bs 7))
  else if code = 0x12 then ofLength bs 6 (.revoke (addrAt bs 0))
  else if code = 0x13 then ofLength bs 0 .journeyEnd
  else if code = 0x14 then ofLength bs 6 (.evict (addrAt bs 0))
  else if code = 0x20 then readProfile bs
  else if code = 0x21 then readLamp bs
  else if code = 0x22 then
    if bs.length ≤ 22 ∧ bs.length % 2 = 0 then .request (.setLevels (readPairs bs)) else .badFormat
  else if code = 0x23 then ofLength bs 6 (.setTiming (halfAt bs 0) (halfAt bs 2) (halfAt bs 4))
  else if code = 0x24 then ofLength bs 14 (.setAddressing (addrAt bs 0) (byteAt bs 6) (addrAt bs 7) (byteAt bs 13))
  else if code = 0x25 then ofLength bs 4 (.setIdentity (wordAt bs 0))
  else if code = 0x26 then ofLength bs 2 (.portOffline (byteAt bs 0) (byteAt bs 1))
  else if code = 0x27 then ofLength bs 7 (.relaySetting (byteAt bs 0) (byteAt bs 1) (wordAt bs 2) (byteAt bs 6))
  else if code = 0x28 then ofLength bs 0 .storeSettings
  else if code = 0x29 then ofLength bs 0 .reloadSettings
  else if code = 0x2A then ofLength bs 0 .cabinetReset
  else if code = 0x30 then ofLength bs 3 (.readCounters (byteAt bs 0) (byteAt bs 1) (byteAt bs 2))
  else if code = 0x31 then ofLength bs 0 .queryCabinet
  else if code = 0x32 then readClientRef bs
  else if code = 0x33 then ofLength bs 2 (.listClients (halfAt bs 0))
  else if code = 0x34 then ofLength bs 2 (.queryPort (byteAt bs 0) (byteAt bs 1))
  else if code = 0x35 then ofLength bs 1 (.queryLink (byteAt bs 0))
  else .unknown

/-- R191, steps 1 and 2, on a frame whose header passed R190: the code, then the status field and the argument length. -/
def decodeRequest (frame : Bytes) : Decoded :=
  let n := (halfAt frame 23).toNat
  match readRequest (byteAt frame 16) (field frame 25 n) with
  | .unknown => .unknown
  | d => if byteAt frame 17 ≠ 0 ∨ frame.length < 25 + n + 4 then .badFormat else d

/-- The header is well formed (R220). -/
def headerFormed (frame : Bytes) : Bool :=
  decide (25 ≤ frame.length)
    && (byteAt frame 15 == requestKind || byteAt frame 15 == responseKind || byteAt frame 15 == noticeKind)
    && (byteAt frame 18 == 0 || (byteAt frame 18 == 1 && byteAt frame 15 == noticeKind))

/-- A request as the Management Engine takes it: its return details, and what it decodes to. -/
structure Message where
  details : Return
  content : Decoded
  deriving DecidableEq, Repr

/-- R190, tests 1 to 3: a message handed to the engine, or `none` when it is to be discarded. -/
def readMessage (side : Side) (frame : Bytes) : Option Message :=
  if headerFormed frame && byteAt frame 14 == 1 && byteAt frame 15 == requestKind then
    some { details := { station := frameSrc frame, side := side, code := byteAt frame 16, tag := halfAt frame 19 },
           content := decodeRequest frame }
  else none

/-- The address a request is sent to (R188). -/
def State.destAddress (s : State) : Dest → Addr
  | .cabinet => s.me.addressing.cabinet
  | .allCabinets => allCabinets
  | .group => s.me.addressing.group

/-- The frame of a request (section 11.1). -/
def State.requestFrame (s : State) (h : ReqHeader) (q : Request) : Bytes :=
  managementFrame (s.destAddress h.dest) h.station requestKind q.code 0 0 h.tag h.epoch q.args

/-- The message that a request's frame is read as. -/
def requestMessage (h : ReqHeader) (q : Request) : Message :=
  { details := { station := h.station, side := h.side, code := q.code, tag := h.tag },
    content := if q.inFormat then .request q else .badFormat }

end Sys2Proof.Machine
end

