-- ==== Sys2Proof/Machine/Loader.lean ====
section
/-! DEFINITION. The Settings Loader (R209 to R218): resets, the start-up load and the release of the ports, reload and store. -/

namespace Sys2Proof.Machine

/-! ### Resets -/

/-- The image after a reset: a store whose first stage had begun leaves it invalid (R216, R217; log entry 16). -/
def State.memoryAfterReset (s : State) : Image :=
  match s.sl.unit with
  | .storing _ _ => { s.memory with check := none }
  | _ => s.memory

/-- A reset (R211): every block takes its reset values in one event. Kept are the pins, the settings memory, the queue of
commands, what the event has sent, and the number of accesses made; the reset record takes its cause and count. -/
def State.afterReset (s : State) (cause : ResetCause) (count : Nat) : State :=
  { pending := s.pending
    ev := { out := s.ev.out, composed := s.ev.composed }
    free := s.free
    resetLine := s.resetLine
    memory := s.memoryAfterReset
    spb := { trunks := mapVector s.spb.trunks fun t => { signal := t.signal, wire := t.wire } }
    clb := { links := mapVector s.clb.links fun x => { statusIn := x.statusIn } }
    sl := { access := s.sl.access, resetCause := cause, resetCount := count } }

/-- The count of resets other than power-on, one more, at most 255 (R211). -/
def State.nextResetCount (s : State) : Nat := min (s.sl.resetCount + 1) 255

/-- A read of the image begins (R210, R212); each access has a number of its own (log entry 14). -/
def State.beginLoad (s : State) : State :=
  s.onSl fun b => { b with unit := .loading, begun := true, access := b.access + 1, accessTimer := some 500 }

/-- The start-up load that follows a reset has not begun. -/
def State.loadAwaited (s : State) : Bool := s.sl.unit == .loading && !s.sl.begun

/-- A cabinet reset; its start-up load begins at once (R211). -/
def State.cabinetReset (s : State) : State := (s.afterReset .cabinetRequest s.nextResetCount).beginLoad

/-- Power-on (R211). -/
def State.powerOn (s : State) : State := s.afterReset .powerOn 0

/-- The reset line is asserted (R211); an asserted line has no further edge (log entry 31). -/
def State.lineAsserted (s : State) : State :=
  if s.resetLine then s else { s.afterReset .resetLine s.nextResetCount with resetLine := true }

/-- The reset line is released; the start-up load begins (R211). -/
def State.lineReleased (s : State) : State :=
  if s.resetLine then ({ s with resetLine := false } : State).beginLoad else s

/-- R211: the start-up load begins, once, at the first tick after power-on. -/
def State.startLoad (s : State) : State := if s.loadAwaited then s.beginLoad else s

/-! ### Making settings current -/

/-- The cause levels that a list gives, in the order of the codes. -/
def levelVector (levels : List Nat) : Vector Nat 11 := Vector.ofFn fun i => levels.getD i.val 0

/-- The settings given to their owners (R137, R152, R189, R200, R213, R215). The vehicle number is given apart (R185). The
carriage timings come last, so that a timer set in this event keeps the earlier value (log entry 39); a seat or link that its new
profile takes out of use sends its clients to LINGERING (log entry 40). Seats come before links, and the links that leave READY
leave it together (R63, R65; log entries 42 and 43). -/
def State.giveSettings (s : State) (x : Settings) : State :=
  let s1 := allSeats.foldl (fun t p => t.setSeatProfile p (x.seats.getD p.val {})) s
  let s2 := s1.onSpb fun b => { b with rules := x.rules, brightness := x.brightness }
  let s3 := s2.setCeilingProfiles (allLinks.map fun c => (c, x.links.getD c.val {}))
  let s4 := s3.onMe fun m => { m with addressing := x.addressing, levels := levelVector x.levels }
  ((s4.onMc fun b => { b with releaseTimeout := x.timing.release }).onCt fun b =>
    { b with lingerTime := x.timing.linger }).onClb fun b => { b with deferWindow := x.timing.defer }

/-- The vehicle number of a load or reload (R185): taken when neither port is COUPLED; otherwise the number in force is kept, in
the current settings too. -/
def State.giveVehicle (s : State) (v : Nat) : State :=
  if s.coupled .fore || s.coupled .aft then s.onCu fun b => { b with vehicleSetting := b.vehicle }
  else s.onCu fun b => { b with vehicle := v, vehicleSetting := v }

/-- R185: the number of an image is reported as taken. -/
def State.vehicleTaken (s : State) (v : Nat) : Bool := (!s.coupled .fore && !s.coupled .aft) || s.cu.vehicle == v

/-- R213 step 3: the ports leave their held states, and the minute timer and the blink cycle start. -/
def State.releasePorts (s : State) : State :=
  let s1 := allTrunks.foldl (fun t k => t.releaseTrunk k) s
  let s2 := allLinks.foldl (fun t c => t.releaseLink c) s1
  let s3 := allSides.foldl (fun t side => t.releaseBackbone side) s2
  (s3.onEl fun b => { b with minute := some 60000 }).onSpb fun b => { b with blinkRunning := true, blink := 0 }

/-- The unit becomes IDLE and the access timer stops. -/
def State.unitIdle (s : State) (outcome : LoadOutcome) : State :=
  s.onSl fun b => { b with unit := .idle, accessTimer := none, outcome := some outcome, pendingReturn := none }

/-- The response of a long request, by the route of R199. -/
def State.respondLong (s : State) (r : Option Return) (status : Status) (args : Bytes) : State :=
  match r with
  | none => s
  | some d =>
    s.pushResponse
      { station := d.station, side := d.side, long := true, code := d.code, tag := d.tag, status := status, args := args }

/-- R212 and R213: the end of the start-up load. -/
def State.startUpEnd (s : State) (found : Option Settings) (outcome : LoadOutcome) : State :=
  let x := found.getD factorySettings
  let s1 := (s.giveSettings x).giveVehicle x.vehicle
  let s2 := s1.onSl fun b => { b with source := some (if found.isSome then .stored else .factory) }
  let s3 := s2.countSl fun c =>
    { c with
      loadsFromImage := if found.isSome then bump c.loadsFromImage else c.loadsFromImage
      loadsDefaulted := if found.isSome then c.loadsDefaulted else bump c.loadsDefaulted }
  let s4 := if found.isSome then s3 else s3.raise .settingsFault
  s4.releasePorts.unitIdle outcome

/-- R215: the end of a reload. -/
def State.reloadEnd (s : State) (found : Option Settings) (outcome : LoadOutcome) : State :=
  let back := s.sl.pendingReturn
  match found with
  | some x =>
    let taken := s.vehicleTaken x.vehicle
    let s1 := (s.giveSettings x).giveVehicle x.vehicle
    let s2 := s1.onSl fun b => { b with source := some .stored }
    let s3 := s2.countSl fun c => { c with loadsFromImage := bump c.loadsFromImage }
    (s3.unitIdle outcome).respondLong back .ok [boolByte taken]
  | none =>
    let s1 := (s.countSl fun c => { c with reloadFaults := bump c.reloadFaults }).raise .settingsFault
    (s1.unitIdle outcome).respondLong back .settingsFault []

/-- A load ends: the start-up load, or a reload. -/
def State.loadEnd (s : State) (found : Option Settings) (outcome : LoadOutcome) : State :=
  if s.sl.lastOperation = .startLoad then s.startUpEnd found outcome else s.reloadEnd found outcome

/-- The read numbered `access` has completed (R212, R214); a late answer is ignored. -/
def State.readComplete (s : State) (access : Nat) : State :=
  if s.sl.unit = .loading ∧ s.sl.begun = true ∧ access = s.sl.access then
    let found := s.memory.settings
    s.loadEnd found (if found.isSome then .ok else .badImage)
  else s

/-! ### Stores -/

/-- The image after a store fails in a stage (R216): invalid after the first stage; after the first stage's own failure, a free
value says (log entry 15). -/
def failedImage (m : Image) (stage : Stage) (free : Nat) : Image :=
  if stage = .first ∧ Config.firstStageFailureInvalidates free = false then m else { m with check := none }

/-- R216: a store ends WRITE_FAILED. -/
def State.storeFailed (s : State) (stage : Stage) : State :=
  let back := s.sl.pendingReturn
  let s1 : State := { s with memory := failedImage s.memory stage s.free }
  let s2 := (s1.countSl fun c => { c with storeFaults := bump c.storeFaults }).raise .settingsFault
  (s2.unitIdle .writeFailed).respondLong back .settingsFault []

/-- R216: a stage of a store is acknowledged. -/
def State.storeStage (s : State) (stage : Stage) (items : Bytes) : State :=
  match stage with
  | .first => ({ s with memory := { s.memory with check := none } } : State).onSl fun b => { b with unit := .storing .second items }
  | .second => ({ s with memory := { s.memory with items := items } } : State).onSl fun b => { b with unit := .storing .third items }
  | .third =>
    let back := s.sl.pendingReturn
    let s1 : State := { s with memory := { items := items, check := some (crc32 items) } }
    ((s1.countSl fun c => { c with storesCompleted := bump c.storesCompleted }).unitIdle .ok).respondLong back .ok []

/-- The write numbered `access` is acknowledged (R216); one that does not belong to the store in progress is ignored. -/
def State.stageComplete (s : State) (access : Nat) : State :=
  match s.sl.unit with
  | .storing stage items => if access = s.sl.access then s.storeStage stage items else s
  | _ => s

/-- The write numbered `access` has failed (R216). -/
def State.writeFailure (s : State) (access : Nat) : State :=
  match s.sl.unit with
  | .storing stage _ => if access = s.sl.access then s.storeFailed stage else s
  | _ => s

/-- R210: the access timer's expiry ends a load with NO_ANSWER and a store with WRITE_FAILED. -/
def State.accessExpiry (s : State) : State :=
  match s.sl.unit with
  | .loading => s.loadEnd none .noAnswer
  | .storing stage _ => s.storeFailed stage
  | .idle => s

/-- R214: a reload begins. -/
def State.beginReload (s : State) (r : Return) : State :=
  (s.onSl fun b => { b with pendingReturn := some r, lastOperation := .reload, outcome := none }).beginLoad

/-- R216: a store begins, with the current settings collected. -/
def State.beginStore (s : State) (r : Return) : State :=
  s.onSl fun b =>
    { b with
      pendingReturn := some r
      lastOperation := .store
      outcome := none
      unit := .storing .first s.settings.bytes
      access := b.access + 1
      accessTimer := some 2000 }

end Sys2Proof.Machine
end

