-- ==== Sys2Proof/Machine/Event.lean ====
section
/-! DEFINITION. One event: what begins it, and what every event ends with, whatever it was. -/

namespace Sys2Proof.Machine

/-- An event begins: what the last one sent is cleared, and the levels and thresholds in force are kept for the raises of this
event (R193, R200; log entry 12). The free-value counter advances (log entry 37). -/
def State.beginEvent (s : State) : State :=
  { s with
    free := s.free + 1
    ev := { levels := s.me.levels, thresholds := s.me.stations.map fun st => (st.addr, st.threshold) } }

/-- The slot of a request taken in this event is free again (R44; log entry 6). -/
def State.settleInHand (s : State) : State :=
  match s.ev.inHand with
  | none => s
  | some k => (s.settle k).onEv fun e => { e with inHand := none }

/-- The pages owed by ports that left DECOUPLED (R170). -/
def State.duePages (s : State) : State :=
  s.ev.pages.foldl (fun t side => t.makePage side) (s.onEv fun e => { e with pages := [] })

/-- What every event ends with, in this order: the vehicle number that waited is taken (R184); the lamps are resolved and
commanded (R133, R135); the responses are composed, and then the ordinary notices (R49, R191, R202); the request's slot is free
(R44); the pages of ports that left DECOUPLED are made (R170). -/
def State.closeEvent (s : State) : State :=
  let s1 := s.takeVehicle.sweepLamps
  let s2 := s1.sendResponses.ordinaryNotices 4
  s2.settleInHand.duePages

/-- An event ends: after all its other effects a cabinet reset that is due takes place (R49). -/
def State.endEvent (s : State) : State :=
  let t := s.closeEvent
  if t.ev.resetDue then t.cabinetReset else t

/-- A whole event. While the reset line is asserted every block is held at its reset values, and the event has no effect (R211;
log entry 31). -/
def State.event (s : State) (f : State → State) : State :=
  let s0 := s.beginEvent
  if s.resetLine then s0 else (f s0).endEvent

/-- An event of a pin: a trunk's signal or status, or a radio's status. The pin follows the outside while the reset line is
asserted too; every trunk and link is HELD then, so nothing but the pin changes (log entries 17 and 31). -/
def State.pinEvent (s : State) (f : State → State) : State :=
  let s0 := s.beginEvent
  if s.resetLine then f s0 else (f s0).endEvent

/-- An event that has its effect only when it is due: an expiry that is not due, or an answer that is not awaited, changes
nothing (log entry 4). -/
def State.eventWhen (s : State) (due : Bool) (f : State → State) : State := s.event fun t => if due then f t else t

end Sys2Proof.Machine
end

