-- ==== Sys2Proof/Machine/Answers.lean ====
section
/-! DEFINITION. What the queries and READ_COUNTERS answer, byte for byte (R27, R98, R116, R138, R166, R186, R206 to R208, R218,
R221 to R223). A value of an enumeration takes its position in the list where its rule names it (section 11.3; log entry 20). -/

namespace Sys2Proof.Machine

/-! ### Fields -/

def counterBytes (cs : List Counter) : Bytes := cs.flatMap wordBytes

/-- A remaining time: 4 bytes, 0xFFFFFFFF when stopped or absent (R222). -/
def timeBytes : Timer → Bytes
  | none => [0xFF, 0xFF, 0xFF, 0xFF]
  | some n => beBytes 4 n

def natByte (n : Nat) : Byte := BitVec.ofNat 8 n

/-- An item of `n` bytes that may be none, given then as all 0xFF (R223). -/
def orFF (n : Nat) : Option Nat → Bytes
  | none => List.replicate n 0xFF
  | some v => beBytes n v

/-- A grant: a presence byte and its six fields, 0 when absent (R223). -/
def grantBytes : Option Grant → Bytes
  | none => List.replicate 14 0
  | some g => 1 :: (beBytes 4 g.pool ++ beBytes 2 g.period ++ beBytes 2 g.basic ++ beBytes 2 g.standard ++ beBytes 2 g.premium
      ++ [sideCode g.gateway])

/-- A lamp output: effect and duty (R223). -/
def LampOutput.bytes (o : LampOutput) : Bytes := [o.effect.code, natByte o.duty]

/-- A last commanded output; none is 0xFF 0xFF (R223). -/
def lastOutputBytes : Option LampOutput → Bytes
  | none => [0xFF, 0xFF]
  | some o => o.bytes

/-- The Mbit/s of a speed, 0 when the seat has none (R223). -/
def speedByte : Option Speed → Byte
  | none => 0
  | some .mbit10 => 10
  | some .mbit100 => 100

def TrunkState.code : TrunkState → Byte
  | .held => 0
  | .lost => 1
  | .present => 2

def LinkState.code : LinkState → Byte
  | .held => 0
  | .down => 1
  | .unready => 2
  | .ready => 3

def CouplingState.code : CouplingState → Byte
  | .decoupled => 0
  | .paging => 1
  | .coupled => 2
  | .faulted => 3

def UnitState.code : UnitState → Byte
  | .idle => 0
  | .loading => 1
  | .storing _ _ => 2

def Operation.code : Operation → Byte
  | .startLoad => 0
  | .reload => 1
  | .store => 2

def LoadOutcome.code : LoadOutcome → Byte
  | .ok => 0
  | .badImage => 1
  | .noAnswer => 2
  | .writeFailed => 3

def Source.code : Source → Byte
  | .stored => 0
  | .factory => 1

def ResetCause.code : ResetCause → Byte
  | .powerOn => 0
  | .resetLine => 1
  | .cabinetRequest => 2

/-! ### Client records (R27, R222) -/

def RecordState.code : RecordState → Byte
  | .attached _ _ => 1
  | .moving _ _ _ _ _ => 2
  | .lingering _ => 3

/-- Place kind, port and association number. -/
def placeBytes : Option Place → Bytes
  | none => [0, 0, 0]
  | some (.seat p) => [1, natByte p.val, 0]
  | some (.ceiling c a) => [2, natByte c.val, assocByte a]

/-- The remaining time that runs in a record's state. -/
def RecordState.time : RecordState → Timer
  | .attached _ idle => idle
  | .moving _ _ _ deadline _ => deadline
  | .lingering linger => linger

/-- Former link and association number. -/
def formerBytes : Option (LinkNo × AssocNo) → Bytes
  | none => [0xFF, 0]
  | some (c, a) => [natByte c.val, assocByte a]

/-- The 33 bytes of a client record. -/
def recordBytes (n : Nat) (r : Record) : Bytes :=
  beBytes 2 n ++ addrBytes r.addr ++ [r.st.code] ++ placeBytes r.st.place ++ [r.cls.code] ++ timeBytes r.st.time
    ++ formerBytes r.st.former ++ [0, 0] ++ [natByte r.st.hold.length] ++ beBytes 2 r.credit ++ [natByte r.parked.length]
    ++ wordBytes r.charged ++ wordBytes r.overShare

/-- LIST_CLIENTS from a start (R27): up to 32 records, and the next number, 0xFFFF when no record lies above. -/
def listClientsBytes (records : Table Record) (start : Nat) : Bytes :=
  let all := records.filter fun e => decide (start ≤ e.1)
  let page := all.take 32
  let next := match page.getLast? with
    | some e => if all.length ≤ 32 then 0xFFFF else e.1 + 1
    | none => 0xFFFF
  natByte page.length :: (beBytes 2 next ++ page.flatMap fun e => recordBytes e.1 e.2)

/-! ### Counter groups (R207, R221) -/

def CtCounters.list (c : CtCounters) : List Counter :=
  [c.created, c.reclaims, c.creationFailures, c.idleExpiries, c.lingerExpiries, c.evictions, c.unmatchedDisassociations]

def McCounters.list (c : McCounters) : List Counter :=
  [c.begun, c.byRelease, c.byDisassociation, c.byLinkLoss, c.supersessions, c.timeouts, c.cancellations, c.retargets,
   c.targetsLost, c.holdQueueDrops, c.flushDrops, c.holdDiscarded, c.strayReleases]

def SauCounters.list (c : SauCounters) : List Counter :=
  [c.framesCharged, c.framesUncharged, c.framesParked, c.framesReleased, c.overShareDrops, c.upstreamHoldDrops,
   c.gatewayFullDrops, c.parkedDiscarded, c.refills, c.grantsApplied, c.grantsPended, c.pendingReplaced, c.pendingTaken,
   c.holdEntries]

def ElCounters.list (c : ElCounters) : List Counter :=
  [c.added, c.replaced, c.listFull, c.revoked, c.journeyEnd, c.expired, c.barsLifted]

def FsCounters.list (c : FsCounters) : List Counter :=
  [c.clientNoSlot, c.backboneNoSlot, c.composedLost, c.absentClient, c.unknownUnicast, c.notForCabinet, c.unplaced]

def SeatCounters.list (c : SeatCounters) : List Counter :=
  [c.received, c.notUp, c.checkErrors, c.runts, c.oversize, c.barred, c.badSource, c.accepted, c.looped, c.linkDowns,
   c.lampCommands]

def LinkCounters.list (c : LinkCounters) : List Counter :=
  [c.malformed, c.notReady, c.cutFrames, c.linkLosses, c.received, c.checkErrors, c.runts, c.oversize, c.unassociated,
   c.mismatches, c.accepted, c.disassociations, c.releases, c.associations, c.admissions, c.deferrals, c.refusedBarred,
   c.refusedLinkFull, c.refusedTableFull, c.madeAdmit, c.madeRefuse, c.madeDefer, c.madeRelease, c.madeDrop, c.madeSetting,
   c.relaysStarted, c.relaysAnswered, c.relaysTimedOut, c.relaysLinkDown, c.strayAnswers]

def CuCounters.list (c : CuCounters) : List Counter :=
  [c.pagesSent, c.pagesReceived, c.pageErrors, c.faultsEntered, c.linkFailures, c.silences, c.couplings]

def MeCounters.list (c : MeCounters) : List Counter :=
  [c.requests, c.discarded, c.unknown, c.badFormat, c.notHolder, c.notices, c.finalNotices] ++ c.raised.toList

def SlCounters.list (c : SlCounters) : List Counter :=
  [c.loadsFromImage, c.loadsDefaulted, c.reloadFaults, c.storesCompleted, c.storeFaults, c.busyRefusals]

/-- The Frame Store's counters of a port, those that its kind keeps, in the order of R50. -/
def portCounterList : Port → PortCounters → List Counter
  | .seat _, c => [c.sent, c.egressFull, c.portDown, c.loopbackDrops, c.discarded, c.lost]
  | .ceiling _, c => [c.sent, c.egressFull, c.portDown, c.discarded, c.lost]
  | .backbone _, c =>
    [c.sent, c.egressFull, c.portDown, c.discarded, c.lost, c.checkErrors, c.runts, c.oversize, c.notCoupled]

def State.seatGroup (s : State) (p : SeatNo) : List Counter :=
  let t := s.trunk (trunkOf p)
  (s.seat p).counts.list ++ [t.signalLosses, t.cutFrames] ++ portCounterList (.seat p) (s.queue (.seat p)).counts

def State.linkGroup (s : State) (c : LinkNo) : List Counter :=
  (s.link c).counts.list ++ portCounterList (.ceiling c) (s.queue (.ceiling c)).counts

def State.backboneGroup (s : State) (side : Side) : List Counter :=
  (s.side side).counts.list ++ portCounterList (.backbone side) (s.queue (.backbone side)).counts

/-- The counters of a group, or `none` for a group or port that does not exist (R207, R221). -/
def State.counterGroup (s : State) (group port : Byte) : Option (List Counter) :=
  let carriage := fun (cs : List Counter) => if port = 0 then some cs else none
  if group = 1 then carriage s.ct.counts.list
  else if group = 2 then carriage s.mc.counts.list
  else if group = 3 then carriage s.sau.counts.list
  else if group = 4 then carriage s.el.counts.list
  else if group = 5 then carriage s.fs.counts.list
  else if group = 6 then (seatOf port).map s.seatGroup
  else if group = 7 then (linkOf port).map s.linkGroup
  else if group = 8 then carriage [s.clb.overflows, s.clb.expiries]
  else if group = 9 then (sideOf port).map s.backboneGroup
  else if group = 10 then carriage [s.cu.setChanges]
  else if group = 11 then carriage s.me.counts.list
  else if group = 12 then carriage s.sl.counts.list
  else none

/-- Every counter of the part set to 0 (R207): those of all groups, and the per-record counters. -/
def State.clearCounters (s : State) : State :=
  { s with
    ct := { s.ct with records := s.ct.records.map fun e => (e.1, { e.2 with charged := 0, overShare := 0 }), counts := {} }
    mc := { s.mc with counts := {} }
    sau := { s.sau with counts := {} }
    el := { s.el with counts := {} }
    fs := { s.fs with
      seatQ := mapVector s.fs.seatQ fun q => { q with counts := {} }
      linkQ := mapVector s.fs.linkQ fun q => { q with counts := {} }
      foreQ := { s.fs.foreQ with counts := {} }
      aftQ := { s.fs.aftQ with counts := {} }
      counts := {} }
    spb := { s.spb with
      seats := mapVector s.spb.seats fun x => { x with counts := {} }
      trunks := mapVector s.spb.trunks fun t => { t with signalLosses := 0, cutFrames := 0 } }
    clb := { s.clb with
      links := mapVector s.clb.links fun x => { x with counts := {} }
      overflows := 0
      expiries := 0 }
    cu := { s.cu with
      fore := { s.cu.fore with counts := {} }
      aft := { s.cu.aft with counts := {} }
      setChanges := 0 }
    me := { s.me with counts := {} }
    sl := { s.sl with counts := {} } }

/-! ### QUERY_CABINET (R206) -/

/-- R98: the Share Accounting Unit's items. -/
def State.shareItems (s : State) : Bytes :=
  let head := match s.sau.state with
    | .held => 0 :: (grantBytes none ++ grantBytes none)
    | .granted g pending => 1 :: (grantBytes (some g) ++ grantBytes pending)
  head ++ beBytes 4 s.sau.pool ++ timeBytes s.sau.refill ++ [boolByte s.sau.overShareMark] ++ beBytes 2 s.sau.waiting.length

/-- R116: the Entitlement List's items. -/
def State.listItems (s : State) : Bytes :=
  let count := fun (k : Kind) => s.el.entries.countP fun e => e.kind == k
  beBytes 2 s.el.entries.length ++ beBytes 2 (count .barred) ++ beBytes 2 (count .service) ++ timeBytes s.el.minute

/-- R30, R33: the Frame Store's items. -/
def State.storeItems (s : State) : Bytes := beBytes 2 s.freeSlots ++ [if s.fs.mark = .armed then 0 else 1]

/-- The coupled set as its byte (R223). -/
def State.coupledSetByte (s : State) : Byte :=
  (if s.coupled .fore then 1 else 0) ||| (if s.coupled .aft then 2 else 0)

/-- R180, R186: the Coupling Unit's items. -/
def State.couplingItems (s : State) : Bytes :=
  s.coupledSetByte :: (halfBytes s.cu.epoch ++ beBytes 4 s.cu.vehicle ++ beBytes 4 s.cu.vehicleSetting)

/-- R138: the lamp items. -/
def State.lampItems (s : State) : Bytes := s.spb.rules.bytes ++ [natByte s.spb.brightness] ++ beBytes 2 s.spb.blink

/-- R166: the Deferral List's items. -/
def State.deferralItems (s : State) : Bytes := natByte s.clb.deferrals.length :: beBytes 2 s.clb.deferWindow

/-- R218: the Settings Loader's items. A source that is unset has no code in the spec (log entry 24). -/
def State.loaderItems (s : State) : Bytes :=
  let b := s.sl
  [b.unit.code, b.lastOperation.code, (b.outcome.map LoadOutcome.code).getD 0xFF,
   (b.source.map Source.code).getD (Config.unsetSource s.free), b.resetCause.code, natByte b.resetCount]

/-- R188: the addressing settings, the fixed address included, in the order of R188 (log entry 22). -/
def State.addressingItems (s : State) : Bytes :=
  let a := s.me.addressing
  addrBytes a.cabinet ++ addrBytes allCabinets ++ [boolByte a.allEnable] ++ addrBytes a.group ++ [boolByte a.groupEnable]

/-- One Station Table entry (R223). -/
def Station.bytes (st : Station) : Bytes :=
  addrBytes st.addr ++ [sideCode st.side, st.roles.code, natByte st.threshold] ++ beBytes 2 (causeSetNat st.pending)
    ++ halfBytes st.epoch

/-- R192: the Station Table entries. -/
def State.stationItems (s : State) : Bytes := natByte s.me.stations.length :: s.me.stations.flatMap Station.bytes

/-- R206: the answer to QUERY_CABINET. -/
def State.cabinetAnswer (s : State) : Bytes :=
  s.shareItems ++ s.listItems ++ s.storeItems ++ s.couplingItems ++ s.lampItems ++ s.deferralItems ++ s.loaderItems
    ++ s.addressingItems ++ s.me.levels.toList.map natByte ++ s.stationItems

/-! ### QUERY_PORT (R138, R186) -/

/-- The six condition values (R130). -/
def LampConditions.bytes (c : LampConditions) : Bytes :=
  [boolByte c.linkUp, boolByte c.clientAttached, boolByte c.entitled, boolByte c.parked, boolByte c.activity,
   boolByte c.lampBarred]

/-- R138: the answer for a seat port. A link indication takes its position in R117's list, UP and DOWN; a DOWN seat has no speed
(R120; log entry 20). -/
def State.seatAnswer (s : State) (p : SeatNo) : Bytes :=
  let x := s.seat p
  let occupant := match s.occupant p with
    | none => 0xFFFF
    | some e => e.1
  [(s.trunk (trunkOf p)).state.code, if x.indication.isSome then 0 else 1, boolByte x.up,
   if x.up then speedByte x.indication else 0]
    ++ seatProfileBytes x.profile.raw ++ [boolByte x.profile.loopback] ++ beBytes 2 occupant
    ++ beBytes 2 (s.queue (.seat p)).entries.length ++ (s.lampConditions p).bytes ++ timeBytes x.activity
    ++ timeBytes x.barredMark ++ [x.force.code] ++ x.resolved.bytes ++ lastOutputBytes x.lastCommanded
    ++ counterBytes (s.seatGroup p)

/-- The received vehicle number, fault and match mark (R223). -/
def receivedBytes : Option Received → Bytes
  | none => List.replicate 6 0xFF
  | some r => beBytes 4 r.vehicle ++ [r.fault.code, boolByte r.mark]

/-- R186: the answer for a backbone port. -/
def State.backboneAnswer (s : State) (side : Side) : Bytes :=
  let b := s.side side
  [b.state.code, b.ownFault.code, boolByte b.offline] ++ receivedBytes b.rx ++ [natByte b.matchCount] ++ orFF 4 b.matched
    ++ timeBytes b.silence ++ timeBytes b.page ++ timeBytes b.linkFailure ++ beBytes 2 b.errorCount ++ timeBytes b.errorWindow
    ++ beBytes 2 (s.queue (.backbone side)).entries.length ++ counterBytes (s.backboneGroup side)

/-! ### QUERY_LINK (R166) -/

/-- The last survey, invalid as 0xFFFF twice (R223). -/
def surveyBytes : Option Survey → Bytes
  | none => List.replicate 4 0xFF
  | some v => beBytes 2 v.busy ++ beBytes 2 v.length

/-- The current window's length and busy count; with none running the spec gives no values, and they are free (log entry 23). -/
def windowBytes (free : Nat) : Option SurveyWindow → Bytes
  | none => halfBytes (Config.absentWindowLength free) ++ halfBytes (Config.absentWindowBusy free)
  | some w => beBytes 2 w.length ++ beBytes 2 w.busy

/-- The relay state, and for a WAITING relay its item, direction and remaining timeout. -/
def relayBytes : Option Relay → Bytes
  | none => [0]
  | some r => [1, r.item, boolByte r.write] ++ timeBytes r.timeout

/-- Answer and refusal reason of the last association (R223). -/
def AssocAnswer.bytes : AssocAnswer → Bytes
  | .admitted => [1, 0]
  | .refused r => [2, r.code]
  | .deferred => [3, 0]

/-- The last association (R223). -/
def lastAssocBytes : Option LastAssoc → Bytes
  | none => List.replicate 10 0
  | some l => addrBytes l.addr ++ [assocByte l.assoc, l.signal] ++ l.answer.bytes

/-- R166: the answer for a ceiling link. -/
def State.linkAnswer (s : State) (c : LinkNo) : Bytes :=
  let x := s.link c
  [x.state.code, boolByte x.ready, boolByte x.busy, boolByte x.accepting] ++ ceilingProfileBytes x.profile.raw
    ++ beBytes 2 (s.attachedCount c) ++ beBytes 2 (s.queue (.ceiling c)).entries.length ++ surveyBytes x.survey
    ++ windowBytes s.free x.window ++ [boolByte x.crowded] ++ relayBytes x.relay ++ lastAssocBytes x.lastAssoc
    ++ counterBytes (s.linkGroup c)

end Sys2Proof.Machine
end

