-- ==== Sys2Proof/Machine/Requests.lean ====
section
/-! DEFINITION. What each request does at the block that owns it (R191 step 5). A reply is the status and arguments of the
response that the event composes; a long request that begins has none (R199). -/

namespace Sys2Proof.Machine

/-- The status and arguments of a response, or `none` when the response is composed at a later event. -/
abbrev Reply := Option (Status × Bytes)

/-- A request refused: nothing changes (R198). -/
def State.refuse (s : State) (status : Status) : State × Reply := (s, some (status, []))

/-- A request carried out. -/
def State.accept (s : State) (args : Bytes) : State × Reply := (s, some (.ok, args))

/-! ### Roles (R192 to R197) -/

/-- A station's roles: none when it has no entry. -/
def State.rolesHeld (s : State) (x : Addr) : Roles := ((s.stationAt x).map Station.roles).getD {}

/-- R193: the entries of a ROLE_HELD response: each wanted role that another station holds, with its holder. SHARE comes first, then
ENTITLE, then CABINET (log entry 47). -/
def State.heldByOthers (s : State) (x : Addr) (wanted : Roles) : List (Roles × Addr) :=
  [({ share := true } : Roles), { entitle := true }, { cabinet := true }].flatMap fun role =>
    if (role.inter wanted).isEmpty then []
    else (s.me.stations.filter fun st => st.addr != x && !(st.roles.inter role).isEmpty).map fun st => (role, st.addr)

/-- A station entry put in its place by address. -/
def putStation (st : Station) : List Station → List Station
  | [] => [st]
  | d :: rest =>
    if st.addr.toNat < d.addr.toNat then st :: d :: rest
    else if st.addr = d.addr then st :: rest
    else d :: putStation st rest

/-- R193: the entry that an accepted ENROL writes. -/
def State.enrolled (s : State) (r : Return) (wanted : Roles) (threshold : Nat) : Station :=
  match s.stationAt r.station with
  | some st => { st with roles := st.roles.union wanted, threshold := threshold, epoch := s.cu.epoch }
  | none =>
    { addr := r.station, side := r.side, roles := wanted, threshold := threshold, pending := [], spacing := none, due := false,
      number := 0, epoch := s.cu.epoch }

/-- R193: ENROL. -/
def State.doEnrol (s : State) (r : Return) (roles threshold : Byte) : State × Reply :=
  match rolesOf roles, levelOf threshold with
  | some wanted, some t =>
    let isNew := (s.stationAt r.station).isNone
    let held := s.heldByOthers r.station wanted
    if wanted.isEmpty && isNew then s.refuse .badArgument
    else if !held.isEmpty then (s, some (.roleHeld, held.flatMap fun h => h.1.code :: addrBytes h.2))
    else if isNew && decide (4 ≤ s.me.stations.length) then s.refuse .stationTableFull
    else
      let st := s.enrolled r wanted t
      (s.onMe fun m => { m with stations := putStation st m.stations }).accept [st.roles.code]
  | _, _ => s.refuse .badArgument

/-- R194, R195: RELEASE_ROLES; an entry left with no role is removed. -/
def State.doReleaseRoles (s : State) (r : Return) (roles : Byte) : State × Reply :=
  match rolesOf roles with
  | none => s.refuse .badArgument
  | some named =>
    let left := (s.rolesHeld r.station).minus named
    let s1 :=
      if left.isEmpty then s.onMe fun m => { m with stations := m.stations.filter fun st => st.addr != r.station }
      else s.onStation r.station fun st => { st with roles := left }
    s1.accept [left.code]

/-- R204: CLEAR_CAUSES. -/
def State.doClearCauses (s : State) (r : Return) (causes : List Byte) : State × Reply :=
  match causesOf causes with
  | some cs =>
    if cs.isEmpty || !decide cs.Nodup then s.refuse .badArgument
    else
      let s1 := s.onStation r.station fun st => { st with pending := removeCauses cs st.pending }
      s1.accept (beBytes 2 (causeSetNat (((s1.stationAt r.station).map Station.pending).getD [])))
  | none => s.refuse .badArgument

/-! ### Share and entitlements -/

/-- R77 to R79: GRANT_SHARE. -/
def State.doGrantShare (s : State) (grant : Option Grant) : State × Reply :=
  match grant with
  | none => s.refuse .badArgument
  | some g =>
    if !s.coupled g.gateway then s.refuse .badArgument
    else
      match s.sau.state with
      | .held => (s.applyGrant g).accept [0]
      | .granted inForce pending => (s.pendGrant inForce pending g).accept [1]

/-- The duration of an ENTITLE: 0 is journey-long (section 11.2, R103). -/
def minutesOf (m : Half) : Option (Option Nat) :=
  if m = 0 then some none else if m.toNat ≤ 1440 then some (some m.toNat) else none

/-- An entry's kind, minutes and granting station, as a response gives them; journey-long minutes are given as 0, as the request
gives them (log entry 44). -/
def Entitlement.bytes (e : Entitlement) : Bytes := e.kind.code :: (beBytes 2 (e.minutes.getD 0) ++ addrBytes e.station)

/-- The OK arguments of ENTITLE (R103, R222). -/
def entitleAnswer (old : Option Entitlement) (record : Option (Nat × Record)) (kind : Kind) : Bytes :=
  let previous := match old with
    | none => List.replicate 10 0
    | some e => 1 :: e.bytes
  let number := match record with
    | none => 0xFFFF
    | some r => r.1
  previous ++ beBytes 2 number ++ [(recordEffect kind record).code]

/-- R103, R104: ENTITLE. -/
def State.doEntitle (s : State) (r : Return) (x : Addr) (kind : Byte) (minutes : Half) : State × Reply :=
  match kindOf kind, minutesOf minutes with
  | some k, some m =>
    if badClientAddr x then s.refuse .badArgument
    else if (s.entryOf x).isNone && decide (256 ≤ s.el.entries.length) then
      (s.countEl fun c => { c with listFull := bump c.listFull }).refuse .listFull
    else
      (s.writeEntitlement { addr := x, kind := k, minutes := m, station := r.station }).accept
        (entitleAnswer (s.entryOf x) (s.byAddr x) k)
  | _, _ => s.refuse .badArgument

/-- R105: REVOKE. -/
def State.doRevoke (s : State) (x : Addr) : State × Reply :=
  match s.entryOf x with
  | none => s.refuse .notFound
  | some e =>
    (s.removeEntitlements (fun d => d.addr == x) fun c => { c with revoked := bump c.revoked }).accept e.bytes

/-- R106: JOURNEY_END. -/
def State.doJourneyEnd (s : State) : State × Reply :=
  let out := fun (e : Entitlement) => e.kind != .service
  (s.removeEntitlements out fun c => { c with journeyEnd := bump c.journeyEnd }).accept (beBytes 2 (s.el.entries.countP out))

/-- R26: EVICT. -/
def State.doEvict (s : State) (x : Addr) : State × Reply :=
  match s.byAddr x with
  | none => s.refuse .notFound
  | some (n, _) => (s.evictRecord n).accept []

/-! ### Settings -/

/-- R122, R151: SET_PROFILE. -/
def State.doSetProfile (s : State) (port : Byte) : RawProfile → State × Reply
  | .seat f =>
    match seatOf port, seatProfileOf f with
    | some p, some profile => (s.setSeatProfile p profile).accept []
    | _, _ => s.refuse .badArgument
  | .ceiling f =>
    match linkOf port, ceilingProfileOf f with
    | some c, some profile => (s.setCeilingProfiles [(c, profile)]).accept []
    | _, _ => s.refuse .badArgument

/-- A part that may be absent, read: `none` when it is present and outside its values. -/
def readPart {α β : Type} (f : α → Option β) : Option α → Option (Option β)
  | none => some none
  | some a => (f a).map some

/-- The parts of a SET_LAMP applied (R136). -/
def State.applyLamp (s : State) (rules : Option LampRules) (brightness : Option Nat) (forces : List (SeatNo × Force)) : State :=
  let s1 := s.onSpb fun b => { b with rules := rules.getD b.rules, brightness := brightness.getD b.brightness }
  forces.foldl (fun t e => t.onSeat e.1 fun x => { x with force := e.2 }) s1

/-- The number of lamp commands that resolving every seat now makes. -/
def State.lampsDue (s : State) : Nat := allSeats.countP s.lampDue

/-- R136: SET_LAMP. A bit of the part set beside the three is an argument outside its values (log entry 25). -/
def State.doSetLamp (s : State) (otherParts : BitVec 5) (rules : Option RawRules) (brightness : Option Byte)
    (forces : Option (List (Byte × Byte))) : State × Reply :=
  match readPart rulesOf rules, readPart brightnessOf brightness, readPart forcesOf forces with
  | some r, some b, some f =>
    if otherParts ≠ 0 ∨ (r.isNone ∧ b.isNone ∧ f.isNone) ∨ f = some [] ∨ ¬ ((f.getD []).map Prod.fst).Nodup then
      s.refuse .badArgument
    else
      let s1 := s.applyLamp r b (f.getD [])
      s1.sweepLamps.accept [natByte s1.lampsDue]
  | _, _, _ => s.refuse .badArgument

/-- R200: SET_LEVELS. -/
def State.doSetLevels (s : State) (pairs : List (Byte × Byte)) : State × Reply :=
  match levelsOf pairs with
  | some ls =>
    if ls.isEmpty || !decide (ls.map Prod.fst).Nodup then s.refuse .badArgument
    else (s.onMe fun m => { m with levels := ls.foldl (fun v e => v.set e.1.index e.2) m.levels }).accept []
  | none => s.refuse .badArgument

/-- R23, R57, R162: SET_TIMING. -/
def State.doSetTiming (s : State) (release linger defer : Half) : State × Reply :=
  match timingOf release linger defer with
  | none => s.refuse .badArgument
  | some t =>
    (((s.onMc fun b => { b with releaseTimeout := t.release }).onCt fun b => { b with lingerTime := t.linger }).onClb fun b =>
      { b with deferWindow := t.defer }).accept []

/-- R189: SET_ADDRESSING. -/
def State.doSetAddressing (s : State) (cabinet : Addr) (allEnable : Byte) (group : Addr) (groupEnable : Byte) : State × Reply :=
  match addressingOf cabinet allEnable group groupEnable with
  | none => s.refuse .badArgument
  | some a => (s.onMe fun m => { m with addressing := a }).accept []

/-- R184: the number equals the received vehicle number of a backbone port. -/
def State.isNeighbour (s : State) (v : Nat) : Bool :=
  allSides.any fun side => (s.side side).rx.any fun r => r.vehicle == v

/-- R184: SET_IDENTITY. -/
def State.doSetIdentity (s : State) (vehicle : Word) : State × Reply :=
  match within 1 16777215 vehicle.toNat with
  | none => s.refuse .badArgument
  | some v =>
    if s.isNeighbour v then s.refuse .conflict
    else (s.onCu fun b => { b with vehicleSetting := v }).accept (beBytes 4 s.cu.vehicleSetting)

/-- R179: PORT_OFFLINE. -/
def State.doPortOffline (s : State) (port setting : Byte) : State × Reply :=
  match sideOf port, boolOf setting with
  | some side, some offline => (s.setOffline side offline).accept []
  | _, _ => s.refuse .badArgument

/-- R164: RELAY_SETTING. -/
def State.doRelaySetting (s : State) (r : Return) (link item : Byte) (value : Word) (direction : Byte) : State × Reply :=
  match linkOf link, boolOf direction with
  | some c, some write =>
    if (s.link c).relay.isSome then s.refuse .busy
    else if (s.link c).state ≠ .ready then s.refuse .linkDown
    else
      let s1 := s.sendRadio c (.setting item value write)
      (s1.onLink c fun x =>
        { x with
          relay := some { station := r.station, side := r.side, tag := r.tag, item := item, write := write, timeout := some 100 }
          counts := { x.counts with relaysStarted := bump x.counts.relaysStarted } }, none)
  | _, _ => s.refuse .badArgument

/-- A RELOAD_SETTINGS or STORE_SETTINGS refused because the unit is at work (R214, R216). -/
def State.unitBusy (s : State) : State × Reply := (s.countSl fun c => { c with busyRefusals := bump c.busyRefusals }).refuse .busy

/-- R216: STORE_SETTINGS. -/
def State.doStoreSettings (s : State) (r : Return) : State × Reply :=
  if s.sl.unit = .idle then (s.beginStore r, none) else s.unitBusy

/-- R214: RELOAD_SETTINGS. -/
def State.doReloadSettings (s : State) (r : Return) : State × Reply :=
  if s.sl.unit = .idle then (s.beginReload r, none) else s.unitBusy

/-! ### Queries -/

/-- R207: READ_COUNTERS. -/
def State.doReadCounters (s : State) (group port clear : Byte) : State × Reply :=
  match s.counterGroup group port, boolOf clear with
  | some cs, some c => (if c then s.clearCounters else s).accept (group :: port :: counterBytes cs)
  | _, _ => s.refuse .badArgument

/-- R27: QUERY_CLIENT. -/
def State.doQueryClient (s : State) : ClientRef → State × Reply
  | .number n =>
    if 511 < n.toNat then s.refuse .badArgument
    else
      match s.record n.toNat with
      | none => s.refuse .notFound
      | some r => s.accept (recordBytes n.toNat r)
  | .address x =>
    match s.byAddr x with
    | none => s.refuse .notFound
    | some (n, r) => s.accept (recordBytes n r)

/-- R27: LIST_CLIENTS. -/
def State.doListClients (s : State) (start : Half) : State × Reply :=
  if 511 < start.toNat then s.refuse .badArgument else s.accept (listClientsBytes s.ct.records start.toNat)

/-- R138, R186: QUERY_PORT. -/
def State.doQueryPort (s : State) (kind port : Byte) : State × Reply :=
  if kind = 0 then
    match seatOf port with
    | some p => s.accept (s.seatAnswer p)
    | none => s.refuse .badArgument
  else if kind = 1 then
    match sideOf port with
    | some side => s.accept (s.backboneAnswer side)
    | none => s.refuse .badArgument
  else s.refuse .badArgument

/-- R166: QUERY_LINK. -/
def State.doQueryLink (s : State) (link : Byte) : State × Reply :=
  match linkOf link with
  | some c => s.accept (s.linkAnswer c)
  | none => s.refuse .badArgument

/-! ### Taking a request -/

/-- R191 step 5: the owner of each request. -/
def State.perform (s : State) (r : Return) : Request → State × Reply
  | .enrol roles threshold => s.doEnrol r roles threshold
  | .releaseRoles roles => s.doReleaseRoles r roles
  | .clearCauses causes => s.doClearCauses r causes
  | .grantShare pool period basic standard premium gateway =>
    s.doGrantShare (grantOf pool period basic standard premium gateway)
  | .entitle x kind minutes => s.doEntitle r x kind minutes
  | .revoke x => s.doRevoke x
  | .journeyEnd => s.doJourneyEnd
  | .evict x => s.doEvict x
  | .setProfile port profile => s.doSetProfile port profile
  | .setLamp other rules brightness forces => s.doSetLamp other rules brightness forces
  | .setLevels pairs => s.doSetLevels pairs
  | .setTiming release linger defer => s.doSetTiming release linger defer
  | .setAddressing cabinet allEnable group groupEnable => s.doSetAddressing cabinet allEnable group groupEnable
  | .setIdentity vehicle => s.doSetIdentity vehicle
  | .portOffline port setting => s.doPortOffline port setting
  | .relaySetting link item value direction => s.doRelaySetting r link item value direction
  | .storeSettings => s.doStoreSettings r
  | .reloadSettings => s.doReloadSettings r
  | .cabinetReset => s.accept []
  | .readCounters group port clear => s.doReadCounters group port clear
  | .queryCabinet => s.accept s.cabinetAnswer
  | .queryClient client => s.doQueryClient client
  | .listClients start => s.doListClients start
  | .queryPort kind port => s.doQueryPort kind port
  | .queryLink link => s.doQueryLink link

/-- R197: the role check. A READ_COUNTERS whose clear byte is neither 0 nor 1 passes as one without the clear option, and its
owner refuses the byte (log entry 46). -/
def State.permits (s : State) (x : Addr) : Request → Bool
  | .grantShare _ _ _ _ _ _ => (s.rolesHeld x).share
  | .entitle _ _ _ => (s.rolesHeld x).entitle
  | .revoke _ => (s.rolesHeld x).entitle
  | .journeyEnd => (s.rolesHeld x).entitle
  | .evict _ => (s.rolesHeld x).entitle || (s.rolesHeld x).cabinet
  | .clearCauses _ => (s.stationAt x).isSome
  | .readCounters _ _ clear => clear != 1 || (s.rolesHeld x).cabinet
  | .setProfile _ _ => (s.rolesHeld x).cabinet
  | .setLamp _ _ _ _ => (s.rolesHeld x).cabinet
  | .setLevels _ => (s.rolesHeld x).cabinet
  | .setTiming _ _ _ => (s.rolesHeld x).cabinet
  | .setAddressing _ _ _ _ => (s.rolesHeld x).cabinet
  | .setIdentity _ => (s.rolesHeld x).cabinet
  | .portOffline _ _ => (s.rolesHeld x).cabinet
  | .relaySetting _ _ _ _ => (s.rolesHeld x).cabinet
  | .storeSettings => (s.rolesHeld x).cabinet
  | .reloadSettings => (s.rolesHeld x).cabinet
  | .cabinetReset => (s.rolesHeld x).cabinet
  | _ => true

/-- R191 step 4: a SET_PROFILE while the unit is LOADING. -/
def State.waitsForLoad (s : State) : Request → Bool
  | .setProfile _ _ => s.sl.unit == .loading
  | _ => false

/-- The response of a request in its arrival event (R191). The response to an accepted CABINET_RESET brings the reset (R49). -/
def State.respond (s : State) (r : Return) (status : Status) (args : Bytes) (reset : Bool) : State :=
  s.pushResponse
    { station := r.station, side := r.side, long := false, code := r.code, tag := r.tag, status := status, args := args,
      isReset := reset }

/-- R191, steps 3 to 5. The arguments of an answer, those of QUERY_CABINET among them (R206), are assembled here: the slot of the
request counts as in use in them, and the slot that its own response claims later in the event does not, nor does a STORE_LOW that this
claim raises (DESIGN CHOICE, unsafe, log entry 49). -/
def State.carryOut (s : State) (r : Return) (q : Request) : State :=
  if !s.permits r.station q then
    (s.countMe fun c => { c with notHolder := bump c.notHolder }).respond r .notHolder [] false
  else if s.waitsForLoad q then s.respond r .busy [] false
  else
    let o := s.perform r q
    match o.2 with
    | some (status, args) => o.1.respond r status args (q == .cabinetReset)
    | none => o.1

/-- A request is taken (R190, R191): counted, the station's side updated, and then the steps. -/
def State.takeRequest (s : State) (m : Message) : State :=
  let r := m.details
  let s1 := (s.countMe fun c => { c with requests := bump c.requests }).onStation r.station fun st => { st with side := r.side }
  match m.content with
  | .unknown => (s1.countMe fun c => { c with unknown := bump c.unknown }).respond r .unknownRequest [] false
  | .badFormat => (s1.countMe fun c => { c with badFormat := bump c.badFormat }).respond r .badFormat [] false
  | .request q => s1.carryOut r q

/-- R190 test 4: an address a response could be sent to. -/
def State.answerable (s : State) (x : Addr) : Bool := !isMulticast x && x != 0 && x != s.me.addressing.cabinet

/-- R190: a message handed to the engine; `none` failed one of the first three tests. -/
def State.handToEngine (s : State) (m : Option Message) : State :=
  let discarded := s.countMe fun c => { c with discarded := bump c.discarded }
  match m with
  | none => discarded
  | some m => if s.answerable m.details.station then s.takeRequest m else discarded

end Sys2Proof.Machine
end

