-- ==== Sys2Proof/Machine/Forward.lean ====
section
/-! DEFINITION. Frames from the backbone: their checks, their slot and their forwarding (R42 to R47). -/

namespace Sys2Proof.Machine

/-- An accepted frame: its bytes, its destination, and, when it carries the management type code, what the engine reads in it
(`some none` fails the tests of R190). -/
structure Inbound where
  side : Side
  frame : Bytes
  dst : Addr
  management : Option (Option Message)
  deriving DecidableEq, Repr

/-- A frame handed to the engine if it carries the management type code. -/
def State.handOverIf (s : State) (f : Inbound) (enabled : Bool) : State :=
  match f.management with
  | some m => if enabled then s.handToEngine m else s
  | none => s

/-- Transit: appended to the other backbone port if that port is COUPLED (R44, R46, R47). -/
def State.transit (s : State) (side : Side) (k : Nat) : State :=
  if s.coupled (otherSide side) then (s.append (.backbone (otherSide side)) { slot := k } false).1 else s

/-- R45: a frame to a client, by its record's state. -/
def State.toClient (s : State) (k n : Nat) (r : Record) : State :=
  match r.st with
  | .attached pl _ => (s.append pl.port (pl.entry k) false).1
  | .moving _ _ _ _ _ => s.holdFrame n k
  | .lingering _ => s.countFs fun c => { c with absentClient := bump c.absentClient }

/-- R46: unknown unicast. -/
def State.unknownUnicast (s : State) (side : Side) (k : Nat) : State :=
  if s.coupled (otherSide side) then s.transit side k
  else s.countFs fun c => { c with unknownUnicast := bump c.unknownUnicast }

/-- The seat takes copies of the destination's kind (R47). -/
def State.seatOffered (s : State) (dst : Addr) (p : SeatNo) : Bool :=
  let x := s.seat p
  x.up && !x.profile.loopback && (if dst == broadcast then x.profile.acceptBroadcast else x.profile.acceptMulticast)

/-- The link takes copies of the destination's kind (R47). -/
def State.linkOffered (s : State) (dst : Addr) (c : LinkNo) : Bool :=
  let x := s.link c
  x.state == .ready && (if dst == broadcast then x.profile.acceptBroadcast else x.profile.acceptMulticast)

/-- The count of a slot. -/
def State.refsOf (s : State) (k : Nat) : Nat :=
  match s.fs.slots.get k with
  | none => 0
  | some x => x.refs

/-- R47: one slot offered to the other backbone port, the accepting seats and the accepting links. -/
def State.offerCopies (s : State) (side : Side) (dst : Addr) (k : Nat) : State :=
  let s1 := s.transit side k
  let s2 := (allSeats.filter (s.seatOffered dst)).foldl (fun t p => (t.append (.seat p) { slot := k } false).1) s1
  let s3 := (allLinks.filter (s.linkOffered dst)).foldl (fun t c => (t.append (.ceiling c) { slot := k } false).1) s2
  if s3.refsOf k = 0 then s3.countFs fun c => { c with unplaced := bump c.unplaced } else s3

/-- R43: the tests of the table, in order. A frame to the all-cabinets address, or to an enabled group address, is appended for transit
first and handed to the engine after that, so the append does not see what the request brings, such as a PORT_OFFLINE of the other port
(R44 gives the two no order; DESIGN CHOICE, unsafe, log entry 48). -/
def State.forward (s : State) (f : Inbound) (k : Nat) : State :=
  let a := s.me.addressing
  if f.dst = a.cabinet then
    if f.management.isSome then s.handOverIf f true else s.countFs fun c => { c with notForCabinet := bump c.notForCabinet }
  else if f.dst = allCabinets then (s.transit f.side k).handOverIf f a.allEnable
  else if f.dst = a.group ∧ a.groupEnable = true then (s.transit f.side k).handOverIf f true
  else
    match s.byAddr f.dst with
    | some (n, r) => s.toClient k n r
    | none => if isMulticast f.dst then s.offerCopies f.side f.dst k else s.unknownUnicast f.side k

/-- R42: a frame that passed its checks claims a slot and is forwarded; whatever slot no entry took is free at the event's end
(R31, R44; log entry 6). -/
def State.acceptFrame (s : State) (f : Inbound) : State :=
  match s.claim backboneReserve (.backbone f.side) false (fun _ => f.frame) with
  | none => s.countFs fun c => { c with backboneNoSlot := bump c.backboneNoSlot }
  | some (k, s1) => (s1.onEv fun e => { e with inHand := some k }).forward f k

/-- What a frame's bytes say (section 11.1). -/
def inboundOf (side : Side) (frame : Bytes) : Inbound :=
  { side := side, frame := frame, dst := frameDst frame,
    management := if frameType frame = managementType then some (readMessage side frame) else none }

/-- R42: the three checks, in order, on a COUPLED port. -/
def State.checkFrame (s : State) (side : Side) (frame : Bytes) : State :=
  let port := Port.backbone side
  if !frameCheckOk frame then (s.countPort port fun c => { c with checkErrors := bump c.checkErrors }).countError side
  else if frame.length < 64 then s.countPort port fun c => { c with runts := bump c.runts }
  else if 2048 < frame.length then s.countPort port fun c => { c with oversize := bump c.oversize }
  else s.acceptFrame (inboundOf side frame)

/-- R42: a port that is not COUPLED drops and counts what arrives, before the release too, when it is DECOUPLED (R169; log entry
19). -/
def State.onCoupledPort (s : State) (side : Side) (f : State → State) : State :=
  if s.coupled side then f s
  else s.countPort (.backbone side) fun c => { c with notCoupled := bump c.notCoupled }

/-- A frame received whole on a backbone port (R42). -/
def State.backboneFrame (s : State) (side : Side) (frame : Bytes) : State :=
  s.onCoupledPort side fun t => t.checkFrame side frame

/-- What the frame of a request is to the store: the frame of section 11.1, its address, and the request in it. -/
def State.requestInbound (s : State) (h : ReqHeader) (q : Request) : Inbound :=
  { side := h.side, frame := s.requestFrame h q, dst := s.destAddress h.dest, management := some (some (requestMessage h q)) }

/-- The arrival of the frame of a request (log entry 1). -/
def State.requestArrival (s : State) (h : ReqHeader) (q : Request) : State :=
  s.onCoupledPort h.side fun t => t.acceptFrame (t.requestInbound h q)

end Sys2Proof.Machine
end

