-- ==== Sys2Proof/Machine/Backbones.lean ====
section
/-! DEFINITION. The meanings of the backbone ports' pages and timers (R169 to R178). -/

namespace Sys2Proof.Machine

/-- PAGE_TIMER_EXPIRY (R170). -/
def execPageTimerExpiry (side : Side) (s : State) : Host.Outcome State Fault Refusal :=
  .next (s.eventWhen (isDue (s.side side).page) fun t => t.pageExpiry side)

/-- PAGE_ARRIVAL (R171 to R174). -/
def execPageArrival (side : Side) (page : Bytes) (s : State) : Host.Outcome State Fault Refusal :=
  .next (s.event fun t => t.takePage side page)

/-- SILENCE_TIMER_EXPIRY (R178). -/
def execSilenceTimerExpiry (side : Side) (s : State) : Host.Outcome State Fault Refusal :=
  .next (s.eventWhen (isDue (s.side side).silence) fun t => t.silenceExpiry side)

/-- CHECK_ERROR_WINDOW_END (R176). -/
def execCheckErrorWindowEnd (side : Side) (s : State) : Host.Outcome State Fault Refusal :=
  .next (s.eventWhen (isDue (s.side side).errorWindow) fun t => t.errorWindowEnd side)

/-- LINK_FAILURE_TIMER_EXPIRY (R177). -/
def execLinkFailureTimerExpiry (side : Side) (s : State) : Host.Outcome State Fault Refusal :=
  .next (s.eventWhen (isDue (s.side side).linkFailure) fun t => t.linkFailureExpiry side)

end Sys2Proof.Machine
end

