-- ==== Sys2Proof/Machine/Frames.lean ====
section
/-! DEFINITION. The meanings of the frame events (R38, R39, R42 to R47, R123 to R128). -/

namespace Sys2Proof.Machine

/-- BACKBONE_FRAME_ARRIVAL (R42). -/
def execBackboneFrameArrival (side : Side) (frame : Bytes) (s : State) : Host.Outcome State Fault Refusal :=
  .next (s.event fun t => t.backboneFrame side frame)

/-- TRANSMISSION_COMPLETE (R39). -/
def execTransmissionComplete (port : Port) (s : State) : Host.Outcome State Fault Refusal :=
  .next (s.event fun t => t.completeTransmission port)

/-- SEAT_FRAME_ARRIVAL (R123). -/
def execSeatFrameArrival (p : SeatNo) (frame : Bytes) (s : State) : Host.Outcome State Fault Refusal :=
  .next (s.event fun t => t.seatFrame p frame)

end Sys2Proof.Machine
end

