-- ==== Sys2Proof/Machine/Management.lean ====
section
/-! DEFINITION. The meanings of the requests: each is the arrival of its frame on a backbone port, with all the effects of that
event (R42 to R44, R190, R191; log entry 1). -/

namespace Sys2Proof.Machine

/-- ENROL (R193). -/
def execEnrol (h : ReqHeader) (roles threshold : Byte) (s : State) : Host.Outcome State Fault Refusal :=
  .next (s.event fun t => t.requestArrival h (.enrol roles threshold))

/-- RELEASE_ROLES (R194). -/
def execReleaseRoles (h : ReqHeader) (roles : Byte) (s : State) : Host.Outcome State Fault Refusal :=
  .next (s.event fun t => t.requestArrival h (.releaseRoles roles))

/-- CLEAR_CAUSES (R204). -/
def execClearCauses (h : ReqHeader) (causes : List Byte) (s : State) : Host.Outcome State Fault Refusal :=
  .next (s.event fun t => t.requestArrival h (.clearCauses causes))

/-- GRANT_SHARE (R77 to R79). -/
def execGrantShare (h : ReqHeader) (pool : Word) (period basic standard premium : Half) (gateway : Byte) (s : State) :
    Host.Outcome State Fault Refusal :=
  .next (s.event fun t => t.requestArrival h (.grantShare pool period basic standard premium gateway))

/-- ENTITLE (R103, R104). -/
def execEntitle (h : ReqHeader) (x : Addr) (kind : Byte) (minutes : Half) (s : State) : Host.Outcome State Fault Refusal :=
  .next (s.event fun t => t.requestArrival h (.entitle x kind minutes))

/-- REVOKE (R105). -/
def execRevoke (h : ReqHeader) (x : Addr) (s : State) : Host.Outcome State Fault Refusal :=
  .next (s.event fun t => t.requestArrival h (.revoke x))

/-- JOURNEY_END (R106). -/
def execJourneyEnd (h : ReqHeader) (s : State) : Host.Outcome State Fault Refusal :=
  .next (s.event fun t => t.requestArrival h .journeyEnd)

/-- EVICT (R26). -/
def execEvict (h : ReqHeader) (x : Addr) (s : State) : Host.Outcome State Fault Refusal :=
  .next (s.event fun t => t.requestArrival h (.evict x))

/-- SET_PROFILE (R122, R151). -/
def execSetProfile (h : ReqHeader) (port : Byte) (profile : RawProfile) (s : State) : Host.Outcome State Fault Refusal :=
  .next (s.event fun t => t.requestArrival h (.setProfile port profile))

/-- SET_LAMP (R136). -/
def execSetLamp (h : ReqHeader) (otherParts : BitVec 5) (rules : Option RawRules) (brightness : Option Byte)
    (forces : Option (List (Byte × Byte))) (s : State) : Host.Outcome State Fault Refusal :=
  .next (s.event fun t => t.requestArrival h (.setLamp otherParts rules brightness forces))

/-- SET_LEVELS (R200). -/
def execSetLevels (h : ReqHeader) (pairs : List (Byte × Byte)) (s : State) : Host.Outcome State Fault Refusal :=
  .next (s.event fun t => t.requestArrival h (.setLevels pairs))

/-- SET_TIMING (R23, R57, R162). -/
def execSetTiming (h : ReqHeader) (release linger defer : Half) (s : State) : Host.Outcome State Fault Refusal :=
  .next (s.event fun t => t.requestArrival h (.setTiming release linger defer))

/-- SET_ADDRESSING (R189). -/
def execSetAddressing (h : ReqHeader) (cabinet : Addr) (allEnable : Byte) (group : Addr) (groupEnable : Byte) (s : State) :
    Host.Outcome State Fault Refusal :=
  .next (s.event fun t => t.requestArrival h (.setAddressing cabinet allEnable group groupEnable))

/-- SET_IDENTITY (R184). -/
def execSetIdentity (h : ReqHeader) (vehicle : Word) (s : State) : Host.Outcome State Fault Refusal :=
  .next (s.event fun t => t.requestArrival h (.setIdentity vehicle))

/-- PORT_OFFLINE (R179). -/
def execPortOffline (h : ReqHeader) (port setting : Byte) (s : State) : Host.Outcome State Fault Refusal :=
  .next (s.event fun t => t.requestArrival h (.portOffline port setting))

/-- RELAY_SETTING (R164). -/
def execRelaySetting (h : ReqHeader) (link item : Byte) (value : Word) (direction : Byte) (s : State) :
    Host.Outcome State Fault Refusal :=
  .next (s.event fun t => t.requestArrival h (.relaySetting link item value direction))

/-- STORE_SETTINGS (R216). -/
def execStoreSettings (h : ReqHeader) (s : State) : Host.Outcome State Fault Refusal :=
  .next (s.event fun t => t.requestArrival h .storeSettings)

/-- RELOAD_SETTINGS (R214). -/
def execReloadSettings (h : ReqHeader) (s : State) : Host.Outcome State Fault Refusal :=
  .next (s.event fun t => t.requestArrival h .reloadSettings)

/-- CABINET_RESET (R49, R199, R211). -/
def execCabinetReset (h : ReqHeader) (s : State) : Host.Outcome State Fault Refusal :=
  .next (s.event fun t => t.requestArrival h .cabinetReset)

/-- READ_COUNTERS (R207). -/
def execReadCounters (h : ReqHeader) (group port clear : Byte) (s : State) : Host.Outcome State Fault Refusal :=
  .next (s.event fun t => t.requestArrival h (.readCounters group port clear))

/-- QUERY_CABINET (R206). -/
def execQueryCabinet (h : ReqHeader) (s : State) : Host.Outcome State Fault Refusal :=
  .next (s.event fun t => t.requestArrival h .queryCabinet)

/-- QUERY_CLIENT (R27). -/
def execQueryClient (h : ReqHeader) (client : ClientRef) (s : State) : Host.Outcome State Fault Refusal :=
  .next (s.event fun t => t.requestArrival h (.queryClient client))

/-- LIST_CLIENTS (R27). -/
def execListClients (h : ReqHeader) (start : Half) (s : State) : Host.Outcome State Fault Refusal :=
  .next (s.event fun t => t.requestArrival h (.listClients start))

/-- QUERY_PORT (R138, R186). -/
def execQueryPort (h : ReqHeader) (kind port : Byte) (s : State) : Host.Outcome State Fault Refusal :=
  .next (s.event fun t => t.requestArrival h (.queryPort kind port))

/-- QUERY_LINK (R166). -/
def execQueryLink (h : ReqHeader) (link : Byte) (s : State) : Host.Outcome State Fault Refusal :=
  .next (s.event fun t => t.requestArrival h (.queryLink link))

end Sys2Proof.Machine
end

