-- ==== Sys2Proof/Machine/Periods.lean ====
section
/-! DEFINITION. The meanings of the refill, of the minute timer and of the spacing timers (R89, R108, R202). -/

namespace Sys2Proof.Machine

/-- The refill event (R89); the timer runs in UPLINK_GRANTED alone. -/
def State.refillExpiry (s : State) : State :=
  match s.sau.state with
  | .held => s
  | .granted g pending => s.doRefill g pending

/-- REFILL (R89). -/
def execRefill (s : State) : Host.Outcome State Fault Refusal :=
  .next (s.eventWhen (isDue s.sau.refill) fun t => t.refillExpiry)

/-- MINUTE_TIMER_EXPIRY (R107, R108). -/
def execMinuteTimerExpiry (s : State) : Host.Outcome State Fault Refusal :=
  .next (s.eventWhen (isDue s.el.minute) fun t => t.minuteExpiry)

/-- A station's spacing timer has expired. -/
def State.spacingDue (s : State) (x : Addr) : Bool := (s.stationAt x).any fun st => isDue st.spacing

/-- SPACING_TIMER_EXPIRY (R202). -/
def execSpacingTimerExpiry (station : Addr) (s : State) : Host.Outcome State Fault Refusal :=
  .next (s.eventWhen (s.spacingDue station) fun t => t.spacingExpiry station)

end Sys2Proof.Machine
end

