-- ==== Sys2Proof/Machine/Radios.lean ====
section
/-! DEFINITION. The meanings of what comes from the radios, and of the Ceiling Link block's timers (R141 to R168). -/

namespace Sys2Proof.Machine

/-- CEILING_DATA (R145, R148, R149). -/
def execCeilingData (c : LinkNo) (a : Byte) (frame : Bytes) (s : State) : Host.Outcome State Fault Refusal :=
  .next (s.event fun t => t.fromRadio c (some (.data a frame)))

/-- ASSOC (R145, R156 to R159). One whose client address is multicast or zero is malformed (R224). -/
def execAssoc (c : LinkNo) (a : Byte) (x : Addr) (signal : Byte) (s : State) : Host.Outcome State Fault Refusal :=
  .next (s.event fun t => t.fromRadio c (if badClientAddr x then none else some (.assoc a x signal)))

/-- DISASSOC (R18, R146). -/
def execDisassoc (c : LinkNo) (a : Byte) (s : State) : Host.Outcome State Fault Refusal :=
  .next (s.event fun t => t.fromRadio c (some (.disassoc a)))

/-- RELEASED (R62, R146). -/
def execReleased (c : LinkNo) (a : Byte) (s : State) : Host.Outcome State Fault Refusal :=
  .next (s.event fun t => t.fromRadio c (some (.released a)))

/-- SETTING_ANSWER (R163). -/
def execSettingAnswer (c : LinkNo) (item : Byte) (value : Word) (result : Byte) (s : State) :
    Host.Outcome State Fault Refusal :=
  .next (s.event fun t => t.fromRadio c (some (.settingAnswer item value result)))

/-- MALFORMED_RADIO_MESSAGE (R145, R224): the bytes of a whole message, taken for what they spell (log entry 34). -/
def execMalformedRadioMessage (c : LinkNo) (message : Bytes) (s : State) : Host.Outcome State Fault Refusal :=
  .next (s.event fun t => t.fromRadio c (parseRadio message))

/-- The timeout of a link's exchange has expired. -/
def Link.relayDue (x : Link) : Bool := x.relay.any fun r => isDue r.timeout

/-- RELAY_TIMEOUT (R163, R164). -/
def execRelayTimeout (c : LinkNo) (s : State) : Host.Outcome State Fault Refusal :=
  .next (s.eventWhen (s.link c).relayDue fun t => t.relayExpiry c)

/-- CEILING_STATUS_TICK (R142). -/
def execCeilingStatusTick (c : LinkNo) (status : Option RadioStatus) (cut : Bool) (s : State) :
    Host.Outcome State Fault Refusal :=
  .next (s.pinEvent fun t => t.statusTick c status cut)

/-- SURVEY_WINDOW_END (R154). -/
def execSurveyWindowEnd (c : LinkNo) (s : State) : Host.Outcome State Fault Refusal :=
  .next (s.eventWhen (s.link c).windowDone fun t => t.windowEnd c)

/-- DEFERRAL_EXPIRY (R162). -/
def execDeferralExpiry (x : Addr) (s : State) : Host.Outcome State Fault Refusal :=
  .next (s.eventWhen (s.deferralDue x) fun t => t.deferralOver x)

end Sys2Proof.Machine
end

