-- ==== Sys2Proof/Machine/RecordTimers.lean ====
section
/-! DEFINITION. The meanings of the record timers' expiries (R22, R23, R64). -/

namespace Sys2Proof.Machine

/-- R22: the idle timer of a record expires. -/
def State.idleOver (s : State) (n : Nat) (pl : Place) : State :=
  let s1 := (s.enterLingering n).countCt fun c => { c with idleExpiries := bump c.idleExpiries }
  match pl with
  | .seat _ => s1
  | .ceiling c a => s1.sendRadio c (.drop a)

/-- The idle timer's expiry event, if it is due. -/
def State.idleExpiry (s : State) (n : Nat) : State :=
  match s.record n with
  | some r =>
    match r.st with
    | .attached pl idle => if isDue idle then s.idleOver n pl else s
    | _ => s
  | none => s

/-- R23: the linger timer's expiry event, if it is due. -/
def State.lingerExpiry (s : State) (n : Nat) : State :=
  match s.record n with
  | some r =>
    match r.st with
    | .lingering t =>
      if isDue t then (s.vacate n).countCt fun c => { c with lingerExpiries := bump c.lingerExpiries } else s
    | _ => s
  | none => s

/-- R64: a release deadline passes. -/
def State.deadlineOver (s : State) (n : Nat) (c : LinkNo) (a : AssocNo) : State :=
  ((s.completeMove n fun k => { k with timeouts := bump k.timeouts }).sendRadio c (.drop a)).raise .moveTimeout

/-- The release deadline's expiry event, if it is due. -/
def State.deadlineExpiry (s : State) (n : Nat) : State :=
  match s.record n with
  | some r =>
    match r.st with
    | .moving _ c a deadline _ => if isDue deadline then s.deadlineOver n c a else s
    | _ => s
  | none => s

/-- IDLE_TIMER_EXPIRY (R22). -/
def execIdleTimerExpiry (r : RecordNo) (s : State) : Host.Outcome State Fault Refusal :=
  .next (s.event fun t => t.idleExpiry r.val)

/-- LINGER_TIMER_EXPIRY (R23). -/
def execLingerTimerExpiry (r : RecordNo) (s : State) : Host.Outcome State Fault Refusal :=
  .next (s.event fun t => t.lingerExpiry r.val)

/-- RELEASE_DEADLINE_EXPIRY (R64). -/
def execReleaseDeadlineExpiry (r : RecordNo) (s : State) : Host.Outcome State Fault Refusal :=
  .next (s.event fun t => t.deadlineExpiry r.val)

end Sys2Proof.Machine
end

