-- ==== Sys2Proof/Machine/Resets.lean ====
section
/-! DEFINITION. The meanings of the resets and of the settings memory's answers (R210 to R217). -/

namespace Sys2Proof.Machine

/-- POWER_ON (R211): every block takes its reset values; the load begins at the first cabinet tick. -/
def execPowerOn (s : State) : Host.Outcome State Fault Refusal := .next s.beginEvent.powerOn

/-- RESET_LINE_ASSERTED (R211). -/
def execResetLineAsserted (s : State) : Host.Outcome State Fault Refusal := .next s.beginEvent.lineAsserted

/-- RESET_LINE_RELEASED (R211): the start-up load begins. -/
def execResetLineReleased (s : State) : Host.Outcome State Fault Refusal := .next s.beginEvent.lineReleased

/-- START_LOAD (R211, R212). -/
def execStartLoad (s : State) : Host.Outcome State Fault Refusal := .next (s.event fun t => t.startLoad)

/-- SETTINGS_READ_COMPLETE (R212 to R215). -/
def execSettingsReadComplete (access : Nat) (s : State) : Host.Outcome State Fault Refusal :=
  .next (s.event fun t => t.readComplete access)

/-- ACCESS_TIMER_EXPIRY (R210, R212, R215, R216). -/
def execAccessTimerExpiry (s : State) : Host.Outcome State Fault Refusal :=
  .next (s.eventWhen (isDue s.sl.accessTimer) fun t => t.accessExpiry)

/-- STORE_STAGE_COMPLETE (R216). -/
def execStoreStageComplete (access : Nat) (s : State) : Host.Outcome State Fault Refusal :=
  .next (s.event fun t => t.stageComplete access)

/-- SETTINGS_WRITE_FAILURE (R216). -/
def execSettingsWriteFailure (access : Nat) (s : State) : Host.Outcome State Fault Refusal :=
  .next (s.event fun t => t.writeFailure access)

end Sys2Proof.Machine
end

