-- ==== Sys2Proof/Machine/Seats.lean ====
section
/-! DEFINITION. The meanings of the seat trunks' events and of the lamp timers (R117 to R120, R131, R132). -/

namespace Sys2Proof.Machine

/-- TRUNK_SIGNAL_LOSS (R118). -/
def execTrunkSignalLoss (t : TrunkNo) (cut : Nat) (s : State) : Host.Outcome State Fault Refusal :=
  .next (s.pinEvent fun u => u.trunkLoss t cut)

/-- TRUNK_SIGNAL_RETURN (R117, R135). -/
def execTrunkSignalReturn (t : TrunkNo) (status : TrunkStatus) (s : State) : Host.Outcome State Fault Refusal :=
  .next (s.pinEvent fun u => u.trunkReturn t status)

/-- SEAT_LINK_INDICATION_CHANGE (R119). -/
def execSeatLinkIndicationChange (p : SeatNo) (indication : Option Speed) (s : State) : Host.Outcome State Fault Refusal :=
  .next (s.pinEvent fun u => u.seatStatus p indication)

/-- R120: the reported speed of a seat whose indication is UP changes. A speed for a seat whose indication is DOWN changes nothing
(DESIGN CHOICE, unsafe; log entry 52). -/
def State.speedChange (s : State) (p : SeatNo) (speed : Speed) : State :=
  if ((s.trunk (trunkOf p)).wire[positionOf p]).isSome then s.seatStatus p (some speed) else s

/-- SEAT_SPEED_CHANGE (R120). -/
def execSeatSpeedChange (p : SeatNo) (speed : Speed) (s : State) : Host.Outcome State Fault Refusal :=
  .next (s.pinEvent fun u => u.speedChange p speed)

/-- ACTIVITY_TIMER_EXPIRY (R131). -/
def execActivityTimerExpiry (p : SeatNo) (s : State) : Host.Outcome State Fault Refusal :=
  .next (s.eventWhen (isDue (s.seat p).activity) fun t => t.onSeat p fun x => { x with activity := none })

/-- BARRED_FRAME_MARK_EXPIRY (R132). -/
def execBarredFrameMarkExpiry (p : SeatNo) (s : State) : Host.Outcome State Fault Refusal :=
  .next (s.eventWhen (isDue (s.seat p).barredMark) fun t => t.onSeat p fun x => { x with barredMark := none })

end Sys2Proof.Machine
end

