-- ==== Sys2Proof/Machine/Dispatch.lean ====
section
/-! DEFINITION. The meaning of each command, one arm per row of spec/opcode_table.json. -/

namespace Sys2Proof.Machine

def exec (i : Instr) (s : State) : Host.Outcome State Fault Refusal :=
  match i with
  | .powerOn => Sys2Proof.Machine.execPowerOn s
  | .resetLineAsserted => Sys2Proof.Machine.execResetLineAsserted s
  | .resetLineReleased => Sys2Proof.Machine.execResetLineReleased s
  | .startLoad => Sys2Proof.Machine.execStartLoad s
  | .settingsReadComplete access => Sys2Proof.Machine.execSettingsReadComplete access s
  | .accessTimerExpiry => Sys2Proof.Machine.execAccessTimerExpiry s
  | .storeStageComplete access => Sys2Proof.Machine.execStoreStageComplete access s
  | .settingsWriteFailure access => Sys2Proof.Machine.execSettingsWriteFailure access s
  | .backboneFrameArrival side frame => Sys2Proof.Machine.execBackboneFrameArrival side frame s
  | .transmissionComplete port => Sys2Proof.Machine.execTransmissionComplete port s
  | .seatFrameArrival p frame => Sys2Proof.Machine.execSeatFrameArrival p frame s
  | .idleTimerExpiry r => Sys2Proof.Machine.execIdleTimerExpiry r s
  | .lingerTimerExpiry r => Sys2Proof.Machine.execLingerTimerExpiry r s
  | .releaseDeadlineExpiry r => Sys2Proof.Machine.execReleaseDeadlineExpiry r s
  | .ceilingData c a frame => Sys2Proof.Machine.execCeilingData c a frame s
  | .assoc c a x signal => Sys2Proof.Machine.execAssoc c a x signal s
  | .disassoc c a => Sys2Proof.Machine.execDisassoc c a s
  | .released c a => Sys2Proof.Machine.execReleased c a s
  | .settingAnswer c item value result => Sys2Proof.Machine.execSettingAnswer c item value result s
  | .relayTimeout c => Sys2Proof.Machine.execRelayTimeout c s
  | .ceilingStatusTick c status cut => Sys2Proof.Machine.execCeilingStatusTick c status cut s
  | .surveyWindowEnd c => Sys2Proof.Machine.execSurveyWindowEnd c s
  | .deferralExpiry x => Sys2Proof.Machine.execDeferralExpiry x s
  | .trunkSignalLoss t cut => Sys2Proof.Machine.execTrunkSignalLoss t cut s
  | .trunkSignalReturn t status => Sys2Proof.Machine.execTrunkSignalReturn t status s
  | .seatLinkIndicationChange p indication => Sys2Proof.Machine.execSeatLinkIndicationChange p indication s
  | .seatSpeedChange p speed => Sys2Proof.Machine.execSeatSpeedChange p speed s
  | .activityTimerExpiry p => Sys2Proof.Machine.execActivityTimerExpiry p s
  | .barredFrameMarkExpiry p => Sys2Proof.Machine.execBarredFrameMarkExpiry p s
  | .refill => Sys2Proof.Machine.execRefill s
  | .minuteTimerExpiry => Sys2Proof.Machine.execMinuteTimerExpiry s
  | .pageTimerExpiry side => Sys2Proof.Machine.execPageTimerExpiry side s
  | .pageArrival side page => Sys2Proof.Machine.execPageArrival side page s
  | .silenceTimerExpiry side => Sys2Proof.Machine.execSilenceTimerExpiry side s
  | .checkErrorWindowEnd side => Sys2Proof.Machine.execCheckErrorWindowEnd side s
  | .linkFailureTimerExpiry side => Sys2Proof.Machine.execLinkFailureTimerExpiry side s
  | .spacingTimerExpiry station => Sys2Proof.Machine.execSpacingTimerExpiry station s
  | .enrol h roles threshold => Sys2Proof.Machine.execEnrol h roles threshold s
  | .releaseRoles h roles => Sys2Proof.Machine.execReleaseRoles h roles s
  | .clearCauses h causes => Sys2Proof.Machine.execClearCauses h causes s
  | .grantShare h pool period basic standard premium gateway => Sys2Proof.Machine.execGrantShare h pool period basic standard premium gateway s
  | .entitle h x kind minutes => Sys2Proof.Machine.execEntitle h x kind minutes s
  | .revoke h x => Sys2Proof.Machine.execRevoke h x s
  | .journeyEnd h => Sys2Proof.Machine.execJourneyEnd h s
  | .evict h x => Sys2Proof.Machine.execEvict h x s
  | .setProfile h port profile => Sys2Proof.Machine.execSetProfile h port profile s
  | .setLamp h otherParts rules brightness forces => Sys2Proof.Machine.execSetLamp h otherParts rules brightness forces s
  | .setLevels h pairs => Sys2Proof.Machine.execSetLevels h pairs s
  | .setTiming h release linger defer => Sys2Proof.Machine.execSetTiming h release linger defer s
  | .setAddressing h cabinet allEnable group groupEnable => Sys2Proof.Machine.execSetAddressing h cabinet allEnable group groupEnable s
  | .setIdentity h vehicle => Sys2Proof.Machine.execSetIdentity h vehicle s
  | .portOffline h port setting => Sys2Proof.Machine.execPortOffline h port setting s
  | .relaySetting h link item value direction => Sys2Proof.Machine.execRelaySetting h link item value direction s
  | .storeSettings h => Sys2Proof.Machine.execStoreSettings h s
  | .reloadSettings h => Sys2Proof.Machine.execReloadSettings h s
  | .cabinetReset h => Sys2Proof.Machine.execCabinetReset h s
  | .readCounters h group port clear => Sys2Proof.Machine.execReadCounters h group port clear s
  | .queryCabinet h => Sys2Proof.Machine.execQueryCabinet h s
  | .queryClient h client => Sys2Proof.Machine.execQueryClient h client s
  | .listClients h start => Sys2Proof.Machine.execListClients h start s
  | .queryPort h kind port => Sys2Proof.Machine.execQueryPort h kind port s
  | .queryLink h link => Sys2Proof.Machine.execQueryLink h link s
  | .malformedRadioMessage c message => Sys2Proof.Machine.execMalformedRadioMessage c message s

end Sys2Proof.Machine
end

