-- ==== Sys2Proof/Machine/Tick.lean ====
section
/-! DEFINITION. One cabinet tick: what a step on an empty queue does (00_scope.md, Time; log entries 2 and 3). Every running timer
counts down by one, and the expiry events of those that fell due join the queue in a fixed order. -/

namespace Sys2Proof.Machine

/-! ### Counting down -/

def RecordState.tick : RecordState → RecordState
  | .attached pl idle => .attached pl (tickTimer idle)
  | .moving target c a deadline hold => .moving target c a (tickTimer deadline) hold
  | .lingering t => .lingering (tickTimer t)

def Backbone.tick (b : Backbone) : Backbone :=
  { b with
    silence := tickTimer b.silence
    page := tickTimer b.page
    errorWindow := tickTimer b.errorWindow
    linkFailure := tickTimer b.linkFailure }

def Seat.tick (x : Seat) : Seat := { x with activity := tickTimer x.activity, barredMark := tickTimer x.barredMark }

def Link.tick (x : Link) : Link := { x with relay := x.relay.map fun r => { r with timeout := tickTimer r.timeout } }

/-- R134: the blink cycle advances by 1 and returns to 0 after 999, once it runs. -/
def SeatPortBlock.blinkTick (b : SeatPortBlock) : Nat := if b.blinkRunning then (b.blink + 1) % 1000 else b.blink

/-- Every running timer of the part counts down by one, and the blink cycle advances. -/
def State.countDown (s : State) : State :=
  { s with
    ct := { s.ct with records := s.ct.records.map fun e => (e.1, { e.2 with st := e.2.st.tick }) }
    sau := { s.sau with refill := tickTimer s.sau.refill }
    el := { s.el with minute := tickTimer s.el.minute }
    spb := { s.spb with seats := mapVector s.spb.seats Seat.tick, blink := s.spb.blinkTick }
    clb := { s.clb with
      links := mapVector s.clb.links Link.tick
      deferrals := s.clb.deferrals.map fun d => { d with left := d.left - 1 } }
    cu := { s.cu with fore := s.cu.fore.tick, aft := s.cu.aft.tick }
    me := { s.me with stations := s.me.stations.map fun st => { st with spacing := tickTimer st.spacing } }
    sl := { s.sl with accessTimer := tickTimer s.sl.accessTimer } }

/-! ### The events that fell due -/

/-- A command for an expiry that is due. -/
def dueIf (due : Bool) (i : Instr) : List Instr := if due then [i] else []

/-- The expiry a record's state waits for. -/
def recordDue (e : Nat × Record) : List Instr :=
  let n : RecordNo := Fin.ofNat 512 e.1
  match e.2.st with
  | .attached _ idle => dueIf (isDue idle) (.idleTimerExpiry n)
  | .moving _ _ _ deadline _ => dueIf (isDue deadline) (.releaseDeadlineExpiry n)
  | .lingering t => dueIf (isDue t) (.lingerTimerExpiry n)

def State.sideDue (s : State) (side : Side) : List Instr :=
  let b := s.side side
  dueIf (isDue b.silence) (.silenceTimerExpiry side) ++ dueIf (isDue b.linkFailure) (.linkFailureTimerExpiry side)
    ++ dueIf (isDue b.errorWindow) (.checkErrorWindowEnd side) ++ dueIf (isDue b.page) (.pageTimerExpiry side)

def State.linkDue (s : State) (c : LinkNo) : List Instr :=
  dueIf (s.link c).relayDue (.relayTimeout c) ++ dueIf (s.link c).windowDone (.surveyWindowEnd c)

def State.seatDue (s : State) (p : SeatNo) : List Instr :=
  dueIf (isDue (s.seat p).activity) (.activityTimerExpiry p) ++ dueIf (isDue (s.seat p).barredMark) (.barredFrameMarkExpiry p)

/-- The expiry events that are due, in the model's fixed order (log entry 3): loader, minute timer, refill, backbone ports, records,
links, deferrals, seats, stations. -/
def State.dueEvents (s : State) : List Instr :=
  dueIf (isDue s.sl.accessTimer) .accessTimerExpiry ++ dueIf (isDue s.el.minute) .minuteTimerExpiry
    ++ dueIf (isDue s.sau.refill) .refill ++ allSides.flatMap s.sideDue ++ s.ct.records.flatMap recordDue
    ++ allLinks.flatMap s.linkDue
    ++ s.clb.deferrals.flatMap (fun d => dueIf (d.left == 0) (.deferralExpiry d.addr)) ++ allSeats.flatMap s.seatDue
    ++ s.me.stations.flatMap fun st => dueIf (isDue st.spacing) (.spacingTimerExpiry st.addr)

/-- One cabinet tick. While the reset line is asserted every block keeps its reset values; the first tick after power-on begins
the start-up load (R211). -/
def State.tick (s : State) : State :=
  if s.resetLine then s
  else if s.loadAwaited then { s with pending := s.pending ++ [.startLoad] }
  else
    let t := s.countDown
    { t with pending := t.pending ++ t.dueEvents }

end Sys2Proof.Machine
end

