-- ==== Sys2Proof/WellFormed.lean ====
section
/-! DEFINITION. The commands that the outside can really give: what the constructors of `Instr` allow beyond that. -/

namespace Sys2Proof

open Sys2Proof.Machine

/-- A message from a radio that R145 discards and counts as malformed: one that R224 calls malformed, or one whose association
number is 0 or above 63. -/
def malformedBytes (message : Bytes) : Bool := (parseRadio message).all RadioMessage.badNumber

/-- Well-formed commands. Each line is one check; a command with no line is well formed with any operands. -/
def Instr.wf : Instr → Bool
  -- an ASSOC names a unicast address that is not zero; one that does not is a malformed message (R224)
  | .assoc _ _ x _ => !badClientAddr x
  | .malformedRadioMessage _ message => malformedBytes message
  -- a frame or message is cut off at a tick without signal (R142)
  | .ceilingStatusTick _ status cut => !cut || status.isNone
  -- a trunk delivers at most one frame for each of its eight seats (R118)
  | .trunkSignalLoss _ cut => decide (cut ≤ 8)
  -- lists as long as section 11.2 allows
  | .clearCauses _ causes => decide (causes.length ≤ 11)
  | .setLevels _ pairs => decide (pairs.length ≤ 11)
  | .setLamp _ _ _ _ (some forces) => decide (forces.length ≤ 255)
  | _ => true

end Sys2Proof
end

