-- ==== Sys2Proof/Safety.lean ====
section
/-! DEFINITION. The vocabulary of the statements: when the part takes a request, what an event does before its end, the command
that carries a request, and the invariant that every step keeps. -/

namespace Sys2Proof.Machine

/-! ### Events -/

/-- The command's own effects bring the part to `u`, and the event then ends as every event does. -/
def reaches (i : Instr) (s u : State) : Prop := exec i s = .next u.endEvent

/-- No frame in the store is the response to a CABINET_RESET, and none is to be composed: no reset is to come (R49). -/
def State.noResetComing (s : State) : Prop :=
  s.ev.resetDue = false ∧ (∀ e ∈ s.fs.slots, e.2.resetResponse = false) ∧ ∀ r ∈ s.ev.responses, r.isReset = false

/-- The blocks that no end of an event writes stand the same in two states. -/
def State.sameOwners (s t : State) : Prop :=
  t.ct = s.ct ∧ t.mc = s.mc ∧ t.sau = s.sau ∧ t.el = s.el ∧ t.clb = s.clb ∧ t.sl = s.sl ∧ t.memory = s.memory

/-- A composed frame was lost at composition (R49). -/
def Composed.isLost : Composed → Bool
  | .response _ _ lost => lost
  | .notice _ _ _ _ _ _ lost => lost

/-- An ordinary notice: the HOLD mark is clear (R203). -/
def Composed.isOrdinary : Composed → Bool
  | .response _ _ _ => false
  | .notice _ _ hold _ _ _ _ => !hold

/-- The backbone port a composed frame was to leave by. -/
def Composed.side : Composed → Side
  | .response _ side _ => side
  | .notice _ side _ _ _ _ _ => side

/-- The entries that a backbone port's queue can still take; none when the port is not COUPLED (R35). -/
def State.backboneRoom (s : State) (side : Side) : Nat :=
  if s.coupled side then queueCapacity (.backbone side) - (s.queue (.backbone side)).entries.length else 0

/-- R49: of frames composed one after the other, each is lost exactly when those kept before it have left no slot free or no room in
its port's queue; `free` slots and `room` are there for the first. -/
def lossesAgree (free : Nat) (room : Side → Nat) (frames : List Composed) : Prop :=
  ∀ before c after, frames = before ++ c :: after → c.isLost =
    (decide (free ≤ before.countP fun d => !d.isLost)
      || decide (room c.side ≤ before.countP fun d => !d.isLost && d.side == c.side))

/-- What the composing of responses leaves on record: each response, in the order they were made ready, with the port it leaves by
(R49, R199) and whether it was lost. -/
def State.composedResponses (u : State) (lost : List Bool) : List Composed :=
  List.zipWith (fun r l => .response r (u.responseSide r) l) u.ev.responses lost

/-- The parts of the state a frame statement names. -/
inductive Block where
  | ct | mc | sau | el | fs | spb | clb | cu | me | sl | memory
  deriving DecidableEq, Repr

/-- A block stands the same in two states. -/
def Block.same (s t : State) : Block → Prop
  | .ct => t.ct = s.ct
  | .mc => t.mc = s.mc
  | .sau => t.sau = s.sau
  | .el => t.el = s.el
  | .fs => t.fs = s.fs
  | .spb => t.spb = s.spb
  | .clb => t.clb = s.clb
  | .cu => t.cu = s.cu
  | .me => t.me = s.me
  | .sl => t.sl = s.sl
  | .memory => t.memory = s.memory

/-- Nothing but the named blocks changes between two states (what the event sends and owes stands apart). -/
def State.onlyChanges (s t : State) (written : List Block) : Prop :=
  (∀ b, b ∉ written → b.same s t) ∧ t.pending = s.pending ∧ t.resetLine = s.resetLine

/-- The raised counter of a cause. -/
def State.raised (s : State) (c : Cause) : Counter := s.me.counts.raised[c.index]

/-- Every block stands at its reset values (R211): nothing in the tables, stores and lists, every link and trunk HELD, both backbone
ports DECOUPLED with paging held, the unit LOADING with its access timer set. -/
def State.atResetValues (s : State) : Prop :=
  s.ct = {} ∧ s.mc = {} ∧ s.sau = {} ∧ s.el = {} ∧ s.fs = {} ∧ s.cu = {} ∧ s.me = {}
    ∧ (∀ p : SeatNo, s.seat p = {}) ∧ (∀ t : TrunkNo, (s.trunk t).state = .held ∧ (s.trunk t).signalLosses = 0
        ∧ (s.trunk t).cutFrames = 0)
    ∧ s.spb.blinkRunning = false ∧ s.spb.blink = 0
    ∧ (∀ c : LinkNo, s.link c = { statusIn := (s.link c).statusIn }) ∧ s.clb.deferrals = [] ∧ s.clb.overflows = 0
    ∧ s.clb.expiries = 0
    ∧ s.sl.unit = .loading ∧ s.sl.accessTimer = some 500 ∧ s.sl.pendingReturn = none ∧ s.sl.lastOperation = .startLoad
    ∧ s.sl.outcome = none ∧ s.sl.source = none ∧ s.sl.counts = {}

/-- The settings memory after a reset: an image that a store was writing is invalid, its items as far as the stages had written them;
any other image stands as it was (R217; that the first stage begins with the STORE_SETTINGS is log entry 16). -/
def resetMemory (s t : State) : Prop :=
  (∀ stage items, s.sl.unit = .storing stage items → t.memory.settings = none ∧ t.memory.items = s.memory.items)
    ∧ ((∀ stage items, s.sl.unit ≠ .storing stage items) → t.memory = s.memory)

/-- The commands that have an effect while the reset line is asserted: power-on, the line's release, and the pins (log entry 31). -/
def takenInReset : Instr → Bool
  | .powerOn => true
  | .resetLineReleased => true
  | .trunkSignalLoss _ _ => true
  | .trunkSignalReturn _ _ => true
  | .seatLinkIndicationChange _ _ => true
  | .seatSpeedChange _ _ => true
  | .ceilingStatusTick _ _ _ => true
  | _ => false

/-- The Loader as a load that begins leaves it (R210, R212). -/
def Loader.reading (b : Loader) : Loader :=
  { b with unit := .loading, begun := true, access := b.access + 1, accessTimer := some 500 }

/-- Settings that lie within the ranges of R209, for 64 seats, 8 links and 11 causes. -/
def Settings.inRange (x : Settings) : Prop :=
  x.vehicle ≤ 16777215
    ∧ isMulticast x.addressing.cabinet = false ∧ x.addressing.cabinet ≠ 0 ∧ x.addressing.cabinet ≠ allCabinets
    ∧ isMulticast x.addressing.group = true ∧ x.addressing.group ≠ broadcast ∧ x.addressing.group ≠ allCabinets
    ∧ x.seats.length = 64
    ∧ (∀ p ∈ x.seats, 64 ≤ p.maxLength ∧ p.maxLength ≤ 2048 ∧ 10 ≤ p.idleTime ∧ p.idleTime ≤ 3600)
    ∧ x.links.length = 8
    ∧ (∀ p ∈ x.links, 1 ≤ p.clientLimit ∧ p.clientLimit ≤ 63 ∧ 64 ≤ p.maxLength ∧ p.maxLength ≤ 2048 ∧ 10 ≤ p.idleTime
        ∧ p.idleTime ≤ 3600 ∧ 100 ≤ p.surveyWindow ∧ p.surveyWindow ≤ 10000 ∧ p.threshold ≤ 100)
    ∧ 1 ≤ x.brightness ∧ x.brightness ≤ 16
    ∧ x.levels.length = 11 ∧ (∀ l ∈ x.levels, l ≤ 7)
    ∧ 20 ≤ x.timing.release ∧ x.timing.release ≤ 1000 ∧ 5 ≤ x.timing.linger ∧ x.timing.linger ≤ 600
    ∧ 1000 ≤ x.timing.defer ∧ x.timing.defer ≤ 30000

/-! ### Requests -/

/-- The command of a request: its header and its arguments. -/
def requestInstr (h : ReqHeader) : Request → Instr
  | .enrol roles threshold => .enrol h roles threshold
  | .releaseRoles roles => .releaseRoles h roles
  | .clearCauses causes => .clearCauses h causes
  | .grantShare pool period basic standard premium gateway => .grantShare h pool period basic standard premium gateway
  | .entitle x kind minutes => .entitle h x kind minutes
  | .revoke x => .revoke h x
  | .journeyEnd => .journeyEnd h
  | .evict x => .evict h x
  | .setProfile port profile => .setProfile h port profile
  | .setLamp other rules brightness forces => .setLamp h other rules brightness forces
  | .setLevels pairs => .setLevels h pairs
  | .setTiming release linger defer => .setTiming h release linger defer
  | .setAddressing cabinet allEnable group groupEnable => .setAddressing h cabinet allEnable group groupEnable
  | .setIdentity vehicle => .setIdentity h vehicle
  | .portOffline port setting => .portOffline h port setting
  | .relaySetting link item value direction => .relaySetting h link item value direction
  | .storeSettings => .storeSettings h
  | .reloadSettings => .reloadSettings h
  | .cabinetReset => .cabinetReset h
  | .readCounters group port clear => .readCounters h group port clear
  | .queryCabinet => .queryCabinet h
  | .queryClient client => .queryClient h client
  | .listClients start => .listClients h start
  | .queryPort kind port => .queryPort h kind port
  | .queryLink link => .queryLink h link

/-- A request's address is one the part answers to (R188). -/
def State.addressed (s : State) : Dest → Prop
  | .cabinet => True
  | .allCabinets => s.me.addressing.allEnable = true
  | .group => s.me.addressing.groupEnable = true ∧ s.me.addressing.group ≠ allCabinets

/-- The part takes a request: the reset line is not asserted, the port is COUPLED, a slot is granted under the backbone reserve, the
frame is addressed to the part, and a response could be addressed to the station (R31, R42, R188, R190). -/
def State.takes (s : State) (h : ReqHeader) : Prop :=
  s.resetLine = false ∧ s.coupled h.side = true ∧ 16 < s.freeSlots
    ∧ s.addressed h.dest ∧ s.answerable h.station = true

/-- The return details of a request. -/
def returnOf (h : ReqHeader) (q : Request) : Return := { station := h.station, side := h.side, code := q.code, tag := h.tag }

/-- The response to a request in its arrival event, with a status and arguments (R190, R191). -/
def ownResponse (h : ReqHeader) (q : Request) (status : Status) (args : Bytes) : Response :=
  { station := h.station, side := h.side, long := false, code := q.code, tag := h.tag, status := status, args := args,
    isReset := decide (q = .cabinetReset ∧ status = .ok) }

/-- The event holds exactly one response to compose: the request's. -/
def State.answers (u : State) (h : ReqHeader) (q : Request) (status : Status) (args : Bytes) : Prop :=
  u.ev.responses = [ownResponse h q status args]

/-- The items of a Station Table entry that a request leaves when its owner is not the Station Table: all but the side (R190), and
what a STORE_LOW raised by the request's own claim brings (R33, R201). -/
def Station.kept (st : Station) : Addr × Roles × Nat × Timer × Half × Half :=
  (st.addr, st.roles, st.threshold, st.spacing, st.number, st.epoch)

/-- A request changes, beside the blocks named, only the engine's counters, sides, pending sets and due marks, and in the Frame Store
the slots and the other backbone port's queue, where its frame may be in transit (R44). -/
def State.requestOnly (s u : State) (h : ReqHeader) (written : List Block) : Prop :=
  s.onlyChanges u (.fs :: .me :: written) ∧ u.me.addressing = s.me.addressing ∧ u.me.levels = s.me.levels
    ∧ u.me.stations.map Station.kept = s.me.stations.map Station.kept
    ∧ ∀ port, port ≠ .backbone (otherSide h.side) → u.queue port = s.queue port

/-- A request is taken, and its owner brings the part to `u`. -/
def served (s : State) (h : ReqHeader) (q : Request) (u : State) : Prop := reaches (requestInstr h q) s u

/-! ### Frames -/

/-- A frame that a backbone port accepts and that gets a slot (R31, R42). -/
def State.acceptsFrame (s : State) (side : Side) (frame : Bytes) : Prop :=
  s.resetLine = false ∧ s.coupled side = true ∧ frameCheckOk frame = true
    ∧ 64 ≤ frame.length ∧ frame.length ≤ 2048 ∧ 16 < s.freeSlots

/-- A frame that the Frame Store hands to the Management Engine: it carries the management type code, and its destination is one the
part answers to (R43, R44, R188). -/
def State.handsOver (s : State) (frame : Bytes) : Prop :=
  let a := s.me.addressing
  let dst := frameDst frame
  frameType frame = managementType
    ∧ (dst = a.cabinet ∨ (dst = allCabinets ∧ a.allEnable = true)
      ∨ (dst = a.group ∧ a.groupEnable = true ∧ dst ≠ allCabinets))

/-- A message handed over passes the tests of R190: version 1, kind REQUEST, flags 0 (R220), and a source that a response could be
sent to. -/
def State.isRequest (s : State) (frame : Bytes) : Prop :=
  byteAt frame 14 = 1 ∧ byteAt frame 15 = 1 ∧ byteAt frame 18 = 0 ∧ s.answerable (frameSrc frame) = true

/-- R191 step 2, for a code that the part knows: the status field is not OK, the argument length exceeds the data, or the arguments
are those of no request of the code. -/
def badArguments (frame : Bytes) : Prop :=
  let n := (halfAt frame 23).toNat
  byteAt frame 17 ≠ 0 ∨ frame.length < 25 + n + 4
    ∨ ∀ q : Request, q.inFormat = true → q.code = byteAt frame 16 → q.args ≠ field frame 25 n

/-- An address that is none of the part's own (R43): not the cabinet address, not the all-cabinets address, and not the group
address while the group enable is set. -/
def State.notOwn (s : State) (x : Addr) : Prop :=
  x ≠ s.me.addressing.cabinet ∧ x ≠ allCabinets ∧ ¬ (x = s.me.addressing.group ∧ s.me.addressing.groupEnable = true)

/-- A slot that was free holds a frame with a count of references, and no other slot changes. -/
def slotTaken (s u : State) (k : Nat) (frame : Bytes) (refs : Nat) : Prop :=
  s.fs.slots.get k = none ∧ u.slotFrame k = frame ∧ u.refsOf k = refs ∧ ∀ j, j ≠ k → u.fs.slots.get j = s.fs.slots.get j

/-- Entries join the tail of one egress queue, and no other queue changes. -/
def joins (s u : State) (port : Port) (es : List Entry) : Prop :=
  (u.queue port).entries = (s.queue port).entries ++ es ∧ ∀ q, q ≠ port → u.queue q = s.queue q

/-- Only counters of one port change in the Frame Store. -/
def portCounts (s u : State) (port : Port) (f : PortCounters → PortCounters) : Prop :=
  (u.queue port) = { s.queue port with counts := f (s.queue port).counts } ∧ ∀ q, q ≠ port → u.queue q = s.queue q

/-- No egress queue changes. -/
def queuesSame (s u : State) : Prop := ∀ q, u.queue q = s.queue q

/-- No egress queue gains or loses an entry. -/
def queuesEntries (s u : State) : Prop := ∀ q, (u.queue q).entries = (s.queue q).entries

/-- No record but one changes. -/
def otherRecords (s u : State) (n : Nat) : Prop := ∀ m, m ≠ n → u.record m = s.record m

/-- No seat but one changes. -/
def otherSeats (s u : State) (p : SeatNo) : Prop := ∀ q, q ≠ p → u.seat q = s.seat q

/-- No link but one changes. -/
def otherLinks (s u : State) (c : LinkNo) : Prop := ∀ d, d ≠ c → u.link d = s.link d

/-- R47: the queues a broadcast or multicast frame is offered to. -/
def State.offersCopy (s : State) (side : Side) (dst : Addr) : Port → Bool
  | .seat p => s.seatOffered dst p
  | .ceiling c => s.linkOffered dst c
  | .backbone x => x == otherSide side && s.coupled x

/-- A frame stands in a port's egress queue. -/
def frameQueued (u : State) (port : Port) (frame : Bytes) : Prop := ∃ e ∈ (u.queue port).entries, u.slotFrame e.slot = frame

/-- A queue has room (R34). -/
def State.hasRoom (s : State) (port : Port) : Bool := decide ((s.queue port).entries.length < queueCapacity port)

/-- A message to a radio has been made for a READY link: it goes out in the event, or waits for a completion there (R41). -/
def toldRadio (u : State) (c : LinkNo) (m : RadioOut) : Prop :=
  Output.radio c m.bytes ∈ u.ev.out ∨ Control.radio m ∈ (u.queue (.ceiling c)).waiting

/-- A page has been made on a port (R41, R170). -/
def pageMade (u : State) (side : Side) (page : Bytes) : Prop :=
  Output.page side page ∈ u.ev.out ∨ Control.page page ∈ (u.queue (.backbone side)).waiting

/-- What a control message is when it goes out on a port, with the blink cycle value of that moment; none on a port of another kind
(R41, R135, R170). -/
def controlOutput (blink : Nat) : Port → Control → Option Output
  | .backbone side, .page bytes => some (.page side bytes)
  | .ceiling c, .radio m => some (.radio c m.bytes)
  | .seat p, .lamp out => some (.lamp (trunkOf p) (lampBytes p out blink))
  | _, _ => none

/-- The control messages that wait on a port, as they go out, in the order they were made; none on a port that is not open (R41). -/
def State.waitingOutputs (s : State) (port : Port) : List Output :=
  if s.controlOpen port then (s.queue port).waiting.filterMap (controlOutput s.spb.blink port) else []

/-- A lamp command has been made for a seat (R41, R135): it goes out in the event, with the blink cycle value of that moment, or waits
for a completion there. -/
def lampMade (u : State) (p : SeatNo) (out : LampOutput) : Prop :=
  Output.lamp (trunkOf p) (lampBytes p out u.spb.blink) ∈ u.ev.out ∨ Control.lamp out ∈ (u.queue (.seat p)).waiting

/-! ### Clients -/

/-- A frame from a seat that its port's checks and the bar test pass and that gets a slot (R31, R123, R124). -/
def State.acceptsSeatFrame (s : State) (p : SeatNo) (frame : Bytes) : Prop :=
  s.resetLine = false ∧ (s.trunk (trunkOf p)).state ≠ .held ∧ (s.seat p).up = true ∧ frameCheckOk frame = true
    ∧ 64 ≤ frame.length ∧ frame.length ≤ (s.seat p).profile.maxLength ∧ (s.seat p).profile.loopback = false
    ∧ s.entitlement (frameSrc frame) ≠ some .barred ∧ s.badSource (frameSrc frame) = false ∧ 128 < s.freeSlots

/-- The record of an address. -/
def State.owns (s : State) (x : Addr) (n : Nat) (r : Record) : Prop := s.byAddr x = some (n, r)

/-- A record as it stands when it enters LINGERING (R21, R87). -/
def Record.lingers (r : Record) (seconds : Nat) : Record :=
  { r with st := .lingering (some (seconds * 1000)), parked := [] }

/-- R65: the queue of a place takes the hold entries, oldest first, as far as there is room. -/
def State.flushedTo (s : State) (target : Place) (hold : List Nat) : List Entry :=
  (s.queue target.port).entries
    ++ (hold.take (queueCapacity target.port - (s.queue target.port).entries.length)).map target.entry

/-- R61 and R65: record `n` has its move completed at its target, the hold queue has moved to the target's queue as far as there
was room, and no other record and no other queue's entries change. -/
def moveCompleted (s u : State) (n : Nat) (r : Record) (target : Place) (hold : List Nat) : Prop :=
  u.record n = some { r with st := .attached target (s.idleFor r.cls target) }
    ∧ (u.queue target.port).entries = s.flushedTo target hold
    ∧ (∀ q, q ≠ target.port → (u.queue q).entries = (s.queue q).entries) ∧ otherRecords s u n

/-- R66: the abandoned target of a move is released: a seat's queue is discarded, a READY link is told DROP. -/
def targetReleased (u : State) : Place → Prop
  | .seat q => (u.queue (.seat q)).entries = []
  | .ceiling d e => toldRadio u d (.drop e)

/-- R68: a record with hold entries has lost its target: the loss and each entry are counted, and the references of its hold queue
and its parked list are given up. -/
def targetLost (s u : State) (r : Record) : Prop :=
  u.mc.counts = { s.mc.counts with
      targetsLost := bump s.mc.counts.targetsLost
      holdDiscarded := bumpBy s.mc.counts.holdDiscarded r.st.hold.length }
    ∧ ∀ k, u.refsOf k = s.refsOf k - (r.st.hold.count k + r.parked.count k)

/-- A record is MOVING. -/
def Record.isMoving (r : Record) : Bool := r.st.former.isSome

/-- R68 for records that leave a seat in one event: each MOVING one loses its target, and each of its hold entries is counted. -/
def targetsLostBy (s u : State) (leavers : List (Nat × Record)) : Prop :=
  u.mc = { s.mc with
    counts := { s.mc.counts with
      targetsLost := bumpBy s.mc.counts.targetsLost (leavers.countP fun e => e.2.isMoving)
      holdDiscarded := bumpBy s.mc.counts.holdDiscarded (leavers.map fun e => e.2.st.hold.length).sum } }

/-- R8, R20 and R21: seat `p` has lost its occupant, if it had one. The occupant lingers with nothing parked, a MOVING one has lost
its target (R68), every other record stands as it did, and the references of the seat's queue and of the occupant's lists are given
up. -/
def occupantLeaves (s u : State) (p : SeatNo) : Prop :=
  (s.occupant p = none → u.ct = s.ct) ∧ targetsLostBy s u (s.occupant p).toList
    ∧ (∀ n r, s.occupant p = some (n, r) →
        u.record n = some (r.lingers s.ct.lingerTime) ∧ otherRecords s u n ∧ n ∉ u.sau.waiting)
    ∧ ∀ k, s.fs.slots.get k ≠ none → u.refsOf k = s.refsOf k - ((s.queue (.seat p)).entries.countP fun e => e.slot == k)
        - ((s.occupant p).map fun e => e.2.st.hold.count k + e.2.parked.count k).getD 0

/-- A place whose release can be seen: a seat, or a READY link (R66). -/
def State.reachable (s : State) : Place → Prop
  | .seat _ => True
  | .ceiling d _ => (s.link d).state = .ready

/-- A MOVING record's target is on a link (R19). -/
def RecordState.targetOn (c : LinkNo) : RecordState → Bool
  | .moving target _ _ _ _ => target.onLink c
  | _ => false

/-- A MOVING record leaves a link for a target elsewhere (R19). -/
def RecordState.leaves (c : LinkNo) : RecordState → Bool
  | .moving target f _ _ _ => f == c && !target.onLink c
  | _ => false

/-- R63 and R65: the hold entries that the moves away from link `c` bring to one port, in rising order of record number. -/
def State.flushedFrom (s : State) (c : LinkNo) (port : Port) : List Entry :=
  s.ct.records.flatMap fun e =>
    match e.2.st with
    | .moving target f _ _ hold => if f = c ∧ target.onLink c = false ∧ target.port = port then hold.map target.entry else []
    | _ => []

/-- A place that takes frames: its seat is UP and not in loopback, or its link is READY. -/
def State.takesFrames (s : State) (pl : Place) : Prop := s.transmits pl.port = true ∧ s.inLoopback pl.port = false

/-- R81 to R85: what the Share Accounting Unit makes of an accepted frame of record `n`, which stands as `r` before the event and,
but for what the unit itself does to it, as `r1` after. `go` says what the event comes to, `rest` what the frame's port does. In
UPLINK_HELD the frame is a hold drop. Under a grant a SERVICE frame joins the gateway side's queue uncharged; a frame that the
record's credit and the pool can pay, with nothing parked, is charged and joins it; a refused append is a gateway-full drop and
charges nothing; any other frame is parked, or dropped over-share when four are parked. -/
def State.shareTakes (s : State) (n : Nat) (r r1 : Record) (frame : Bytes) (go rest : State → Prop) : Prop :=
  (s.sau.state = .held → ∃ u, go u ∧ u.record n = some r1 ∧ queuesSame s u
      ∧ u.sau = { s.sau with counts := { s.sau.counts with upstreamHoldDrops := bump s.sau.counts.upstreamHoldDrops } }
      ∧ (∀ j, u.fs.slots.get j = s.fs.slots.get j) ∧ otherRecords s u n ∧ rest u)
  ∧ ∀ g pend, s.sau.state = .granted g pend →
    let cost := frameCost frame.length
    let port := Port.backbone g.gateway
    let pays := r.cls ≠ .service ∧ r.parked = [] ∧ cost ≤ r.credit ∧ cost ≤ s.sau.pool
    (r.cls = .service → s.appendTest port false = none →
      ∃ u k, go u ∧ u.record n = some r1 ∧ slotTaken s u k frame 1 ∧ joins s u port [{ slot := k }]
        ∧ u.sau = { s.sau with counts := { s.sau.counts with framesUncharged := bump s.sau.counts.framesUncharged } }
        ∧ otherRecords s u n ∧ rest u)
    ∧ (pays → s.appendTest port false = none →
      ∃ u k, go u ∧ u.record n = some { r1 with credit := r.credit - cost, charged := bumpBy r.charged cost }
        ∧ slotTaken s u k frame 1 ∧ joins s u port [{ slot := k }]
        ∧ u.sau = { s.sau with
            pool := s.sau.pool - cost
            counts := { s.sau.counts with framesCharged := bump s.sau.counts.framesCharged } }
        ∧ otherRecords s u n ∧ rest u)
    ∧ (∀ why, pays ∨ r.cls = .service → s.appendTest port false = some why →
      ∃ u, go u ∧ u.record n = some r1 ∧ portCounts s u port (fun c => why.count c)
        ∧ u.sau = { s.sau with counts := { s.sau.counts with gatewayFullDrops := bump s.sau.counts.gatewayFullDrops } }
        ∧ (∀ j, u.fs.slots.get j = s.fs.slots.get j) ∧ otherRecords s u n ∧ rest u)
    ∧ (r.cls ≠ .service → ¬ pays → r.parked.length < 4 →
      ∃ u k, go u ∧ u.record n = some { r1 with parked := r.parked ++ [k] } ∧ slotTaken s u k frame 1 ∧ queuesSame s u
        ∧ u.sau = { s.sau with
            waiting := s.sau.waiting ++ (if r.parked = [] then [n] else [])
            counts := { s.sau.counts with framesParked := bump s.sau.counts.framesParked } }
        ∧ otherRecords s u n ∧ rest u)
    ∧ (r.cls ≠ .service → 4 ≤ r.parked.length →
      ∃ u, go u ∧ u.record n = some { r1 with overShare := bump r.overShare } ∧ queuesSame s u
        ∧ u.sau = { s.sau with
            overShareMark := true
            counts := { s.sau.counts with overShareDrops := bump s.sau.counts.overShareDrops } }
        ∧ (∀ j, u.fs.slots.get j = s.fs.slots.get j) ∧ otherRecords s u n ∧ rest u)

/-- An accepted frame sets the idle timer of an ATTACHED record again and leaves a MOVING one as it is (R11, R13, R59, R149). -/
def State.heard (s : State) (pl : Place) (r : Record) : Record :=
  match r.st with
  | .attached _ _ => { r with st := .attached pl (s.idleFor r.cls pl) }
  | _ => r

/-- A record's state with its idle timer set as its place gives it; in MOVING and LINGERING it has none. -/
def RecordState.withIdle (idle : Place → Timer) : RecordState → RecordState
  | .attached pl _ => .attached pl (idle pl)
  | st => st

/-- R24, R94, R95 and R104, for record `n`, which stands as `r` when the request `h` gives it the class `new`. An unchanged class
changes nothing. A changed one is set, the credit kept; a change to SERVICE stops the idle timer and a change from it starts the timer
afresh. A record that becomes SERVICE with frames parked has them joined, oldest first and uncharged, to the gateway side's queue as
far as there is room, the others dropped and counted, and leaves the Waiting List. `transit` is what the request's own frame has put
into that queue before (R44, log entry 48). -/
def State.takesClass (s u : State) (h : ReqHeader) (n : Nat) (r : Record) (new : Class) : Prop :=
  (r.cls = new → u.record n = some r ∧ s.requestOnly u h [.el])
  ∧ (r.cls ≠ new → new ≠ .service → s.requestOnly u h [.el, .ct]
      ∧ u.record n = some { r with
          cls := new, st := if r.cls = .service then r.st.withIdle fun pl => some (s.idleMs pl) else r.st })
  ∧ (r.cls ≠ new → new = .service →
    let now : Record := { r with cls := .service, st := r.st.withIdle fun _ => none, parked := [] }
    (r.parked = [] → u.record n = some now ∧ s.requestOnly u h [.el, .ct])
    ∧ ∀ g pend, r.parked ≠ [] → s.sau.state = .granted g pend → ∃ transit : List Entry,
      transit.length ≤ 1 ∧ (h.dest = .cabinet ∨ g.gateway = h.side → transit = [])
      ∧ let port := Port.backbone g.gateway
        let room := s.backboneRoom g.gateway - transit.length
        u.record n = some now
        ∧ (u.queue port).entries =
            (s.queue port).entries ++ transit ++ ((r.parked.take room).map fun k => ({ slot := k } : Entry))
        ∧ (∀ q, q ≠ port → q ≠ .backbone (otherSide h.side) → u.queue q = s.queue q)
        ∧ u.sau = { s.sau with
            waiting := s.sau.waiting.filter fun m => m != n
            counts := { s.sau.counts with
              framesUncharged := bumpBy s.sau.counts.framesUncharged (r.parked.take room).length
              gatewayFullDrops := bumpBy s.sau.counts.gatewayFullDrops (r.parked.drop room).length } }
        ∧ ∀ k, s.fs.slots.get k ≠ none → u.refsOf k = s.refsOf k - (r.parked.drop room).count k)

/-- R53: the record that a DATA of number `a` from `src` on link `c` belongs to: the one placed there, or, where that is not the
source's, the one whose move leaves that number. -/
def State.dataFrom (s : State) (c : LinkNo) (a : AssocNo) (src : Addr) (n : Nat) (r : Record) : Prop :=
  r.addr = src ∧ (s.atPlace (.ceiling c a) = some (n, r)
    ∨ (s.byFormer c a = some (n, r) ∧ (s.atPlace (.ceiling c a)).all (fun e => e.2.addr != src) = true))

/-! ### The release pass (R90, R91) -/

/-- What a record's turn brings: the frames released, those that the gateway queue refused, those kept, and the credit and pool
left. -/
structure Turn where
  released : List Nat
  refused : List Nat
  kept : List Nat
  credit : Nat
  pool : Nat
  deriving DecidableEq, Repr

/-- One record's turn: its parked frames, oldest first, while its credit and the pool can pay for the oldest one left; a frame that
finds no room in the gateway queue is dropped and not charged. -/
def turn (cost : Nat → Nat) : (room credit pool : Nat) → List Nat → Turn
  | _, credit, pool, [] => { released := [], refused := [], kept := [], credit := credit, pool := pool }
  | room, credit, pool, k :: rest =>
    if credit < cost k ∨ pool < cost k then { released := [], refused := [], kept := k :: rest, credit := credit, pool := pool }
    else
      match room with
      | 0 => let t := turn cost 0 credit pool rest; { t with refused := k :: t.refused }
      | m + 1 => let t := turn cost m (credit - cost k) (pool - cost k) rest; { t with released := k :: t.released }

/-- The turns of records one after the other: the room and the pool that one leaves are what the next one finds. -/
def turns (cost : Nat → Nat) (credit : Nat → Nat) (parked : Nat → List Nat) : (room pool : Nat) → List Nat → List (Nat × Turn)
  | _, _, [] => []
  | room, pool, n :: rest =>
    let t := turn cost room (credit n) pool (parked n)
    (n, t) :: turns cost credit parked (room - t.released.length) t.pool rest

/-- The order of the turns: PREMIUM, then STANDARD, then BASIC records, each class in Waiting List order. -/
def State.turnOrder (s : State) : List Nat :=
  [Class.premium, .standard, .basic].flatMap fun cls => s.sau.waiting.filter fun n => (s.record n).any fun r => r.cls == cls

/-- The release pass of a refill under grant `g`. -/
def State.refillTurns (s : State) (g : Grant) : List (Nat × Turn) :=
  turns (fun k => frameCost (s.slotLength k)) (fun n => ((s.record n).map fun r => g.allowance r.cls).getD 0)
    (fun n => ((s.record n).map Record.parked).getD []) (s.backboneRoom g.gateway) g.pool s.turnOrder

/-! ### Radios -/

/-- What a command from a radio carries: the link, and the message or `none` when it is malformed (R145, R224). -/
def radioMessage : Instr → Option (LinkNo × Option RadioMessage)
  | .ceilingData c a frame => some (c, some (.data a frame))
  | .assoc c a x signal => some (c, if badClientAddr x then none else some (.assoc a x signal))
  | .disassoc c a => some (c, some (.disassoc a))
  | .released c a => some (c, some (.released a))
  | .settingAnswer c item value result => some (c, some (.settingAnswer item value result))
  | .malformedRadioMessage c message => some (c, parseRadio message)
  | _ => none

/-- An association number that R145 allows. -/
def goodNumber (a : Byte) : Prop := 1 ≤ a.toNat ∧ a.toNat ≤ 63

/-- The part takes a radio's messages on link `c` (R145). -/
def State.hears (s : State) (c : LinkNo) : Prop := s.resetLine = false ∧ (s.link c).state = .ready

/-! ### Expiries -/

/-- For a command that is the part's own expiry: whether it is due. -/
def State.expiryDue (s : State) : Instr → Option Bool
  | .accessTimerExpiry => some (isDue s.sl.accessTimer)
  | .idleTimerExpiry n => some ((s.record n.val).any fun r => match r.st with | .attached _ t => isDue t | _ => false)
  | .lingerTimerExpiry n => some ((s.record n.val).any fun r => match r.st with | .lingering t => isDue t | _ => false)
  | .releaseDeadlineExpiry n =>
    some ((s.record n.val).any fun r => match r.st with | .moving _ _ _ t _ => isDue t | _ => false)
  | .relayTimeout c => some (s.link c).relayDue
  | .surveyWindowEnd c => some (s.link c).windowDone
  | .deferralExpiry x => some (s.deferralDue x)
  | .activityTimerExpiry p => some (isDue (s.seat p).activity)
  | .barredFrameMarkExpiry p => some (isDue (s.seat p).barredMark)
  | .refill => some (isDue s.sau.refill)
  | .minuteTimerExpiry => some (isDue s.el.minute)
  | .pageTimerExpiry side => some (isDue (s.side side).page)
  | .silenceTimerExpiry side => some (isDue (s.side side).silence)
  | .checkErrorWindowEnd side => some (isDue (s.side side).errorWindow)
  | .linkFailureTimerExpiry side => some (isDue (s.side side).linkFailure)
  | .spacingTimerExpiry x => some (s.spacingDue x)
  | _ => none

/-! ### The invariant -/

/-- Addresses that strictly rise. -/
def rising : List Addr → Prop
  | [] => True
  | x :: rest => (∀ y ∈ rest, x.toNat < y.toNat) ∧ rising rest

/-- At most one entry holds each role, and every entry holds one (R192). -/
def rolesUnique (stations : List Station) : Prop :=
  (stations.countP fun st => st.roles.share) ≤ 1 ∧ (stations.countP fun st => st.roles.entitle) ≤ 1
    ∧ (stations.countP fun st => st.roles.cabinet) ≤ 1 ∧ ∀ st ∈ stations, st.roles.isEmpty = false

/-- The tables and lists keep their form: the slots and the records are tables in canonical form, with numbers below 2048 and 512
(R2, R30); no two Entitlement List entries share an address and there are at most 256 (R101); no two Station Table entries share an
address, there are at most 4, and each role has at most one holder (R192); no two Deferral List entries share an address and there
are at most 32 (R161). -/
def Inv (s : State) : Prop :=
  s.fs.slots.wf = true ∧ (∀ e ∈ s.fs.slots, e.1 < 2048) ∧ s.ct.records.wf = true ∧ (∀ e ∈ s.ct.records, e.1 < 512)
    ∧ rising (s.el.entries.map Entitlement.addr) ∧ s.el.entries.length ≤ 256
    ∧ rising (s.me.stations.map Station.addr) ∧ s.me.stations.length ≤ 4 ∧ rolesUnique s.me.stations
    ∧ (s.clb.deferrals.map Deferral.addr).Nodup ∧ s.clb.deferrals.length ≤ 32

/-- The places of the in-use records, and their former places. -/
def State.places (s : State) : List Place := s.ct.records.filterMap fun e => e.2.st.place
def State.formerPlaces (s : State) : List (LinkNo × AssocNo) := s.ct.records.filterMap fun e => e.2.st.former

/-- No two in-use records share an address (R2), a place (R3, R8) or a former place (R53). -/
def PlacesInv (s : State) : Prop :=
  (s.ct.records.map fun e => e.2.addr).Nodup ∧ s.places.Nodup ∧ s.formerPlaces.Nodup

/-- A record stands in the Waiting List, once, exactly when its parked list is not empty; no parked list holds more than 4 entries,
and a LINGERING record's is empty (R1, R86). -/
def WaitingInv (s : State) : Prop :=
  s.sau.waiting.Nodup ∧ (∀ n, n ∈ s.sau.waiting ↔ ∃ r, s.record n = some r ∧ r.parked ≠ [])
    ∧ ∀ e ∈ s.ct.records, e.2.parked.length ≤ 4 ∧ (e.2.st.isLingering = true → e.2.parked = [])

/-- The ports with an egress queue. -/
def allPorts : List Port := allSeats.map Port.seat ++ allLinks.map Port.ceiling ++ allSides.map Port.backbone

/-- The entries of every egress queue, hold queue and parked list that refer to a slot. -/
def State.references (s : State) (k : Nat) : Nat :=
  (allPorts.map fun port => (s.queue port).entries.countP fun e => e.slot == k).sum
    + (s.ct.records.map fun e => e.2.st.hold.count k + e.2.parked.count k).sum

/-- R30 and R31: every slot's reference count is the number of entries that refer to it, and between events no slot in use has
count 0. -/
def RefInv (s : State) : Prop :=
  (∀ k, s.refsOf k = s.references k) ∧ ∀ e ∈ s.fs.slots, e.2.refs ≠ 0

end Sys2Proof.Machine
end

