-- ==== Sys2Proof/Certificates/Slice0/Obligations.lean ====
section
/-! DEFINITION. The statements for the provers. `reaches i s u` says that the command's own effects bring the part to `u` and that
the event then ends as `EndOfEventLeavesOwners` and its companions say; a conclusion that holds of such a `u` says that the command
completes. -/

open Sys2Proof Sys2Proof.Machine

/-! ### The queue, the tick, and the end of an event -/

/-- A step takes the command at the front of the queue. -/
def Obligations.StepTakesFrontCommand : Prop :=
  ∀ (c : Instr) (rest : List Instr) (s : State), s.pending = c :: rest → step s = exec c { s with pending := rest }

/-- On an empty queue a step is one cabinet tick of a running part: every running timer counts down by one, the blink cycle
advances, and nothing else but the queue changes (the model's choice, log entry 2). A survey window stays as it is: it counts ticks of
status and not cabinet ticks (log entry 28). -/
def Obligations.EmptyQueueStepIsATick : Prop :=
  ∀ s : State, s.pending = [] → s.resetLine = false → s.loadAwaited = false →
    ∃ t, step s = .next t ∧ t.el = { s.el with minute := tickTimer s.el.minute }
      ∧ t.sau = { s.sau with refill := tickTimer s.sau.refill }
      ∧ t.sl = { s.sl with accessTimer := tickTimer s.sl.accessTimer }
      ∧ (∀ side, t.side side = { s.side side with
          silence := tickTimer (s.side side).silence
          page := tickTimer (s.side side).page
          errorWindow := tickTimer (s.side side).errorWindow
          linkFailure := tickTimer (s.side side).linkFailure })
      ∧ t.cu = { s.cu with fore := t.cu.fore, aft := t.cu.aft }
      ∧ (∀ p, t.seat p = { s.seat p with
          activity := tickTimer (s.seat p).activity
          barredMark := tickTimer (s.seat p).barredMark })
      ∧ t.spb = { s.spb with
          seats := t.spb.seats
          blink := if s.spb.blinkRunning then (s.spb.blink + 1) % 1000 else s.spb.blink }
      ∧ (∀ c, t.link c = { s.link c with
          relay := (s.link c).relay.map fun r => { r with timeout := tickTimer r.timeout } })
      ∧ t.clb = { s.clb with links := t.clb.links, deferrals := s.clb.deferrals.map fun d => { d with left := d.left - 1 } }
      ∧ (∀ n, t.record n = (s.record n).map fun r => { r with st := r.st.tick })
      ∧ t.ct = { s.ct with records := t.ct.records }
      ∧ t.me = { s.me with stations := s.me.stations.map fun st => { st with spacing := tickTimer st.spacing } }
      ∧ t.fs = s.fs ∧ t.mc = s.mc ∧ t.memory = s.memory ∧ t.resetLine = s.resetLine ∧ t.ev = s.ev ∧ t.free = s.free
      ∧ t.pending = t.dueEvents

/-- The end of an event that brings no reset leaves the Client Table, the Move Controller, the Share Accounting Unit, the Entitlement
List, the Ceiling Link block, the Settings Loader and the settings memory as the event's own effects left them. It composes every
response made ready, in order, for the port it leaves by: its frame joins that port's queue, or it is lost and counted; ordinary
notices follow (R49, R191, R199). Each of these frames is lost exactly when no slot is free or its port refuses it. That several
responses go in the order they were made ready is the model's choice, log entry 30, and that the slot of the request still counts as
in use is log entry 6. A port that left DECOUPLED makes its page (R170). -/
def Obligations.EndOfEventLeavesOwners : Prop :=
  ∀ u : State, u.noResetComing →
    u.sameOwners u.endEvent ∧ u.endEvent.pending = u.pending ∧ u.endEvent.resetLine = u.resetLine ∧ u.endEvent.free = u.free
    ∧ (Inv u → ∃ (lost : List Bool) (notices : List Composed), lost.length = u.ev.responses.length
      ∧ u.endEvent.ev.composed = u.ev.composed ++ u.composedResponses lost ++ notices
      ∧ notices.all Composed.isOrdinary = true
      ∧ u.endEvent.fs.counts = { u.fs.counts with
          composedLost := bumpBy u.fs.counts.composedLost ((u.composedResponses lost ++ notices).countP Composed.isLost) }
      ∧ (∀ r, (r, false) ∈ u.ev.responses.zip lost →
          frameQueued u.endEvent (.backbone (u.responseSide r)) (responseFrame r u))
      ∧ (∀ r rest, u.ev.responses = r :: rest → lost.head? =
          some (decide (u.freeSlots = 0) || (u.appendTest (.backbone (u.responseSide r)) false).isSome))
      ∧ lossesAgree u.freeSlots u.backboneRoom (u.composedResponses lost ++ notices))
    ∧ ∀ side, side ∈ u.ev.pages → (u.side side).pagingHeld = false → pageMade u.endEvent side (u.endEvent.ownPage side)

/-- Every event ends with each seat's resolved output the one its force, its conditions, the rule set and the brightness give (R133).
In an event that brings no reset a lamp command is made for each seat of a PRESENT trunk whose output has changed, and for all eight
of a trunk that has entered PRESENT, and for no other seat (R135). -/
def Obligations.LampsResolvedAfterEveryEvent : Prop :=
  ∀ (u : State) (p : SeatNo),
    (u.endEvent.seat p).resolved = u.endEvent.resolveLamp p
    ∧ (u.noResetComing →
      let commanded := (u.trunk (trunkOf p)).state = .present
        ∧ ((u.endEvent.seat p).resolved ≠ (u.seat p).resolved ∨ trunkOf p ∈ u.ev.relamp)
      (commanded → lampMade u.endEvent p (u.endEvent.resolveLamp p))
      ∧ (¬ commanded → u.endEvent.queue (.seat p) = u.queue (.seat p)
        ∧ (u.endEvent.seat p).lastCommanded = (u.seat p).lastCommanded
        ∧ (u.endEvent.seat p).counts = (u.seat p).counts))

/-- The commands that have no effect but to begin and end an event, each by the model's choice: while the reset line is asserted, any
that is neither power-on, nor the line's release, nor a pin (what R211 leaves open, log entry 31); an expiry that is not due (log
entry 4); and the loss of a trunk signal that is absent, or the return of one that is present, the line asserted or not (log entry
52). -/
def Obligations.CommandsWithoutEffect : Prop :=
  (∀ (i : Instr) (s : State), s.resetLine = true → takenInReset i = false → exec i s = .next s.beginEvent)
  ∧ (∀ (i : Instr) (s : State), s.resetLine = false → s.expiryDue i = some false → reaches i s s.beginEvent)
  ∧ ∀ (s : State) (t : TrunkNo), let after := if s.resetLine then s.beginEvent else s.beginEvent.endEvent
    (∀ cut, (s.trunk t).signal = false → exec (.trunkSignalLoss t cut) s = .next after)
    ∧ ∀ status, (s.trunk t).signal = true → exec (.trunkSignalReturn t status) s = .next after

/-! ### Resets and the Settings Loader -/

/-- The three resets: every block takes its reset values, and the reset record its cause and count (R211); a store in progress
leaves the image of the settings memory invalid, and anything else leaves the memory as it was (R217). That a store's first stage
begins in the event that takes the STORE_SETTINGS is log entry 16; that the settings stand at the factory defaults between a reset
and the end of the load is the model's choice, log entry 18. -/
def Obligations.ResetsGiveResetValues : Prop :=
  (∀ s, ∃ t, exec .powerOn s = .next t ∧ t.atResetValues ∧ t.sl.resetCause = .powerOn ∧ t.sl.resetCount = 0
    ∧ t.sl.begun = false ∧ resetMemory s t)
  ∧ (∀ s, s.resetLine = false → ∃ t, exec .resetLineAsserted s = .next t ∧ t.atResetValues ∧ t.resetLine = true
    ∧ t.sl.resetCause = .resetLine ∧ t.sl.resetCount = min (s.sl.resetCount + 1) 255 ∧ t.sl.begun = false ∧ resetMemory s t)
  ∧ ∀ u : State, u.closeEvent.ev.resetDue = true → u.endEvent.atResetValues ∧ u.endEvent.sl.resetCause = .cabinetRequest
    ∧ u.endEvent.sl.resetCount = min (u.sl.resetCount + 1) 255 ∧ u.endEvent.sl.begun = true ∧ resetMemory u u.endEvent

/-- R29 for one reset that brings the part to `t`, the event having sent `out` before it. -/
def emptyClientTable (t : State) (out : List Output) : Prop :=
  (∀ n, t.record n = none) ∧ (∀ p, t.occupant p = none) ∧ (∀ c, t.attachedCount c = 0) ∧ t.ct.counts = {} ∧ t.ev.out = out
    ∧ t.obtain = some (0, false)
    ∧ ∀ c, (t.link c).state = .held ∧ (((t.releaseLink c).link c).state = .down ∨ ((t.releaseLink c).link c).state = .unready)

/-- R29: after each of the three resets every record is VACANT, no seat has an occupant, every attached count and table counter is
0, nothing has been sent for the records, the links start from DOWN or UNREADY at release, and the first record created is
record 0. -/
def Obligations.ResetEmptiesClientTable : Prop :=
  (∀ s, ∃ t, exec .powerOn s = .next t ∧ emptyClientTable t [])
  ∧ (∀ s, s.resetLine = false → ∃ t, exec .resetLineAsserted s = .next t ∧ emptyClientTable t [])
  ∧ ∀ u : State, u.closeEvent.ev.resetDue = true → emptyClientTable u.endEvent u.closeEvent.ev.out

/-- When a start-up load begins: at the release of the reset line, and at the START_LOAD that the first tick after power-on
brings; the read begins with the access timer set to 500 ms, and no other block changes (R210 to R212). -/
def Obligations.StartUpLoadBegins : Prop :=
  (∀ s, s.resetLine = true → ∃ t, exec .resetLineReleased s = .next t ∧ t.resetLine = false ∧ t.sl = s.sl.reading
    ∧ t.fs = s.fs ∧ t.ct = s.ct ∧ t.me = s.me ∧ t.cu = s.cu ∧ t.memory = s.memory)
  ∧ (∀ s, s.pending = [] → s.resetLine = false → s.loadAwaited = true → step s = .next { s with pending := [.startLoad] })
  ∧ ∀ s, s.resetLine = false → s.loadAwaited = true → ∃ u, reaches .startLoad s u ∧ u.sl = s.sl.reading
    ∧ u.fs = s.fs ∧ u.ct = s.ct ∧ u.me = s.me ∧ u.cu = s.cu ∧ u.spb = s.spb ∧ u.clb = s.clb ∧ u.memory = s.memory

/-- A start-up load is in progress, with the read numbered `access`, and neither port is COUPLED. -/
def loadingAtStart (s : State) (access : Nat) : Prop :=
  s.resetLine = false ∧ s.sl.unit = .loading ∧ s.sl.begun = true ∧ s.sl.access = access ∧ s.sl.lastOperation = .startLoad
    ∧ s.coupled .fore = false ∧ s.coupled .aft = false

/-- The end of the start-up load (R212, R213): SETTINGS_READ_COMPLETE with a valid image makes its items the current settings, with
outcome OK and source STORED; an invalid image, or ACCESS_TIMER_EXPIRY, makes the factory defaults current, with outcome BAD_IMAGE
or NO_ANSWER, source FACTORY and SETTINGS_FAULT raised. The unit is IDLE, the access timer stopped and the memory untouched. -/
def Obligations.StartUpLoadEnds : Prop :=
  (∀ s access x, loadingAtStart s access → s.memory.settings = some x → ∃ u, reaches (.settingsReadComplete access) s u
    ∧ u.settings = x ∧ u.cu.vehicle = x.vehicle ∧ u.sl.unit = .idle ∧ u.sl.accessTimer = none ∧ u.sl.outcome = some .ok
    ∧ u.sl.source = some .stored ∧ u.sl.counts.loadsFromImage = bump s.sl.counts.loadsFromImage ∧ u.memory = s.memory)
  ∧ (∀ s access, loadingAtStart s access → s.memory.settings = none → ∃ u, reaches (.settingsReadComplete access) s u
    ∧ u.settings = factorySettings ∧ u.cu.vehicle = 0 ∧ u.sl.unit = .idle ∧ u.sl.accessTimer = none
    ∧ u.sl.outcome = some .badImage ∧ u.sl.source = some .factory ∧ u.raised .settingsFault = bump (s.raised .settingsFault)
    ∧ u.sl.counts.loadsDefaulted = bump s.sl.counts.loadsDefaulted ∧ u.memory = s.memory)
  ∧ ∀ s access, loadingAtStart s access → s.sl.accessTimer = some 0 → ∃ u, reaches .accessTimerExpiry s u
    ∧ u.settings = factorySettings ∧ u.cu.vehicle = 0 ∧ u.sl.unit = .idle ∧ u.sl.accessTimer = none
    ∧ u.sl.outcome = some .noAnswer ∧ u.sl.source = some .factory ∧ u.raised .settingsFault = bump (s.raised .settingsFault)
    ∧ u.memory = s.memory

/-- Step 3 of R213: at the end of the start-up load, whatever its outcome, every trunk enters PRESENT or LOST by its signal, every link
UNREADY or DOWN by its status, each backbone port sets its page timer and its check-error window, and the minute timer and the blink
cycle start. -/
def Obligations.PortsReleasedAtLoadEnd : Prop :=
  ∀ s access i, loadingAtStart s access → (∀ c, (s.link c).state = .held) →
    (i = .settingsReadComplete access ∨ (i = .accessTimerExpiry ∧ s.sl.accessTimer = some 0)) → ∃ u, reaches i s u
    ∧ (∀ t, (u.trunk t).state = if (s.trunk t).signal then .present else .lost)
    ∧ (∀ c, (u.link c).state = if (s.link c).statusIn then .unready else .down)
    ∧ (∀ side, (u.side side).pagingHeld = false ∧ (u.side side).page = some 100 ∧ (u.side side).errorWindow = some 100
        ∧ (u.side side).errorCount = 0 ∧ (u.side side).state = (s.side side).state)
    ∧ u.el.minute = some 60000 ∧ u.el.entries = s.el.entries ∧ u.spb.blinkRunning = true ∧ u.spb.blink = 0

/-- A reload is in progress for a station. -/
def reloading (s : State) (access : Nat) (r : Return) : Prop :=
  s.resetLine = false ∧ s.sl.unit = .loading ∧ s.sl.begun = true ∧ s.sl.access = access ∧ s.sl.lastOperation = .reload
    ∧ s.sl.pendingReturn = some r

/-- The response of a long request stands among those the event is to compose (R199). -/
def longResponse (u : State) (r : Return) (status : Status) (args : Bytes) : Prop :=
  ({ station := r.station, side := r.side, long := true, code := r.code, tag := r.tag, status := status, args := args } : Response)
    ∈ u.ev.responses

/-- RELOAD_SETTINGS (R214, R215): it begins a read when the unit is IDLE; its valid image becomes current, the vehicle number only
when neither port is COUPLED. The READY links that the image disables go to UNREADY together: what is placed on any of them lingers,
a MOVING record losing its target, and a move away from one of them to a link that stays completes with that link's new idle time
(R63, R65, R152). That these records do not stay as they were is log entry 40; that the linger time is the old one and the idle time
the new are log entries 39 and 42. An invalid image, or the access timer's expiry, keeps the current settings and answers
SETTINGS_FAULT. -/
def Obligations.ReloadTakesEffectOrIsRefused : Prop :=
  (∀ s h, s.takes h → (s.rolesHeld h.station).cabinet = true → s.sl.unit = .idle → ∃ u, served s h .reloadSettings u
    ∧ u.ev.responses = [] ∧ u.sl.unit = .loading ∧ u.sl.begun = true ∧ u.sl.accessTimer = some 500
    ∧ u.sl.lastOperation = .reload ∧ u.sl.outcome = none ∧ u.sl.pendingReturn = some (returnOf h .reloadSettings)
    ∧ s.requestOnly u h [.sl])
  ∧ (∀ s access r x, reloading s access r → s.memory.settings = some x → ∃ u, reaches (.settingsReadComplete access) s u
    ∧ longResponse u r .ok [boolByte ((!s.coupled .fore && !s.coupled .aft) || s.cu.vehicle == x.vehicle)]
    ∧ u.settings = { x with
        vehicle := if !s.coupled .fore && !s.coupled .aft then x.vehicle else s.cu.vehicle }
    ∧ u.sl.unit = .idle ∧ u.sl.source = some .stored ∧ u.sl.pendingReturn = none ∧ u.el = s.el
    ∧ (Inv s →
      let goes := fun (c : LinkNo) => (s.link c).state = .ready ∧ (x.links.getD c.val {}).enabled = false
      (∀ c, (u.link c).state = if goes c then .unready else (s.link c).state)
      ∧ ∀ n r c a, s.record n = some r → r.st.place = some (.ceiling c a) →
        (goes c → u.record n = some (r.lingers s.ct.lingerTime))
        ∧ ∀ f g t hold, r.st = .moving (.ceiling c a) f g t hold → ¬ goes c → goes f → u.record n = some { r with
            st := .attached (.ceiling c a)
              (if r.cls = .service then none else some ((x.links.getD c.val {}).idleTime * 1000)) }))
  ∧ (∀ s access r, reloading s access r → s.memory.settings = none → ∃ u, reaches (.settingsReadComplete access) s u
    ∧ longResponse u r .settingsFault [] ∧ u.settings = s.settings ∧ u.sl.unit = .idle ∧ u.sl.outcome = some .badImage
    ∧ u.sl.source = s.sl.source ∧ u.sl.counts.reloadFaults = bump s.sl.counts.reloadFaults ∧ u.ct = s.ct ∧ u.spb = s.spb)
  ∧ ∀ s access r, reloading s access r → s.sl.accessTimer = some 0 → ∃ u, reaches .accessTimerExpiry s u
    ∧ longResponse u r .settingsFault [] ∧ u.settings = s.settings ∧ u.sl.unit = .idle ∧ u.sl.outcome = some .noAnswer

/-- STORE_SETTINGS and the memory's acknowledgements (R216): the current settings are collected; the first stage makes the image
invalid, the second writes the items, the third writes their check word and ends the store with OK. -/
def Obligations.StoreWritesTheImage : Prop :=
  (∀ s h, s.takes h → (s.rolesHeld h.station).cabinet = true → s.sl.unit = .idle → ∃ u, served s h .storeSettings u
    ∧ u.ev.responses = [] ∧ u.sl.unit = .storing .first s.settings.bytes ∧ u.sl.accessTimer = some 2000
    ∧ u.sl.lastOperation = .store ∧ u.sl.pendingReturn = some (returnOf h .storeSettings)
    ∧ s.requestOnly u h [.sl])
  ∧ (∀ s items, s.resetLine = false → s.sl.unit = .storing .first items → ∃ u, reaches (.storeStageComplete s.sl.access) s u
    ∧ u.memory = { s.memory with check := none } ∧ u.sl.unit = .storing .second items)
  ∧ (∀ s items, s.resetLine = false → s.sl.unit = .storing .second items → ∃ u, reaches (.storeStageComplete s.sl.access) s u
    ∧ u.memory = { s.memory with items := items } ∧ u.sl.unit = .storing .third items)
  ∧ ∀ s items r, s.resetLine = false → s.sl.unit = .storing .third items → s.sl.pendingReturn = some r →
    ∃ u, reaches (.storeStageComplete s.sl.access) s u ∧ u.memory = { items := items, check := some (crc32 items) }
      ∧ u.sl.unit = .idle ∧ u.sl.accessTimer = none ∧ u.sl.outcome = some .ok ∧ longResponse u r .ok []
      ∧ u.sl.source = s.sl.source ∧ u.settings = s.settings

/-- SETTINGS_WRITE_FAILURE, and the access timer's expiry during a store (R216): WRITE_FAILED, SETTINGS_FAULT raised and answered,
the unit IDLE; after the first stage the image is invalid. What the image is after a failure of the first stage is a free value
(log entry 15). -/
def Obligations.StoreFailureEndsTheStore : Prop :=
  ∀ s stage items r i, s.resetLine = false → s.sl.unit = .storing stage items → s.sl.pendingReturn = some r →
    (i = .settingsWriteFailure s.sl.access ∨ (i = .accessTimerExpiry ∧ s.sl.accessTimer = some 0)) →
    ∃ u, reaches i s u ∧ u.sl.unit = .idle ∧ u.sl.accessTimer = none ∧ u.sl.outcome = some .writeFailed
      ∧ u.sl.counts.storeFaults = bump s.sl.counts.storeFaults ∧ u.raised .settingsFault = bump (s.raised .settingsFault)
      ∧ longResponse u r .settingsFault [] ∧ u.settings = s.settings
      ∧ (stage ≠ .first → u.memory.settings = none) ∧ (stage = .first → u.memory = s.memory ∨ u.memory.settings = none)

/-- The settings image holds every setting: reading back the items of settings within their ranges gives those settings. -/
def Obligations.SettingsImageRoundTrip : Prop := ∀ x : Settings, x.inRange → readSettings x.bytes = some x


/-! ### Requests as frames -/

/-- The format of every request: the arguments it is sent with are read back as the request. -/
def Obligations.RequestRoundTrip : Prop := ∀ q : Request, q.inFormat = true → readRequest q.code q.args = .request q

/-- The command of a request is the arrival of the frame that spells it (the model's choice, log entry 1). -/
def Obligations.TypedRequestIsItsFrame : Prop :=
  ∀ (h : ReqHeader) (q : Request) (s : State), q.inFormat = true →
    exec (requestInstr h q) s = exec (.backboneFrameArrival h.side (s.requestFrame h q)) s

/-! ### The Frame Store -/

/-- R42 and R176: a frame on a port that is not COUPLED is dropped and counted; on a COUPLED port a bad check sequence is counted
on the port and in its check-error window, where the sixteenth begins a link failure and changes the coupled set (R177, R181); a
length below 64 is counted as a runt, one above 2048 as oversize, and a frame refused a slot as a no-slot drop. No slot changes, but
for what that link failure discards. That the window's count stays at 65,535 is log entry 26. -/
def Obligations.BackboneFrameChecks : Prop :=
  ∀ (s : State) (side : Side) (frame : Bytes), s.resetLine = false →
    let port := Port.backbone side
    (s.coupled side = false → ∃ u, reaches (.backboneFrameArrival side frame) s u
      ∧ portCounts s u port (fun c => { c with notCoupled := bump c.notCoupled }) ∧ u.fs.slots = s.fs.slots
      ∧ s.onlyChanges u [.fs])
    ∧ (s.coupled side = true → frameCheckOk frame = false → (s.side side).errorCount ≠ 15 →
      ∃ u, reaches (.backboneFrameArrival side frame) s u
      ∧ portCounts s u port (fun c => { c with checkErrors := bump c.checkErrors }) ∧ u.fs.slots = s.fs.slots
      ∧ (u.side side) = { s.side side with errorCount := moreErrors (s.side side).errorCount } ∧ s.onlyChanges u [.fs, .cu])
    ∧ (s.coupled side = true → frameCheckOk frame = false → (s.side side).errorCount = 15 →
      (s.side side).ownFault = .none → (s.side side).rx.isSome = true → ∃ u, reaches (.backboneFrameArrival side frame) s u
      ∧ (u.side side).ownFault = .linkFailure ∧ (u.side side).linkFailure = some 1000 ∧ (u.side side).errorCount = 16
      ∧ (u.side side).state = .faulted ∧ (u.side side).counts.linkFailures = bump (s.side side).counts.linkFailures
      ∧ u.raised .couplingFault = bump (s.raised .couplingFault) ∧ u.cu.epoch = s.cu.epoch + 1 ∧ u.me.stations = []
      ∧ u.sau.state = .held)
    ∧ (s.coupled side = true → frameCheckOk frame = true → frame.length < 64 →
      ∃ u, reaches (.backboneFrameArrival side frame) s u
      ∧ portCounts s u port (fun c => { c with runts := bump c.runts }) ∧ u.fs.slots = s.fs.slots ∧ s.onlyChanges u [.fs])
    ∧ (s.coupled side = true → frameCheckOk frame = true → 2048 < frame.length →
      ∃ u, reaches (.backboneFrameArrival side frame) s u
      ∧ portCounts s u port (fun c => { c with oversize := bump c.oversize }) ∧ u.fs.slots = s.fs.slots ∧ s.onlyChanges u [.fs])
    ∧ (s.coupled side = true → frameCheckOk frame = true → 64 ≤ frame.length → frame.length ≤ 2048 → s.freeSlots ≤ 16 →
      ∃ u, reaches (.backboneFrameArrival side frame) s u
      ∧ queuesSame s u ∧ u.fs.slots = s.fs.slots
      ∧ u.fs.counts = { s.fs.counts with backboneNoSlot := bump s.fs.counts.backboneNoSlot } ∧ s.onlyChanges u [.fs])

/-- R43 to R46, for a frame that one place takes: an ATTACHED client's queue, with its association number on a ceiling link; a
MOVING client's hold queue; the other backbone port for a frame to the all-cabinets or group address and for unknown unicast; or
none, counted. -/
def Obligations.ForwardingToOneDestination : Prop :=
  ∀ (s : State) (side : Side) (frame : Bytes), Inv s → s.acceptsFrame side frame →
    let dst := frameDst frame
    let go := fun u => reaches (.backboneFrameArrival side frame) s u
    let other := Port.backbone (otherSide side)
    (∀ n r pl t, s.notOwn dst → s.owns dst n r → r.st = .attached pl t → s.appendTest pl.port false = none →
      ∃ u k, go u ∧ slotTaken s u k frame 1 ∧ joins s u pl.port [pl.entry k] ∧ s.onlyChanges u [.fs, .me])
    ∧ (∀ n r pl t why, s.notOwn dst → s.owns dst n r → r.st = .attached pl t → s.appendTest pl.port false = some why →
      ∃ u k, go u ∧ slotTaken s u k frame 0 ∧ portCounts s u pl.port (fun c => why.count c) ∧ s.onlyChanges u [.fs, .me])
    ∧ (∀ n r target c a t hold, s.notOwn dst → s.owns dst n r → r.st = .moving target c a t hold → hold.length < 32 →
      ∃ u k, go u ∧ slotTaken s u k frame 1 ∧ u.record n = some { r with st := .moving target c a t (hold ++ [k]) }
        ∧ otherRecords s u n ∧ queuesSame s u ∧ s.onlyChanges u [.fs, .me, .ct])
    ∧ (∀ n r target c a t hold, s.notOwn dst → s.owns dst n r → r.st = .moving target c a t hold → 32 ≤ hold.length →
      ∃ u, go u ∧ u.mc.counts.holdQueueDrops = bump s.mc.counts.holdQueueDrops ∧ u.mc.releaseTimeout = s.mc.releaseTimeout
        ∧ (∀ j, u.fs.slots.get j = s.fs.slots.get j) ∧ queuesSame s u ∧ s.onlyChanges u [.fs, .me, .mc])
    ∧ (∀ n r t, s.notOwn dst → s.owns dst n r → r.st = .lingering t →
      ∃ u k, go u ∧ slotTaken s u k frame 0 ∧ queuesSame s u ∧ s.onlyChanges u [.fs, .me]
        ∧ u.fs.counts = { s.fs.counts with absentClient := bump s.fs.counts.absentClient })
    ∧ (s.notOwn dst → s.byAddr dst = none → isMulticast dst = false → s.appendTest other false = none →
      ∃ u k, go u ∧ slotTaken s u k frame 1 ∧ joins s u other [{ slot := k }] ∧ s.onlyChanges u [.fs, .me])
    ∧ (s.notOwn dst → s.byAddr dst = none → isMulticast dst = false → s.coupled (otherSide side) = false →
      ∃ u k, go u ∧ slotTaken s u k frame 0 ∧ queuesSame s u ∧ s.onlyChanges u [.fs, .me]
        ∧ u.fs.counts = { s.fs.counts with unknownUnicast := bump s.fs.counts.unknownUnicast })
    ∧ (dst = s.me.addressing.cabinet → frameType frame ≠ managementType →
      ∃ u k, go u ∧ slotTaken s u k frame 0 ∧ queuesSame s u ∧ s.onlyChanges u [.fs, .me]
        ∧ u.fs.counts = { s.fs.counts with notForCabinet := bump s.fs.counts.notForCabinet })
    ∧ (dst ≠ s.me.addressing.cabinet → ¬ s.notOwn dst → ¬ s.handsOver frame → s.appendTest other false = none →
      ∃ u k, go u ∧ slotTaken s u k frame 1 ∧ joins s u other [{ slot := k }] ∧ s.onlyChanges u [.fs, .me])

/-- R47: a broadcast or multicast frame takes one slot; every queue it is offered to takes one entry if it has room and counts an
egress-full skip if not; the count of the slot is the number of takers; with none the frame is unplaced. -/
def Obligations.CopiesToAcceptingPorts : Prop :=
  ∀ (s : State) (side : Side) (frame : Bytes), Inv s → s.acceptsFrame side frame → s.notOwn (frameDst frame) →
    s.byAddr (frameDst frame) = none → isMulticast (frameDst frame) = true →
    let offered := s.offersCopy side (frameDst frame)
    let takers := allPorts.countP fun port => offered port && s.hasRoom port
    ∃ u k, reaches (.backboneFrameArrival side frame) s u ∧ slotTaken s u k frame takers ∧ s.onlyChanges u [.fs, .me]
      ∧ (∀ port, (u.queue port).entries =
          (s.queue port).entries ++ if offered port && s.hasRoom port then [{ slot := k }] else [])
      ∧ (∀ port, (u.queue port).counts =
          if offered port && !s.hasRoom port then { (s.queue port).counts with egressFull := bump (s.queue port).counts.egressFull }
          else (s.queue port).counts)
      ∧ u.fs.counts = if takers = 0 then { s.fs.counts with unplaced := bump s.fs.counts.unplaced } else s.fs.counts

/-- R39 and R41: at a completion the head leaves and its frame goes out, under its association number on a ceiling link, and after
it every control message that waited for the completion, in the order they were made; nothing else goes out and none waits any
longer. The head's reference is given up, the frames-sent counter advances, and the next frame begins if the port still transmits; a
seat's activity timer is set. A port with no frame in transmission has no completion (log entry 4), and the command completes the
frame that is in transmission when it is taken (log entry 41). A queue discarded whole counts its frame in transmission as lost and
its others as discarded (R37, R40); that the messages waiting for the lost frame go out with the discard is the model's choice, log
entry 9. -/
def Obligations.TransmissionCompletes : Prop :=
  (∀ (s : State) (port : Port) (e : Entry) (rest : List Entry) (x : Transmission), s.resetLine = false →
    (s.queue port).tx = some x → (s.queue port).entries = e :: rest →
    ∃ u, reaches (.transmissionComplete port) s u ∧ (u.queue port).entries = rest
      ∧ (u.queue port).counts = { (s.queue port).counts with sent := bump (s.queue port).counts.sent }
      ∧ (u.queue port).waiting = []
      ∧ u.ev.out = Output.frame port (sentBytes port e (s.slotFrame e.slot)) :: s.waitingOutputs port
      ∧ u.refsOf e.slot = s.refsOf e.slot - 1 ∧ (∀ j, j ≠ e.slot → u.refsOf j = s.refsOf j)
      ∧ (u.queue port).tx.isSome = (!rest.isEmpty && s.transmits port)
      ∧ (∀ q, q ≠ port → u.queue q = s.queue q)
      ∧ (∀ p, port = .seat p → (u.seat p).activity = some 100)
      ∧ (∀ p, port ≠ .seat p → u.seat p = s.seat p) ∧ s.onlyChanges u [.fs, .spb, .cu])
  ∧ (∀ (s : State) (port : Port), s.resetLine = false → (s.queue port).tx = none →
    reaches (.transmissionComplete port) s s.beginEvent)
  ∧ ∀ (s : State) (port : Port), let q := s.queue port
    let lost := if q.tx.isSome then 1 else 0
    (s.discardQueue port).queue port = { q with
        entries := [], tx := none, waiting := []
        counts := { q.counts with
          lost := bumpBy q.counts.lost lost
          discarded := bumpBy q.counts.discarded (q.entries.length - lost) } }
    ∧ (∀ p, p ≠ port → (s.discardQueue port).queue p = s.queue p)
    ∧ (s.discardQueue port).ev.out = s.ev.out ++ s.waitingOutputs port

/-- R41 and R33, of the operations that every command uses: a control message goes out at once when no frame is in transmission on
its port, waits for the completion otherwise, and is not sent on a port that is not open. R33, whole: the mark is ARMED after each
of the three resets; a claim that leaves 128 free slots or fewer raises STORE_LOW while it is ARMED and makes it SPENT; while it is
SPENT no claim raises the cause; a release that leaves more than 256 makes a SPENT mark ARMED again, and no other release changes
it. QUERY_CABINET reports it: the request's own slot and its response's leave the mark alone where it is SPENT or more than 130
slots are free, and two answers that agree report the same mark.

The clause of QUERY_CABINET fixes the whole answer, and so rests on the model's choices: that its free count counts the slot of the
request is log entry 6 (DEDUCED, unsafe), and that it does not count the slot of the response is log entry 49 (DESIGN CHOICE, unsafe);
the layout of the answer rests on log entries 20 to 22 and 24. -/
def Obligations.ControlMessagesAndLowWater : Prop :=
  (∀ (s : State) (port : Port) (m : Control),
    (s.controlOpen port = false → s.sendControl port m = s)
    ∧ (s.controlOpen port = true → (s.queue port).tx = none → s.sendControl port m = s.goOut port m)
    ∧ (s.controlOpen port = true → (s.queue port).tx.isSome = true →
        ((s.sendControl port m).queue port).waiting = (s.queue port).waiting ++ [m]
        ∧ (s.sendControl port m).ev = s.ev ∧ ∀ q, q ≠ port → (s.sendControl port m).queue q = s.queue q))
  ∧ (∀ (s : State) (reserve : Nat) (origin : Origin) (reset : Bool) (frame : State → Bytes),
    (s.freeSlots ≤ reserve → s.claim reserve origin reset frame = none)
    ∧ (reserve < s.freeSlots → ∃ k t, s.claim reserve origin reset frame = some (k, t)
        ∧ (s.fs.mark = .armed → s.freeSlots - 1 ≤ 128 →
            t.fs.mark = .spent ∧ t.raised .storeLow = bump (s.raised .storeLow))
        ∧ (s.fs.mark = .spent ∨ 128 < s.freeSlots - 1 → t.fs.mark = s.fs.mark ∧ t.me = s.me)))
  ∧ (∀ (s : State) (k : Nat), (s.freeSlot k).fs.slots.get k = none ∧ (s.freeSlot k).me = s.me
    ∧ (s.fs.mark = .armed → (s.freeSlot k).fs.mark = .armed)
    ∧ (s.fs.mark = .spent → 256 < (s.freeSlot k).freeSlots → (s.freeSlot k).fs.mark = .armed)
    ∧ (s.fs.mark = .spent → (s.freeSlot k).freeSlots ≤ 256 → (s.freeSlot k).fs.mark = .spent))
  ∧ ((∀ s, ∃ t, exec .powerOn s = .next t ∧ t.fs.mark = .armed)
    ∧ (∀ s, s.resetLine = false → ∃ t, exec .resetLineAsserted s = .next t ∧ t.fs.mark = .armed)
    ∧ ∀ u : State, u.closeEvent.ev.resetDue = true → u.endEvent.fs.mark = .armed)
  ∧ (∀ (s : State) (h : ReqHeader), s.takes h → s.fs.mark = .spent ∨ 130 < s.freeSlots →
      ∃ u, served s h .queryCabinet u ∧ u.answers h .queryCabinet .ok u.cabinetAnswer ∧ u.fs.mark = s.fs.mark)
  ∧ ∀ s t : State, s.cabinetAnswer = t.cabinetAnswer → s.fs.mark = t.fs.mark

/-! ### Clients at seats -/

/-- A frame from a seat before its client is learned (R117, R123, R124, R127, R132): a HELD trunk delivers none; a DOWN seat counts
not-up; an UP seat counts the frame received and drops it at the first check it fails, with that check's counter; a barred source
raises BARRED_SEEN and sets the seat's mark to 10,000; a frame in loopback joins the seat's own queue. -/
def Obligations.SeatFrameChecks : Prop :=
  ∀ (s : State) (p : SeatNo) (frame : Bytes), s.resetLine = false →
    let go := fun u => reaches (.seatFrameArrival p frame) s u
    let x := s.seat p
    let counted := fun (u : State) (f : SeatCounters → SeatCounters) =>
      u.seat p = { x with counts := f { x.counts with received := bump x.counts.received } }
        ∧ otherSeats s u p ∧ s.onlyChanges u [.spb]
    let active := fun (u : State) (mark : Timer) (f : SeatCounters → SeatCounters) =>
      u.seat p = { x with
        activity := some 100, barredMark := mark, counts := f { x.counts with received := bump x.counts.received } }
    ((s.trunk (trunkOf p)).state = .held → ∃ u, go u ∧ s.onlyChanges u [])
    ∧ ((s.trunk (trunkOf p)).state ≠ .held → x.up = false → ∃ u, go u
        ∧ u.seat p = { x with counts := { x.counts with notUp := bump x.counts.notUp } }
        ∧ otherSeats s u p ∧ s.onlyChanges u [.spb])
    ∧ ((s.trunk (trunkOf p)).state ≠ .held → x.up = true →
      (frameCheckOk frame = false →
        ∃ u, go u ∧ counted u fun c => { c with checkErrors := bump c.checkErrors })
      ∧ (frameCheckOk frame = true → frame.length < 64 → ∃ u, go u ∧ counted u fun c => { c with runts := bump c.runts })
      ∧ (frameCheckOk frame = true → 64 ≤ frame.length → x.profile.maxLength < frame.length →
        ∃ u, go u ∧ counted u fun c => { c with oversize := bump c.oversize })
      ∧ (frameCheckOk frame = true → 64 ≤ frame.length → frame.length ≤ x.profile.maxLength → x.profile.loopback = false →
        (s.entitlement (frameSrc frame) = some .barred → ∃ u, go u
          ∧ active u (some 10000) (fun c => { c with barred := bump c.barred })
          ∧ u.raised .barredSeen = bump (s.raised .barredSeen) ∧ otherSeats s u p ∧ s.onlyChanges u [.spb, .me])
        ∧ (s.entitlement (frameSrc frame) ≠ some .barred → s.badSource (frameSrc frame) = true → ∃ u, go u
          ∧ active u x.barredMark (fun c => { c with badSource := bump c.badSource }) ∧ otherSeats s u p
          ∧ s.onlyChanges u [.spb])
        ∧ (s.entitlement (frameSrc frame) ≠ some .barred → s.badSource (frameSrc frame) = false → s.freeSlots ≤ 128 →
          ∃ u, go u ∧ active u x.barredMark id ∧ otherSeats s u p ∧ s.onlyChanges u [.spb, .fs] ∧ queuesSame s u
          ∧ u.fs.counts = { s.fs.counts with clientNoSlot := bump s.fs.counts.clientNoSlot }))
      ∧ (frameCheckOk frame = true → 64 ≤ frame.length → frame.length ≤ x.profile.maxLength → x.profile.loopback = true →
        128 < s.freeSlots → (s.queue (.seat p)).entries.length < 32 → Inv s → ∃ u k, go u
          ∧ active u x.barredMark (fun c => { c with looped := bump c.looped }) ∧ slotTaken s u k frame 1
          ∧ joins s u (.seat p) [{ slot := k }] ∧ otherSeats s u p ∧ s.onlyChanges u [.spb, .fs, .me]))

/-- R7, for record `n` that client `x` is given at a place, `b` the part before the creation and `u` after it. -/
def newRecordStarts (b u : State) (n : Nat) (x : Addr) (pl : Place) : Prop :=
  (∃ r idle, u.record n = some r ∧ r.addr = x ∧ r.st = .attached pl idle
    ∧ (b.entitlement x = none → r.cls = .basic) ∧ (b.entitlement x = some .standard → r.cls = .standard)
    ∧ (b.entitlement x = some .premium → r.cls = .premium) ∧ (b.entitlement x = some .service → r.cls = .service)
    ∧ (b.sau.state = .held → r.credit = 0) ∧ (r.cls = .service → r.credit = 0)
    ∧ (∀ g pend, b.sau.state = .granted g pend → (r.cls = .basic → r.credit = g.basic)
        ∧ (r.cls = .standard → r.credit = g.standard) ∧ (r.cls = .premium → r.credit = g.premium))
    ∧ r.parked = [] ∧ r.charged = 0 ∧ r.overShare = 0
    ∧ (r.cls = .service → idle = none)
    ∧ (r.cls ≠ .service → (∀ p, pl = .seat p → idle = some ((b.seat p).profile.idleTime * 1000))
        ∧ ∀ c a, pl = .ceiling c a → idle = some ((b.link c).profile.idleTime * 1000))
    ∧ ∀ p, u.occupant p = if pl = .seat p then some (n, r) else b.occupant p)
  ∧ (∀ c, u.attachedCount c = b.attachedCount c + if pl.onLink c then 1 else 0)
  ∧ u.ct.counts.created = bump b.ct.counts.created

/-- R7: how a new record starts, of the two operations that give a client without a record one: a frame from it at a seat, and the
hand-over of its admitted association. `b` is the part once the occupant of the seat, or the client displaced from the number, has
gone to LINGERING. That the records' places are distinct (PlacesInv) is what PlacesStayDistinct keeps. -/
def Obligations.NewRecordStarts : Prop :=
  ∀ (s : State) (x : Addr), Inv s → PlacesInv s → s.byAddr x = none →
    (∀ p n reclaimed, let b := s.clearSeat p none
      b.obtain = some (n, reclaimed) → ∃ u, s.learnSeat p x = (u, some n) ∧ newRecordStarts b u n x (.seat p))
    ∧ ∀ c a n reclaimed, let b := ((s.displaced x c a).map s.enterLingering).getD s
      b.obtain = some (n, reclaimed) → newRecordStarts b (s.handOver x c a) n x (.ceiling c a)

/-- R4 to R7 and R10: a frame from an address with no record. An occupant of the seat leaves it first: it lingers, a MOVING one losing
its target (R68), and the seat's queue is discarded; `b` is the part after that. The lowest VACANT record is then taken or, with none
VACANT, the LINGERING record with the least time left, the lowest number among equals (R5), which the occupant may be itself. It is set
up ATTACHED at the seat with the class of the address, its credit and its idle timer, and the Share Accounting Unit takes the frame
(R81 to R85). At an empty seat with no record to be had TABLE_FULL is raised and the creation failure counted; at an occupied one there
is always a record. That the reference counts agree with the entries (RefInv) is what ReferencesAreCounted keeps; it rules out an
occupant whose lists name a free slot (log entry 35). -/
def Obligations.NewClientIsLearned : Prop :=
  ∀ (s : State) (p : SeatNo) (frame : Bytes), Inv s → RefInv s → s.acceptsSeatFrame p frame → s.byAddr (frameSrc frame) = none →
    let go := fun u => reaches (.seatFrameArrival p frame) s u
    let b := s.clearSeat p none
    let n := s.ct.records.firstFree 0
    let cls := s.classOf (frameSrc frame)
    let new : Record :=
      { addr := frameSrc frame, cls := cls, credit := s.newCredit cls, parked := [], charged := 0, overShare := 0,
        st := .attached (.seat p) (s.idleFor cls (.seat p)) }
    (s.occupant p = none → b = s)
    ∧ (∀ m y, s.occupant p = some (m, y) → occupantLeaves s b p ∧ (b.queue (.seat p)).entries = []
        ∧ (∀ q, q ≠ .seat p → b.queue q = s.queue q) ∧ b.obtain ≠ none)
    ∧ (n < 512 → s.record n = none ∧ (∀ m, m < n → s.record m ≠ none) ∧ b.obtain = some (n, false))
    ∧ (∀ m y t, 512 ≤ n → b.record m = some y → y.st = .lingering t →
        (∀ k z d, b.record k = some z → z.st = .lingering d → t.getD 0 < d.getD 0 ∨ (t.getD 0 = d.getD 0 ∧ m ≤ k)) →
        b.obtain = some (m, true))
    ∧ (∀ k reclaimed, b.obtain = some (k, reclaimed) → b.shareTakes k new new frame go fun u =>
        u.ct.counts = { s.ct.counts with
            created := bump s.ct.counts.created
            reclaims := if reclaimed then bump s.ct.counts.reclaims else s.ct.counts.reclaims }
        ∧ (u.seat p).counts.accepted = bump (s.seat p).counts.accepted ∧ otherSeats s u p
        ∧ u.raised .tableFull = s.raised .tableFull ∧ b.onlyChanges u [.ct, .sau, .fs, .spb, .me])
    ∧ (s.occupant p = none → s.obtain = none →
      ∃ u, go u ∧ u.ct.records = s.ct.records
        ∧ u.ct.counts = { s.ct.counts with creationFailures := bump s.ct.counts.creationFailures }
        ∧ u.raised .tableFull = bump (s.raised .tableFull) ∧ queuesSame s u ∧ s.onlyChanges u [.ct, .fs, .spb, .me])

/-- R11, R13 and R81 to R85, for a frame from the client whose place the seat is: ATTACHED there, its idle timer is set again; MOVING
there, its record is left as it is; and the Share Accounting Unit takes the frame. -/
def Obligations.KnownClientIsCharged : Prop :=
  ∀ (s : State) (p : SeatNo) (frame : Bytes) (n : Nat) (r : Record), Inv s → s.acceptsSeatFrame p frame →
    s.owns (frameSrc frame) n r → r.st.place = some (.seat p) →
    s.shareTakes n r (s.heard (.seat p) r) frame (fun u => reaches (.seatFrameArrival p frame) s u) fun u =>
      (u.seat p).counts.accepted = bump (s.seat p).counts.accepted ∧ otherSeats s u p
        ∧ s.onlyChanges u [.ct, .sau, .fs, .spb, .me]

/-- R11 to R13: a client that appears at an empty seat. From another seat it changes place at once and that seat's queue is
discarded; from a ceiling link a move begins with RELEASE and the release deadline; a MOVING client is retargeted, keeping its
former place, deadline and hold queue; a LINGERING client returns. -/
def Obligations.ClientChangesPlace : Prop :=
  ∀ (s : State) (p : SeatNo) (frame : Bytes) (n : Nat) (r : Record), Inv s → s.acceptsSeatFrame p frame →
    s.owns (frameSrc frame) n r → s.occupant p = none →
    let go := fun u => reaches (.seatFrameArrival p frame) s u
    let becomes := fun (u : State) (st : RecordState) =>
      (u.record n).map Record.st = some st ∧ (u.record n).map Record.cls = some r.cls ∧ otherRecords s u n
        ∧ s.onlyChanges u [.ct, .mc, .sau, .fs, .spb, .clb, .me]
    let here := RecordState.attached (.seat p) (s.idleFor r.cls (.seat p))
    (∀ q t, r.st = .attached (.seat q) t → q ≠ p → ∃ u, go u ∧ becomes u here ∧ (u.queue (.seat q)).entries = []
        ∧ u.mc = s.mc ∧ u.clb = s.clb)
    ∧ (∀ c a t, r.st = .attached (.ceiling c a) t → (s.link c).state = .ready → s.byFormer c a = none →
      ∃ u, go u ∧ becomes u (.moving (.seat p) c a (some s.mc.releaseTimeout) []) ∧ toldRadio u c (.release a)
        ∧ u.mc.counts = { s.mc.counts with begun := bump s.mc.counts.begun })
    ∧ (∀ q c a t hold, r.st = .moving (.seat q) c a t hold → q ≠ p →
      ∃ u, go u ∧ becomes u (.moving (.seat p) c a t hold) ∧ (u.queue (.seat q)).entries = []
        ∧ u.mc.counts = { s.mc.counts with retargets := bump s.mc.counts.retargets })
    ∧ (∀ d b c a t hold, r.st = .moving (.ceiling d b) c a t hold → (s.link d).state = .ready →
      ∃ u, go u ∧ becomes u (.moving (.seat p) c a t hold) ∧ toldRadio u d (.drop b)
        ∧ u.mc.counts = { s.mc.counts with retargets := bump s.mc.counts.retargets })
    ∧ (∀ t, r.st = .lingering t → ∃ u, go u ∧ becomes u here ∧ u.mc = s.mc ∧ u.clb = s.clb)

/-- R22, R23 and R64: the idle timer's expiry sends a record to LINGERING, with its parked frames discarded, and DROP on its link;
the linger timer's expiry makes it VACANT; the release deadline's expiry completes the move with MOVE_TIMEOUT and DROP for the
former link. -/
def Obligations.RecordTimersExpire : Prop :=
  ∀ (s : State) (n : RecordNo) (r : Record), s.resetLine = false → s.record n.val = some r →
    (∀ p, r.st = .attached (.seat p) (some 0) → ∃ u, reaches (.idleTimerExpiry n) s u
      ∧ u.record n.val = some (r.lingers s.ct.lingerTime) ∧ (u.queue (.seat p)).entries = [] ∧ otherRecords s u n.val
      ∧ u.ct.counts = { s.ct.counts with idleExpiries := bump s.ct.counts.idleExpiries } ∧ n.val ∉ u.sau.waiting
      ∧ s.onlyChanges u [.ct, .sau, .fs, .spb])
    ∧ (∀ c a, r.st = .attached (.ceiling c a) (some 0) → (s.link c).state = .ready → ∃ u, reaches (.idleTimerExpiry n) s u
      ∧ u.record n.val = some (r.lingers s.ct.lingerTime) ∧ toldRadio u c (.drop a) ∧ otherRecords s u n.val
      ∧ u.ct.counts = { s.ct.counts with idleExpiries := bump s.ct.counts.idleExpiries } ∧ n.val ∉ u.sau.waiting
      ∧ (∀ q, (u.queue q).entries = (s.queue q).entries) ∧ s.onlyChanges u [.ct, .sau, .fs, .clb])
    ∧ (r.st = .lingering (some 0) → ∃ u, reaches (.lingerTimerExpiry n) s u ∧ u.record n.val = none ∧ otherRecords s u n.val
      ∧ u.ct.counts = { s.ct.counts with lingerExpiries := bump s.ct.counts.lingerExpiries } ∧ n.val ∉ u.sau.waiting
      ∧ queuesSame s u ∧ s.onlyChanges u [.ct, .sau, .fs])
    ∧ ∀ target c a hold, r.st = .moving target c a (some 0) hold → s.takesFrames target → (s.link c).state = .ready →
      ∃ u, reaches (.releaseDeadlineExpiry n) s u ∧ moveCompleted s u n.val r target hold ∧ toldRadio u c (.drop a)
        ∧ u.raised .moveTimeout = bump (s.raised .moveTimeout) ∧ u.mc.counts.timeouts = bump s.mc.counts.timeouts
        ∧ s.onlyChanges u [.ct, .mc, .fs, .clb, .me]

/-! ### Ceiling links -/

/-- R145, R224 and log entry 19: a radio's message on a HELD link has no effect; a malformed message, or one whose association
number is 0 or above 63, is counted malformed; any other on a link that is not READY is counted not-ready. Nothing else changes. -/
def Obligations.RadioMessageNotTaken : Prop :=
  ∀ (i : Instr) (c : LinkNo) (m : Option RadioMessage) (s : State), s.resetLine = false → radioMessage i = some (c, m) →
    ((s.link c).state = .held → ∃ u, reaches i s u ∧ s.onlyChanges u [])
    ∧ ((s.link c).state ≠ .held → m.all RadioMessage.badNumber = true → ∃ u, reaches i s u ∧ otherLinks s u c
        ∧ u.link c = { s.link c with counts := { (s.link c).counts with malformed := bump (s.link c).counts.malformed } }
        ∧ s.onlyChanges u [.clb])
    ∧ ((s.link c).state ≠ .held → (s.link c).state ≠ .ready → m.all RadioMessage.badNumber = false →
        ∃ u, reaches i s u ∧ otherLinks s u c
        ∧ u.link c = { s.link c with counts := { (s.link c).counts with notReady := bump (s.link c).counts.notReady } }
        ∧ s.onlyChanges u [.clb])

/-- R53, R59, R148 and R149: DATA on a READY link: a bad check sequence, a runt, an oversize frame, a number that no record has and a
number that another address has are dropped with their counters, an unknown number raising UNASSOCIATED; without a slot the frame is a
no-slot drop. A frame of the record placed at the number, ATTACHED or MOVING to it, or of the record whose move leaves the number, is
accepted: an ATTACHED record's idle timer is set again, a MOVING record is left as it is, and the Share Accounting Unit takes the
frame (R81 to R85). -/
def Obligations.CeilingDataIsChecked : Prop :=
  ∀ (s : State) (c : LinkNo) (a : Byte) (frame : Bytes), s.hears c → goodNumber a →
    let go := fun u => reaches (.ceilingData c a frame) s u
    let x := s.link c
    let b := assocNo a
    let here := Place.ceiling c b
    let src := frameSrc frame
    let counted := fun (u : State) (f : LinkCounters → LinkCounters) =>
      u.link c = { x with counts := f { x.counts with received := bump x.counts.received } } ∧ otherLinks s u c
    let whole := frameCheckOk frame = true ∧ 64 ≤ frame.length ∧ frame.length ≤ x.profile.maxLength
    (frameCheckOk frame = false →
      ∃ u, go u ∧ counted u (fun k => { k with checkErrors := bump k.checkErrors }) ∧ s.onlyChanges u [.clb])
    ∧ (frameCheckOk frame = true → frame.length < 64 →
      ∃ u, go u ∧ counted u (fun k => { k with runts := bump k.runts }) ∧ s.onlyChanges u [.clb])
    ∧ (frameCheckOk frame = true → 64 ≤ frame.length → x.profile.maxLength < frame.length →
      ∃ u, go u ∧ counted u (fun k => { k with oversize := bump k.oversize }) ∧ s.onlyChanges u [.clb])
    ∧ (whole → s.atPlace here = none → s.byFormer c b = none →
      ∃ u, go u ∧ counted u (fun k => { k with unassociated := bump k.unassociated })
        ∧ u.raised .unassociated = bump (s.raised .unassociated) ∧ s.onlyChanges u [.clb, .me])
    ∧ (whole → (s.atPlace here).isSome = true ∨ (s.byFormer c b).isSome = true →
      (s.atPlace here).all (fun e => e.2.addr != src) = true → (s.byFormer c b).all (fun e => e.2.addr != src) = true →
      ∃ u, go u ∧ counted u (fun k => { k with mismatches := bump k.mismatches }) ∧ s.onlyChanges u [.clb])
    ∧ (∀ n r, whole → s.dataFrom c b src n r → s.freeSlots ≤ 128 →
      ∃ u, go u ∧ counted u id ∧ u.fs.counts = { s.fs.counts with clientNoSlot := bump s.fs.counts.clientNoSlot }
        ∧ s.onlyChanges u [.clb, .fs])
    ∧ (∀ n r, Inv s → whole → s.dataFrom c b src n r → 128 < s.freeSlots →
      s.shareTakes n r (s.heard here r) frame go fun u =>
        counted u (fun k => { k with accepted := bump k.accepted }) ∧ s.onlyChanges u [.clb, .fs, .ct, .sau, .me])

/-- R112 and R156 to R159: the answer to an ASSOC on a READY link, in the order of the checks: REFUSE(BARRED); ADMIT and renumbering
on the client's own link; REFUSE(LINK_FULL) at the client limit; DEFER on a crowded link with a quieter one; REFUSE(TABLE_FULL); ADMIT
with the record of R15 to R17. The refusals raise their causes; the answer is the link's last association. A client ATTACHED on
another READY link begins a move (R16, R54), which completes an earlier move from the same former place first (R55); a MOVING client
is renumbered on its target's link, cancels its move on its former link with the hold queue flushed there (R67), and is retargeted
elsewhere, keeping former place, deadline and hold queue (R66); a client that holds the number goes to LINGERING first (R14). -/
def Obligations.AssocIsAnswered : Prop :=
  ∀ (s : State) (c : LinkNo) (a : Byte) (x : Addr) (signal : Byte), Inv s → s.hears c → goodNumber a → badClientAddr x = false →
    let b := assocNo a
    let here := Place.ceiling c b
    let limit := (s.link c).profile.clientLimit
    let answered := fun (u : State) (answer : AssocAnswer) (m : RadioOut) =>
      reaches (.assoc c a x signal) s u ∧ toldRadio u c m
        ∧ (u.link c).lastAssoc = some { addr := x, assoc := b, signal := signal, answer := answer }
    let refused := fun (reason : RefuseReason) (cause : Cause) =>
      ∃ u, answered u (.refused reason) (.refuse b reason) ∧ otherLinks s u c ∧ u.raised cause = bump (s.raised cause)
        ∧ u.clb.deferrals = s.clb.deferrals ∧ s.onlyChanges u [.clb, .me, .fs]
    let admits := fun (u : State) => answered u .admitted (.admitted b)
      ∧ (u.link c).counts.admissions = bump (s.link c).counts.admissions
      ∧ u.clb.deferrals = s.clb.deferrals.filter (fun d => d.addr != x)
    let admitted := fun (n : Nat) (r : Record) => ∃ u, admits u ∧ u.record n = some r ∧ otherRecords s u n ∧ otherLinks s u c
    let new : Record :=
      { addr := x, cls := s.classOf x, credit := s.newCredit (s.classOf x), parked := [], charged := 0, overShare := 0,
        st := .attached here (s.idleFor (s.classOf x) here) }
    let noPlace := (s.byAddr x).all (fun e => e.2.st.isLingering) = true
    let deferred := (s.link c).crowded = true ∧ s.isDeferred x = false ∧ s.quieterLink c = true
    let room := fun (r : Record) => s.attachedCount c < limit ∨ r.cls = .service
    let full := fun (r : Record) => limit ≤ s.attachedCount c ∧ r.cls ≠ .service
    (s.entitlement x = some .barred → s.displaced x c b = none → refused .barred .barredSeen)
    ∧ (s.entitlement x ≠ some .barred → s.displaced x c b = none →
      (∀ n r d t, s.owns x n r → r.st = .attached (.ceiling c d) t →
        admitted n { r with st := .attached here (s.idleFor r.cls here) })
      ∧ (∀ n r p t, s.owns x n r → r.st = .attached (.seat p) t → full r → refused .linkFull .linkFull)
      ∧ (∀ n r p t, s.owns x n r → r.st = .attached (.seat p) t → room r →
        admitted n { r with st := .attached here (s.idleFor r.cls here) })
      ∧ (noPlace → limit ≤ s.attachedCount c → s.isService x = false → refused .linkFull .linkFull)
      ∧ (noPlace → s.attachedCount c < limit → s.isService x = false → deferred →
        ∃ u, answered u .deferred (.defer b) ∧ otherLinks s u c ∧ u.ct = s.ct ∧ s.onlyChanges u [.clb, .fs]
          ∧ u.clb.deferrals = (if s.clb.deferrals.length < 32 then s.clb.deferrals else s.clb.deferrals.drop 1)
              ++ [{ addr := x, left := s.clb.deferWindow }]
          ∧ u.clb.overflows = if s.clb.deferrals.length < 32 then s.clb.overflows else bump s.clb.overflows)
      ∧ (s.byAddr x = none → s.attachedCount c < limit ∨ s.isService x = true → ¬ (s.isService x = false ∧ deferred) →
        (s.obtain = none → refused .tableFull .tableFull)
        ∧ (∀ n reclaimed, s.obtain = some (n, reclaimed) → admitted n new))
      ∧ (∀ n r t, s.owns x n r → r.st = .lingering t → room r →
        ¬ (s.isService x = false ∧ deferred) → admitted n { r with st := .attached here (s.idleFor r.cls here) })
      ∧ (∀ n r d e t, s.owns x n r → r.st = .attached (.ceiling d e) t → d ≠ c → (s.link d).state = .ready →
        let moving : Record := { r with st := .moving here d e (some s.mc.releaseTimeout) [] }
        (full r → refused .linkFull .linkFull)
        ∧ (room r → s.byFormer d e = none → ∃ u, admits u ∧ u.record n = some moving ∧ otherRecords s u n
          ∧ toldRadio u d (.release e) ∧ u.mc = { s.mc with counts := { s.mc.counts with begun := bump s.mc.counts.begun } }
          ∧ queuesEntries s u ∧ s.onlyChanges u [.clb, .ct, .mc, .fs])
        ∧ ∀ m y target left hold, room r → s.byFormer d e = some (m, y) → y.st = .moving target d e left hold →
          s.takesFrames target → ∃ u, admits u ∧ u.record n = some moving ∧ toldRadio u d (.release e)
          ∧ u.record m = some { y with st := .attached target (s.idleFor y.cls target) }
          ∧ (u.queue target.port).entries = s.flushedTo target hold ∧ (∀ k, k ≠ n → k ≠ m → u.record k = s.record k)
          ∧ u.mc.counts.begun = bump s.mc.counts.begun ∧ u.mc.counts.supersessions = bump s.mc.counts.supersessions
          ∧ s.onlyChanges u [.clb, .ct, .mc, .fs])
      ∧ (∀ n r target f g t hold, s.owns x n r → r.st = .moving target f g t hold →
        (target.onLink c = true → f ≠ c → admitted n { r with st := .moving here f g t hold })
        ∧ (target.onLink c = false → full r → refused .linkFull .linkFull)
        ∧ (target.onLink c = false → room r → s.reachable target → f = c → ∃ u, admits u ∧ targetReleased u target
          ∧ u.record n = some { r with st := .attached here (s.idleFor r.cls here) } ∧ otherRecords s u n
          ∧ (u.queue (.ceiling c)).entries = s.flushedTo here hold
          ∧ u.mc.counts.cancellations = bump s.mc.counts.cancellations ∧ s.onlyChanges u [.clb, .ct, .mc, .fs, .spb])
        ∧ (target.onLink c = false → room r → s.reachable target → f ≠ c → ∃ u, admits u ∧ targetReleased u target
          ∧ u.record n = some { r with st := .moving here f g t hold } ∧ otherRecords s u n
          ∧ u.mc = { s.mc with counts := { s.mc.counts with retargets := bump s.mc.counts.retargets } }
          ∧ s.onlyChanges u [.clb, .ct, .mc, .fs, .spb])))
    ∧ ∀ m y n, s.entitlement x ≠ some .barred → s.displaced x c b = some m → s.record m = some y → s.byAddr x = none →
      s.attachedCount c - 1 < limit ∨ s.isService x = true → ¬ (s.isService x = false ∧ deferred) →
      s.obtain = some (n, false) →
      ∃ u, admits u ∧ u.record m = some (y.lingers s.ct.lingerTime) ∧ u.record n = some new
        ∧ (∀ k, k ≠ m → k ≠ n → u.record k = s.record k) ∧ otherLinks s u c
        ∧ ∀ f g t hold, y.st = .moving here f g t hold → targetLost s u y

/-- R18 and R62: DISASSOC sends the record placed at its number to LINGERING, a MOVING one losing its target (R68), and completes the
move away from it, both where both are found, or is counted unmatched; RELEASED completes the move away from its number, or is
counted stray and changes no record, queue or timer. -/
def Obligations.DisassociationAndRelease : Prop :=
  ∀ (s : State) (c : LinkNo) (a : Byte), Inv s → s.hears c → goodNumber a →
    let b := assocNo a
    let placed := s.atPlace (.ceiling c b)
    let former := s.byFormer c b
    (∀ n r t, placed = some (n, r) → r.st = .attached (.ceiling c b) t → former = none →
      ∃ u, reaches (.disassoc c a) s u ∧ u.record n = some (r.lingers s.ct.lingerTime) ∧ otherRecords s u n ∧ queuesSame s u
        ∧ (u.link c).counts.disassociations = bump (s.link c).counts.disassociations ∧ s.onlyChanges u [.ct, .sau, .fs, .clb])
    ∧ (∀ n r target t hold, placed = none → former = some (n, r) → r.st = .moving target c b t hold → s.takesFrames target →
      ∃ u, reaches (.disassoc c a) s u ∧ moveCompleted s u n r target hold
        ∧ u.mc.counts.byDisassociation = bump s.mc.counts.byDisassociation ∧ s.onlyChanges u [.ct, .mc, .fs, .clb])
    ∧ (∀ n r f g t hold, placed = some (n, r) → r.st = .moving (.ceiling c b) f g t hold → former = none →
      ∃ u, reaches (.disassoc c a) s u ∧ u.record n = some (r.lingers s.ct.lingerTime) ∧ otherRecords s u n ∧ queuesSame s u
        ∧ targetLost s u r ∧ u.mc.releaseTimeout = s.mc.releaseTimeout
        ∧ (∀ d, (u.link d).counts.madeRelease = (s.link d).counts.madeRelease) ∧ s.onlyChanges u [.ct, .mc, .sau, .fs, .clb])
    ∧ (∀ n r k m y target t hold, placed = some (n, r) → r.st = .attached (.ceiling c b) k → former = some (m, y) →
      y.st = .moving target c b t hold → s.takesFrames target →
      ∃ u, reaches (.disassoc c a) s u ∧ u.record n = some (r.lingers s.ct.lingerTime)
        ∧ u.record m = some { y with st := .attached target (s.idleFor y.cls target) }
        ∧ (u.queue target.port).entries = s.flushedTo target hold ∧ (∀ k, k ≠ n → k ≠ m → u.record k = s.record k)
        ∧ u.mc.counts.byDisassociation = bump s.mc.counts.byDisassociation ∧ u.ct.counts = s.ct.counts
        ∧ s.onlyChanges u [.ct, .mc, .sau, .fs, .clb])
    ∧ (placed = none → former = none → ∃ u, reaches (.disassoc c a) s u ∧ u.ct.records = s.ct.records
        ∧ u.ct.counts = { s.ct.counts with unmatchedDisassociations := bump s.ct.counts.unmatchedDisassociations }
        ∧ s.onlyChanges u [.ct, .clb])
    ∧ (∀ n r target t hold, former = some (n, r) → r.st = .moving target c b t hold → s.takesFrames target →
      ∃ u, reaches (.released c a) s u ∧ moveCompleted s u n r target hold
        ∧ (u.link c).counts.releases = bump (s.link c).counts.releases
        ∧ u.mc.counts.byRelease = bump s.mc.counts.byRelease ∧ s.onlyChanges u [.ct, .mc, .fs, .clb])
    ∧ (former = none → ∃ u, reaches (.released c a) s u
        ∧ u.mc = { s.mc with counts := { s.mc.counts with strayReleases := bump s.mc.counts.strayReleases } }
        ∧ (u.link c).counts.releases = bump (s.link c).counts.releases ∧ s.onlyChanges u [.mc, .clb])

/-- R163 and R164: RELAY_SETTING on a READY link with an idle relay sends SETTING and waits 100 ticks; SETTING_ANSWER for its item
ends it OK with the value and result; another item is stray; the timeout ends it TIMEOUT, with link and item. -/
def Obligations.SettingRelayRuns : Prop :=
  (∀ s h link item value direction (c : LinkNo) (write : Bool), s.takes h → (s.rolesHeld h.station).cabinet = true →
    linkOf link = some c → boolOf direction = some write →
    let q := Request.relaySetting link item value direction
    ((s.link c).relay = none → (s.link c).state = .ready →
      ∃ u, served s h q u ∧ u.ev.responses = [] ∧ toldRadio u c (.setting item value write) ∧ otherLinks s u c
        ∧ (u.link c).relay = some
            { station := h.station, side := h.side, tag := h.tag, item := item, write := write, timeout := some 100 }
        ∧ s.onlyChanges u [.fs, .me, .clb])
    ∧ ((s.link c).relay.isSome = true → ∃ u, served s h q u ∧ u.answers h q .busy [] ∧ s.requestOnly u h [])
    ∧ ((s.link c).relay = none → (s.link c).state ≠ .ready →
      ∃ u, served s h q u ∧ u.answers h q .linkDown [] ∧ s.requestOnly u h []))
  ∧ ∀ s c (r : Relay), s.hears c → (s.link c).relay = some r →
    let ended := fun (u : State) (status : Status) (args : Bytes) =>
      u.ev.responses = [{ station := r.station, side := r.side, long := true, code := relayCode, tag := r.tag, status := status,
                          args := args }]
        ∧ (u.link c).relay = none ∧ otherLinks s u c ∧ s.onlyChanges u [.clb]
    (∀ value result, ∃ u, reaches (.settingAnswer c r.item value result) s u
      ∧ ended u .ok ([linkByte c, r.item, boolByte r.write] ++ wordBytes value ++ [result]))
    ∧ (∀ item value result, item ≠ r.item → ∃ u, reaches (.settingAnswer c item value result) s u ∧ u.ev.responses = []
      ∧ u.link c = { s.link c with
          counts := { (s.link c).counts with strayAnswers := bump (s.link c).counts.strayAnswers } }
      ∧ otherLinks s u c ∧ s.onlyChanges u [.clb])
    ∧ (r.timeout = some 0 → ∃ u, reaches (.relayTimeout c) s u ∧ ended u .timeout [linkByte c, r.item])

/-- R142 to R144 and R153: what a tick of a radio's status, or a tick without signal, makes of each link state. A link that leaves
READY sends its clients to LINGERING, discards its queue, ends its relay LINK_DOWN, abandons its survey and raises
CEILING_LINK_LOSS; a move whose target is on it loses its target (R68), and the moves away from it complete and flush their hold
queues in rising order of record number (R63, R65). That a survey window counts ticks of status, and not the tick that brings its link to
READY, is log entry 28, and that status on a HELD link moves only the pin log entry 19. -/
def Obligations.LinkStatusTable : Prop :=
  ∀ (s : State) (c : LinkNo) (cut : Bool), Inv s → s.resetLine = false →
    let x := s.link c
    let tick := fun (status : Option RadioStatus) (u : State) => reaches (.ceilingStatusTick c status cut) s u ∧ otherLinks s u c
    let left := fun (u : State) (new : LinkState) =>
      (u.link c).state = new ∧ (u.link c).window = none ∧ (u.link c).survey = none ∧ (u.link c).relay = none
        ∧ (u.link c).counts.linkLosses = bump x.counts.linkLosses
        ∧ u.raised .ceilingLinkLoss = bump (s.raised .ceilingLinkLoss) ∧ (u.queue (.ceiling c)).entries = []
        ∧ (∀ n r a t, s.record n = some r → r.st = .attached (.ceiling c a) t → u.record n = some (r.lingers s.ct.lingerTime))
        ∧ (∀ n r, s.record n = some r → r.st.targetOn c = true → u.record n = some (r.lingers s.ct.lingerTime))
        ∧ (∀ n r target g t hold, s.record n = some r → r.st = .moving target c g t hold → target.onLink c = false →
            u.record n = some { r with st := .attached target (s.idleFor r.cls target) })
        ∧ (∀ port, port ≠ .ceiling c → s.transmits port = true → s.inLoopback port = false →
            (u.queue port).entries = (s.queue port).entries
              ++ (s.flushedFrom c port).take (queueCapacity port - (s.queue port).entries.length))
        ∧ u.mc.counts.targetsLost = bumpBy s.mc.counts.targetsLost (s.ct.records.countP fun e => e.2.st.targetOn c)
        ∧ u.mc.counts.byLinkLoss = bumpBy s.mc.counts.byLinkLoss (s.ct.records.countP fun e => e.2.st.leaves c)
        ∧ (∀ r, x.relay = some r → u.ev.responses =
            [{ station := r.station, side := r.side, long := true, code := relayCode, tag := r.tag, status := .linkDown,
               args := [linkByte c, r.item] }])
    (∀ status, x.state = .held → ∃ u, tick status u ∧ u.link c = { x with statusIn := status.isSome } ∧ s.onlyChanges u [.clb])
    ∧ (∀ r, x.state = .down → ∃ u, tick (some r) u
      ∧ u.link c = { x with statusIn := true, ready := r.ready, busy := r.busy, state := .unready } ∧ s.onlyChanges u [.clb])
    ∧ (∀ r, x.state = .unready → ∃ u, tick (some r) u ∧ u.link c = { x with
        statusIn := true, ready := r.ready, busy := r.busy
        state := if r.ready && x.profile.enabled then .ready else .unready
        window := if r.ready && x.profile.enabled then
            some { length := x.profile.surveyWindow, left := x.profile.surveyWindow, busy := 0 }
          else x.window } ∧ s.onlyChanges u [.clb])
    ∧ (x.state = .unready ∨ x.state = .down → ∃ u, tick none u ∧ (u.link c).state = .down ∧ s.onlyChanges u [.clb]
      ∧ (u.link c).counts.cutFrames = if cut then bump x.counts.cutFrames else x.counts.cutFrames)
    ∧ (∀ r w, x.state = .ready → r.ready = true → x.window = some w → 0 < w.left → ∃ u, tick (some r) u
      ∧ u.link c = { x with
          statusIn := true, ready := true, busy := r.busy
          window := some { w with left := w.left - 1, busy := w.busy + r.busy.toNat } } ∧ s.onlyChanges u [.clb])
    ∧ (∀ r, x.state = .ready → r.ready = false → ∃ u, tick (some r) u ∧ left u .unready)
    ∧ (x.state = .ready → ∃ u, tick none u ∧ left u .down)

/-- R154, R155 and R162: a survey window's end stores its busy count and length and begins the next window; a link is crowded
exactly when its last survey is valid, its threshold is not 0, and 100 times the busy count is at least the threshold times the
length; a Deferral List entry leaves the list at its expiry. -/
def Obligations.SurveyAndDeferralEnd : Prop :=
  (∀ s c (w : SurveyWindow), s.resetLine = false → (s.link c).window = some w → w.left = 0 →
    ∃ u, reaches (.surveyWindowEnd c) s u ∧ otherLinks s u c ∧ s.onlyChanges u [.clb]
      ∧ u.link c = { s.link c with
          survey := some { busy := w.busy, length := w.length }
          window := some { length := (s.link c).profile.surveyWindow, left := (s.link c).profile.surveyWindow, busy := 0 } })
  ∧ (∀ x : Link, x.crowded = true ↔
      ∃ v, x.survey = some v ∧ x.profile.threshold ≠ 0 ∧ x.profile.threshold * v.length ≤ v.busy * 100)
  ∧ ∀ s (d : Deferral), s.resetLine = false → d ∈ s.clb.deferrals → d.left = 0 →
    ∃ u, reaches (.deferralExpiry d.addr) s u ∧ u.clb.deferrals = s.clb.deferrals.filter (fun e => e.addr != d.addr)
      ∧ u.clb.expiries = bump s.clb.expiries ∧ u.clb.links = s.clb.links ∧ s.onlyChanges u [.clb]

/-! ### Seat trunks and lamps -/

/-- R20, R117 and R118: a PRESENT trunk that loses its signal becomes LOST and its eight seats DOWN, their occupants LINGERING, the
MOVING ones losing their targets (R68), and their queues discarded, with SEAT_TRUNK_LOSS raised once; a LOST trunk whose signal
returns becomes PRESENT and its seats take the states their indications and profiles give, with a lamp command made for each of the
eight (R135); on a HELD trunk, and while the reset line is asserted, only the pin changes (log entry 17). -/
def Obligations.TrunkSignalLossAndReturn : Prop :=
  ∀ (s : State) (t : TrunkNo), Inv s →
    let x := s.trunk t
    let noStatus : TrunkStatus := Vector.replicate 8 none
    let others := fun (u : State) => (∀ k, k ≠ t → u.trunk k = s.trunk k) ∧ (∀ p, trunkOf p ≠ t → u.seat p = s.seat p)
    (∀ cut, s.resetLine = false → x.signal = true → x.state = .present → ∃ u, reaches (.trunkSignalLoss t cut) s u ∧ others u
      ∧ u.trunk t = { x with
          state := .lost, signal := false, wire := noStatus, signalLosses := bump x.signalLosses
          cutFrames := bumpBy x.cutFrames cut }
      ∧ u.raised .seatTrunkLoss = bump (s.raised .seatTrunkLoss)
      ∧ (∀ p, trunkOf p = t → (u.seat p).up = false ∧ (u.seat p).indication = none ∧ (u.seat p).profile = (s.seat p).profile)
      ∧ (∀ p, trunkOf p = t → (s.seat p).up = true → (u.queue (.seat p)).entries = []
          ∧ (u.seat p).counts.linkDowns = bump (s.seat p).counts.linkDowns
          ∧ ∀ n r, s.occupant p = some (n, r) → u.record n = some (r.lingers s.ct.lingerTime) ∧ n ∉ u.sau.waiting)
      ∧ (let leavers := (allSeats.filter fun p => trunkOf p == t && (s.seat p).up).filterMap s.occupant
        targetsLostBy s u leavers ∧ ∀ n, n ∉ leavers.map Prod.fst → u.record n = s.record n)
      ∧ (∀ p, trunkOf p = t → (s.seat p).up = false → u.queue (.seat p) = s.queue (.seat p)
          ∧ (u.seat p).counts.linkDowns = (s.seat p).counts.linkDowns))
    ∧ (∀ status, s.resetLine = false → x.signal = false → x.state = .lost → (∀ p, trunkOf p = t → (s.seat p).up = false) →
      ∃ u, reaches (.trunkSignalReturn t status) s u ∧ others u
      ∧ u.trunk t = { x with state := .present, signal := true, wire := status }
      ∧ (∀ p, trunkOf p = t → u.seat p = { s.seat p with
            indication := status[positionOf p]
            up := status[positionOf p].isSome && (s.seat p).profile.enabled })
      ∧ u.ev.relamp = [t] ∧ (∀ p, trunkOf p = t → lampMade u.endEvent p (u.endEvent.resolveLamp p)) ∧ s.onlyChanges u [.spb])
    ∧ (∀ cut, s.resetLine = false → x.signal = true → x.state = .held → ∃ u, reaches (.trunkSignalLoss t cut) s u ∧ others u
      ∧ u.trunk t = { x with signal := false, wire := noStatus } ∧ s.onlyChanges u [.spb])
    ∧ ∀ status, s.resetLine = true → x.signal = false → x.state = .held →
      ∃ u, exec (.trunkSignalReturn t status) s = .next u ∧ others u ∧ u.trunk t = { x with signal := true, wire := status }
        ∧ s.onlyChanges u [.spb]

/-- R20, R119, R120, R131 and R132, for a seat of a PRESENT trunk: an indication brings the seat UP or DOWN as its profile allows,
and going DOWN discards its queue and sends its occupant to LINGERING, a MOVING one losing its target (R68); a change of speed
changes neither the link state nor the queue; the activity timer and the barred-frame mark stop at their expiry. -/
def Obligations.SeatStatusAndMarks : Prop :=
  ∀ (s : State) (p : SeatNo), s.resetLine = false →
    let x := s.seat p
    let wired := (s.trunk (trunkOf p)).signal = true ∧ (s.trunk (trunkOf p)).state = .present ∧ x.up = s.seatShouldBeUp p
    (∀ v, wired → x.up = false → ∃ u, reaches (.seatLinkIndicationChange p v) s u ∧ otherSeats s u p ∧ s.onlyChanges u [.spb]
      ∧ u.seat p = { x with indication := v, up := v.isSome && x.profile.enabled })
    ∧ (wired → x.up = true → ∃ u, reaches (.seatLinkIndicationChange p none) s u ∧ otherSeats s u p
      ∧ (u.seat p).up = false ∧ (u.seat p).indication = none ∧ (u.seat p).counts.linkDowns = bump x.counts.linkDowns
      ∧ (u.queue (.seat p)).entries = [] ∧ (∀ q, q ≠ .seat p → u.queue q = s.queue q) ∧ (Inv s → occupantLeaves s u p)
      ∧ s.onlyChanges u [.spb, .ct, .mc, .sau, .fs])
    ∧ (∀ v old, wired → x.indication = some old → (s.trunk (trunkOf p)).wire[positionOf p] = some old →
      ∃ u, reaches (.seatSpeedChange p v) s u ∧ u.seat p = { x with indication := some v } ∧ otherSeats s u p
        ∧ s.onlyChanges u [.spb])
    ∧ (x.activity = some 0 → ∃ u, reaches (.activityTimerExpiry p) s u ∧ u.seat p = { x with activity := none }
      ∧ otherSeats s u p ∧ s.onlyChanges u [.spb])
    ∧ (x.barredMark = some 0 → ∃ u, reaches (.barredFrameMarkExpiry p) s u ∧ u.seat p = { x with barredMark := none }
      ∧ otherSeats s u p ∧ s.onlyChanges u [.spb])

/-- R133: at the end of every event each seat's resolved output is the one that its inputs give. Under AUTO the effect is one that
the rule set gives to a condition that holds, none of those effects is stronger, and it is NONE when each of them is NONE; any other
force gives its own effect; an output that is not OFF has the carriage brightness as its duty. A load that falls to defaults makes
the default rule set and brightness current. QUERY_PORT reports the conditions, the force and the resolved output (R138), in the
widths of R223; that they stand at bytes 17 to 22, 31, and 32 and 33 of the answer rests on log entry 21 (DEDUCED, unsafe: two bytes
for a seat's queue length). -/
def Obligations.LampEffectIsTheStrongest : Prop :=
  (∀ (u : State) (p : SeatNo), (u.endEvent.seat p).resolved = u.endEvent.resolveLamp p)
  ∧ Effect.none.strength < Effect.steady.strength ∧ Effect.steady.strength < Effect.slow.strength
  ∧ Effect.slow.strength < Effect.fast.strength
  ∧ (∀ (r : LampRules) (c : LampConditions),
    let given := [(r.linkUp, c.linkUp), (r.clientAttached, c.clientAttached), (r.entitled, c.entitled), (r.parked, c.parked),
      (r.activity, c.activity), (r.lampBarred, c.lampBarred)]
    (strongestEffect r c = .none ∨ (strongestEffect r c, true) ∈ given)
      ∧ (∀ e, (e, true) ∈ given → e.strength ≤ (strongestEffect r c).strength)
      ∧ ((∀ e, (e, true) ∈ given → e = .none) → strongestEffect r c = .none))
  ∧ (∀ (s : State) (p : SeatNo),
    ((s.seat p).force = .auto → (s.resolveLamp p).effect = strongestEffect s.spb.rules (s.lampConditions p))
    ∧ ((s.seat p).force = .off → (s.resolveLamp p).effect = .none)
    ∧ ((s.seat p).force = .steady → (s.resolveLamp p).effect = .steady)
    ∧ ((s.seat p).force = .slow → (s.resolveLamp p).effect = .slow)
    ∧ ((s.seat p).force = .fast → (s.resolveLamp p).effect = .fast)
    ∧ (s.resolveLamp p).duty = (if (s.resolveLamp p).effect = .none then 0 else s.spb.brightness)
    ∧ field (s.seatAnswer p) 17 6 = (s.lampConditions p).bytes ∧ byteAt (s.seatAnswer p) 31 = (s.seat p).force.code
    ∧ field (s.seatAnswer p) 32 2 = [(s.seat p).resolved.effect.code, natByte (s.seat p).resolved.duty])
  ∧ ∀ s access, loadingAtStart s access → s.memory.settings = none → ∃ u, reaches (.settingsReadComplete access) s u
    ∧ u.spb.brightness = 12 ∧ u.spb.rules =
      { linkUp := .none, clientAttached := .steady, entitled := .steady, parked := .slow, activity := .none, lampBarred := .fast }

/-! ### Share accounting -/

/-- R89 to R92: at the refill the pending grant, if any, comes into force, the pool is filled, every record's credit is its class
allowance, OVER_SHARE is raised if its mark is set, and the timer starts again. With frames waiting the release pass runs: PREMIUM,
then STANDARD, then BASIC records, each class in Waiting List order, each record's frames oldest first until one costs more than the
credit or the pool; a frame the gateway queue refuses is dropped, counted and not charged, and the pass goes on; a record left with
nothing parked leaves the Waiting List. The one frame of a record that waits alone and can pay for it is sent. -/
def Obligations.RefillGivesAllowances : Prop :=
  ∀ (s : State) (inForce : Grant) (pend : Option Grant), s.resetLine = false → s.sau.state = .granted inForce pend →
    s.sau.refill = some 0 →
    let g := pend.getD inForce
    let started := fun (u : State) => u.sau.state = .granted g none ∧ u.sau.refill = some g.period ∧ u.sau.overShareMark = false
      ∧ u.raised .overShare = (if s.sau.overShareMark then bump (s.raised .overShare) else s.raised .overShare)
      ∧ u.sau.counts.refills = bump s.sau.counts.refills
      ∧ u.sau.counts.pendingTaken = (if pend.isSome then bump s.sau.counts.pendingTaken else s.sau.counts.pendingTaken)
    (s.sau.waiting = [] → ∃ u, reaches .refill s u ∧ started u ∧ u.sau.pool = g.pool
      ∧ (∀ n, u.record n = (s.record n).map fun r => { r with credit := g.allowance r.cls })
      ∧ s.onlyChanges u [.ct, .sau, .me])
    ∧ (Inv s → WaitingInv s → RefInv s →
      let ts := s.refillTurns g
      let port := Port.backbone g.gateway
      ∃ u, reaches .refill s u ∧ started u ∧ u.sau.pool = (ts.getLast?.map fun e => e.2.pool).getD g.pool
        ∧ (∀ e r, e ∈ ts → s.record e.1 = some r → u.record e.1 = some { r with
            credit := e.2.credit
            parked := e.2.kept
            charged := bumpBy r.charged (e.2.released.map fun k => frameCost (s.slotLength k)).sum })
        ∧ (∀ n, n ∉ ts.map Prod.fst → u.record n = (s.record n).map fun r => { r with credit := g.allowance r.cls })
        ∧ u.sau.waiting = s.sau.waiting.filter (fun n => !ts.any fun e => e.1 == n && e.2.kept.isEmpty)
        ∧ (u.queue port).entries =
            (s.queue port).entries ++ ((ts.flatMap fun e => e.2.released).map fun k => ({ slot := k } : Entry))
        ∧ (∀ q, q ≠ port → u.queue q = s.queue q)
        ∧ u.sau.counts.framesReleased = bumpBy s.sau.counts.framesReleased (ts.map fun e => e.2.released.length).sum
        ∧ u.sau.counts.gatewayFullDrops = bumpBy s.sau.counts.gatewayFullDrops (ts.map fun e => e.2.refused.length).sum
        ∧ (∀ k, u.refsOf k = s.refsOf k - (ts.map fun e => e.2.refused.count k).sum)
        ∧ s.onlyChanges u [.ct, .sau, .fs, .me])
    ∧ ∀ n r k, s.sau.waiting = [n] → s.record n = some r → r.parked = [k] → r.cls ≠ .service →
      frameCost (s.slotLength k) ≤ g.allowance r.cls → frameCost (s.slotLength k) ≤ g.pool →
      s.appendTest (.backbone g.gateway) false = none →
      ∃ u, reaches .refill s u ∧ started u ∧ u.sau.waiting = [] ∧ u.sau.pool = g.pool - frameCost (s.slotLength k)
        ∧ u.record n = some { r with
            credit := g.allowance r.cls - frameCost (s.slotLength k)
            parked := []
            charged := bumpBy r.charged (frameCost (s.slotLength k)) }
        ∧ joins s u (.backbone g.gateway) [{ slot := k }] ∧ u.fs.slots = s.fs.slots
        ∧ u.sau.counts.framesReleased = bump s.sau.counts.framesReleased ∧ s.onlyChanges u [.ct, .sau, .fs, .me]

/-- R77 to R79: GRANT_SHARE from the SHARE holder, its gateway side COUPLED. In UPLINK_HELD it is applied at once: pool, timer and
every credit; in UPLINK_GRANTED it becomes the pending grant and nothing else of the period changes. A gateway that is not COUPLED
or a field outside its range gets BAD_ARGUMENT. -/
def Obligations.GrantAppliedOrPended : Prop :=
  ∀ (s : State) (h : ReqHeader) (pool : Word) (period basic standard premium : Half) (gateway : Byte), s.takes h →
    (s.rolesHeld h.station).share = true →
    let q := Request.grantShare pool period basic standard premium gateway
    let bad := ∃ u, served s h q u ∧ u.answers h q .badArgument [] ∧ s.requestOnly u h []
    (1048575 < pool.toNat ∨ period.toNat < 1 ∨ 1000 < period.toNat ∨ 1 < gateway.toNat → bad)
    ∧ (∀ side, sideOf gateway = some side → s.coupled side = false → bad)
    ∧ ∀ side, pool.toNat ≤ 1048575 → 1 ≤ period.toNat → period.toNat ≤ 1000 → sideOf gateway = some side →
      s.coupled side = true →
      let g : Grant :=
        { pool := pool.toNat, period := period.toNat, basic := basic.toNat, standard := standard.toNat,
          premium := premium.toNat, gateway := side }
      (s.sau.state = .held → ∃ u, served s h q u ∧ u.answers h q .ok [0]
        ∧ u.sau = { s.sau with
            state := .granted g none, pool := g.pool, refill := some g.period, overShareMark := false
            counts := { s.sau.counts with grantsApplied := bump s.sau.counts.grantsApplied } }
        ∧ (∀ n, u.record n = (s.record n).map fun r => { r with credit := g.allowance r.cls })
        ∧ s.requestOnly u h [.ct, .sau])
      ∧ (∀ inForce pend, s.sau.state = .granted inForce pend → ∃ u, served s h q u ∧ u.answers h q .ok [1]
        ∧ u.sau = { s.sau with
            state := .granted inForce (some g)
            counts := { s.sau.counts with
              grantsPended := bump s.sau.counts.grantsPended
              pendingReplaced := if pend.isSome then bump s.sau.counts.pendingReplaced else s.sau.counts.pendingReplaced } }
        ∧ s.requestOnly u h [.sau])

/-! ### Entitlements -/

/-- R103, R104 and R110: ENTITLE from the ENTITLE holder writes the entry of its address and leaves every other; the response tells
what was replaced; a record of the address takes the class, or is removed by a bar, with DROP on its READY link (R26). A record that
becomes SERVICE has its parked frames released uncharged and leaves the Waiting List (R95), and its idle timer stops; one that was
SERVICE starts it afresh, and any other keeps it running (R24). A full list refuses a new address; an address that no client can have,
a kind outside the four, or more than 1440 minutes gets BAD_ARGUMENT. That a request to the all-cabinets or group address is appended
for transit before it is carried out is log entry 48. That the response gives 0 as the minutes of a replaced journey-long entry is log entry 44 (DEDUCED, unsafe). -/
def Obligations.EntitleWritesTheList : Prop :=
  ∀ (s : State) (h : ReqHeader) (x : Addr) (kind : Byte) (minutes : Half), Inv s → s.takes h →
    (s.rolesHeld h.station).entitle = true →
    let q := Request.entitle x kind minutes
    (badClientAddr x = true ∨ kindOf kind = none ∨ 1440 < minutes.toNat →
      ∃ u, served s h q u ∧ u.answers h q .badArgument [] ∧ s.requestOnly u h [])
    ∧ ∀ k : Kind, kindOf kind = some k → minutes.toNat ≤ 1440 → badClientAddr x = false →
      ((s.entryOf x).isSome = true ∨ s.el.entries.length < 256 → ∃ u, served s h q u
        ∧ u.answers h q .ok (entitleAnswer (s.entryOf x) (s.byAddr x) k)
        ∧ u.entryOf x = some
            { addr := x, kind := k, minutes := if minutes = 0 then none else some minutes.toNat, station := h.station }
        ∧ (∀ y, y ≠ x → u.entryOf y = s.entryOf y)
        ∧ (∀ n r, s.owns x n r → k = .barred → u.record n = none ∧ otherRecords s u n ∧ n ∉ u.sau.waiting
          ∧ u.ct.counts.evictions = bump s.ct.counts.evictions
          ∧ ∀ c a, r.st.place = some (.ceiling c a) → (s.link c).state = .ready → toldRadio u c (.drop a))
        ∧ (∀ n r, s.owns x n r → k ≠ .barred → (u.record n).map Record.cls = some k.cls ∧ otherRecords s u n
          ∧ s.takesClass u h n r k.cls ∧ s.onlyChanges u [.fs, .me, .el, .ct, .sau])
        ∧ (s.byAddr x = none → u.ct = s.ct) ∧ u.el.minute = s.el.minute)
      ∧ (s.entryOf x = none → 256 ≤ s.el.entries.length → ∃ u, served s h q u ∧ u.answers h q .listFull []
        ∧ u.el = { s.el with counts := { s.el.counts with listFull := bump s.el.counts.listFull } }
        ∧ s.requestOnly u h [.el])

/-- R105, R106 and R26: REVOKE removes the entry of its address and answers with it, or NOT_FOUND; JOURNEY_END keeps the SERVICE
entries alone and answers how many went; a record that loses its entitlement becomes BASIC; EVICT, from the ENTITLE holder or the
CABINET holder, makes the record of its address VACANT, with DROP on its link, or NOT_FOUND. That REVOKE answers 0 as the minutes of a
journey-long entry is log entry 44 (DEDUCED, unsafe). -/
def Obligations.RevokeJourneyEndAndEvict : Prop :=
  ∀ (s : State) (h : ReqHeader), Inv s → s.takes h →
    let entitles := (s.rolesHeld h.station).entitle = true
    let evicts := entitles ∨ (s.rolesHeld h.station).cabinet = true
    (∀ x e, entitles → s.entryOf x = some e → ∃ u, served s h (.revoke x) u ∧ u.answers h (.revoke x) .ok e.bytes
      ∧ u.el.entries = s.el.entries.filter (fun d => d.addr != x) ∧ u.el.counts.revoked = bump s.el.counts.revoked
      ∧ (∀ n r, s.owns x n r → e.kind ≠ .barred → (u.record n).map Record.cls = some .basic ∧ otherRecords s u n)
      ∧ (e.kind = .barred → u.ct = s.ct ∧ u.el.counts.barsLifted = bump s.el.counts.barsLifted))
    ∧ (∀ x, entitles → s.entryOf x = none → ∃ u, served s h (.revoke x) u ∧ u.answers h (.revoke x) .notFound []
      ∧ s.requestOnly u h [])
    ∧ (entitles → ∃ u, served s h .journeyEnd u
      ∧ u.answers h .journeyEnd .ok (beBytes 2 (s.el.entries.countP fun e => e.kind != .service))
      ∧ u.el.entries = s.el.entries.filter (fun e => e.kind == .service)
      ∧ (∀ e n r, e ∈ s.el.entries → e.kind = .standard ∨ e.kind = .premium → s.owns e.addr n r →
          (u.record n).map Record.cls = some .basic))
    ∧ (∀ x n r, evicts → s.owns x n r → ∃ u, served s h (.evict x) u ∧ u.answers h (.evict x) .ok [] ∧ u.record n = none
      ∧ otherRecords s u n ∧ n ∉ u.sau.waiting ∧ u.ct.counts.evictions = bump s.ct.counts.evictions
      ∧ (∀ c a, r.st.place = some (.ceiling c a) → (s.link c).state = .ready → toldRadio u c (.drop a))
      ∧ s.onlyChanges u [.ct, .sau, .mc, .fs, .spb, .clb, .me])
    ∧ (∀ x, evicts → s.byAddr x = none → ∃ u, served s h (.evict x) u ∧ u.answers h (.evict x) .notFound []
      ∧ s.requestOnly u h [])

/-- R108: at the minute timer's expiry every timed entry loses a minute, an entry at 0 is removed and counted, the timer is set
again to 60,000 ticks, and a removed entry's record becomes BASIC. -/
def Obligations.MinuteTimerExpires : Prop :=
  ∀ s : State, s.resetLine = false → s.el.minute = some 0 →
    ∃ u, reaches .minuteTimerExpiry s u ∧ u.el.minute = some 60000
      ∧ u.el.entries = (s.el.entries.map Entitlement.minuteLater).filter (fun e => e.minutes != some 0)
      ∧ u.el.counts.expired =
          bumpBy s.el.counts.expired ((s.el.entries.map Entitlement.minuteLater).countP fun e => e.minutes == some 0)
      ∧ (∀ e n r, e ∈ s.el.entries → e.minutes = some 1 → e.kind ≠ .barred → s.owns e.addr n r →
          (u.record n).map Record.cls = some .basic)
      ∧ s.onlyChanges u [.el, .ct, .sau, .fs]

/-! ### Coupling -/

/-- R225, with R171's treatment of a page: fewer than 9 bytes is malformed whatever its check; a check that disagrees is a page
error counted into the check-error window; with a check that agrees, a length other than 9, a fault code above 3 or a mark that is
neither 0 nor 1 is malformed, a page error not counted into the window; any other page is valid, vehicle number 0 included, and sets
the silence timer and the received items (R171). The part makes every page of its vehicle number, own fault, match mark and check.
That the window's count stays at 65,535 is log entry 26. -/
def Obligations.PagesAreReadAndMade : Prop :=
  (∀ (s : State) (side : Side) (page : Bytes), s.resetLine = false → (s.side side).pagingHeld = false →
    let b := s.side side
    let go := fun u => reaches (.pageArrival side page) s u
    let agrees := field page 5 4 = beBytes 4 (crc32 (page.take 5)).toNat
    let malformed := ∃ u, go u ∧ u.side side = { b with counts := { b.counts with pageErrors := bump b.counts.pageErrors } }
      ∧ u.side (otherSide side) = s.side (otherSide side) ∧ s.onlyChanges u [.cu]
    (page.length < 9 → malformed)
    ∧ (9 ≤ page.length → ¬ agrees → ∃ u, go u ∧ (u.side side).counts.pageErrors = bump b.counts.pageErrors
        ∧ (u.side side).errorCount = moreErrors b.errorCount ∧ (u.side side).rx = b.rx
        ∧ (u.side side).counts.pagesReceived = b.counts.pagesReceived)
    ∧ (9 ≤ page.length → agrees → page.length ≠ 9 ∨ 3 < (byteAt page 3).toNat ∨ 1 < (byteAt page 4).toNat → malformed)
    ∧ (∀ fault, page.length = 9 → agrees → faultOf (byteAt page 3) = some fault → (byteAt page 4).toNat ≤ 1 →
      ∃ u, go u ∧ (u.side side).counts.pagesReceived = bump b.counts.pagesReceived
        ∧ (u.side side).counts.pageErrors = b.counts.pageErrors ∧ (u.side side).errorCount = b.errorCount
        ∧ (u.side side).silence = some 50
        ∧ (u.side side).rx = some { vehicle := beNat (field page 0 3), fault := fault, mark := byteAt page 4 == 1 }))
  ∧ ∀ (s : State) (side : Side),
    s.ownPage side = beBytes 3 s.cu.vehicle ++ [(s.side side).ownFault.code, if (s.side side).matchCount = 3 then 1 else 0]
      ++ beBytes 4 (crc32 (beBytes 3 s.cu.vehicle
          ++ [(s.side side).ownFault.code, if (s.side side).matchCount = 3 then 1 else 0])).toNat

/-- R174: the coupling state of each port is the one its items give, and every step keeps this. -/
def Obligations.CouplingStateIsDerived : Prop :=
  (∀ side, (State.reset.side side).state = (State.reset.side side).derive)
  ∧ (∀ (s t : State), (∀ side, (s.side side).state = (s.side side).derive) → step s = .next t →
      ∀ side, (t.side side).state = (t.side side).derive)
  ∧ ∀ b : Backbone,
      (b.rx = none → b.derive = .decoupled)
      ∧ ∀ rx, b.rx = some rx →
        (b.ownFault ≠ .none ∨ rx.fault ≠ .none → b.derive = .faulted)
        ∧ (b.ownFault = .none → rx.fault = .none → b.matchCount = 3 → rx.mark = true → b.derive = .coupled)
        ∧ (b.ownFault = .none → rx.fault = .none → b.matchCount ≠ 3 ∨ rx.mark = false → b.derive = .paging)

/-- R170 to R174: what a valid page does to a port, `b` standing as R174 derives it. From DECOUPLED a page without fault, of a
number that is not the part's own, takes it to PAGING with a match count of 1, and a page of its own goes out; a number 0 or the
part's own makes COUPLING_ERROR and FAULTED; the third like page with the mark makes it COUPLED, which changes the coupled set. -/
def Obligations.PagesCouple : Prop :=
  ∀ (s : State) (side : Side) (v : Nat) (mark : Bool), s.resetLine = false → (s.side side).pagingHeld = false →
    v ≤ 16777215 →
    let b := s.side side
    let go := fun u => reaches (.pageArrival side (pageBytes v .none mark)) s u
    let heard := fun (u : State) => (u.side side).rx = some { vehicle := v, fault := .none, mark := mark }
      ∧ (u.side side).silence = some 50 ∧ u.side (otherSide side) = s.side (otherSide side)
    (b.state = .decoupled → b.ownFault = .none → b.matchCount = 0 → b.matched = none → v ≠ 0 → v ≠ s.cu.vehicle →
      ∃ u, go u ∧ heard u ∧ (u.side side).state = .paging ∧ (u.side side).matchCount = 1 ∧ (u.side side).matched = some v
        ∧ (u.side side).page = some 10 ∧ u.ev.pages = [side] ∧ pageMade u.endEvent side (u.endEvent.ownPage side)
        ∧ u.cu.epoch = s.cu.epoch ∧ u.sau = s.sau
        ∧ s.onlyChanges u [.cu])
    ∧ (b.state = .paging → b.ownFault = .none → v = 0 ∨ v = s.cu.vehicle →
      ∃ u, go u ∧ heard u ∧ (u.side side).state = .faulted ∧ (u.side side).ownFault = .couplingError
        ∧ (u.side side).matchCount = 0 ∧ (u.side side).matched = none
        ∧ u.raised .couplingFault = bump (s.raised .couplingFault)
        ∧ (u.side side).counts.faultsEntered = bump b.counts.faultsEntered ∧ s.onlyChanges u [.cu, .me])
    ∧ (b.state = .paging → b.ownFault = .none → b.matchCount = 2 → b.matched = some v → v ≠ 0 → v ≠ s.cu.vehicle →
      mark = true →
      ∃ u, go u ∧ heard u ∧ (u.side side).state = .coupled ∧ (u.side side).matchCount = 3
        ∧ (u.side side).counts.couplings = bump b.counts.couplings ∧ u.cu.epoch = s.cu.epoch + 1
        ∧ u.sau.state = .held ∧ u.me.stations = [])
    ∧ (b.state = .coupled → b.ownFault = .none → b.matchCount = 3 → b.matched = some v → v ≠ 0 → v ≠ s.cu.vehicle →
      mark = true →
      ∃ u, go u ∧ heard u ∧ (u.side side).state = .coupled ∧ (u.side side).matchCount = 3 ∧ u.cu.epoch = s.cu.epoch
        ∧ u.sau = s.sau ∧ u.me = s.me ∧ s.onlyChanges u [.cu])

/-- R96, R178, R181, R182 and R205, at the silence of a COUPLED port: the port is DECOUPLED and its queue discarded; the epoch
advances; the Share Accounting Unit is held, with no pool, no credit and nothing parked; each station on the other side, while that
is COUPLED, gets its final notice with HOLD, lost exactly when the slots that the event's discards leave free, or the room on that
side, are used up by the notices before it (R49); and the Station Table is empty. -/
def Obligations.CoupledSetChange : Prop :=
  ∀ (s : State) (side : Side), Inv s → s.resetLine = false → (s.side side).state = .coupled → (s.side side).silence = some 0 →
    ∃ u, reaches (.silenceTimerExpiry side) s u
      ∧ (u.side side).state = .decoupled ∧ (u.side side).rx = none ∧ (u.side side).matchCount = 0
      ∧ (u.side side).matched = none ∧ (u.side side).silence = none ∧ (u.side side).page = some 100
      ∧ (u.side side).counts.silences = bump (s.side side).counts.silences
      ∧ u.side (otherSide side) = s.side (otherSide side)
      ∧ u.cu.epoch = s.cu.epoch + 1 ∧ u.cu.setChanges = bump s.cu.setChanges
      ∧ (u.queue (.backbone side)).entries = []
      ∧ u.sau.state = .held ∧ u.sau.pool = 0 ∧ u.sau.refill = none ∧ u.sau.overShareMark = false ∧ u.sau.waiting = []
      ∧ u.sau.counts.holdEntries = bump s.sau.counts.holdEntries
      ∧ (∀ n, u.record n = (s.record n).map fun r => { r with credit := 0, parked := [] })
      ∧ u.me.stations = []
      ∧ (∀ st, st ∈ s.me.stations → st.side = otherSide side → s.coupled (otherSide side) = true →
          ∃ pending lost, Composed.notice st.addr st.side true st.number (s.cu.epoch + 1) pending lost ∈ u.ev.composed
            ∧ (∀ c, c ∈ st.pending → c ∈ pending)
            ∧ (lost = false → frameQueued u (.backbone st.side)
                (managementFrame st.addr s.me.addressing.cabinet noticeKind noticeCode 0 1 st.number (s.cu.epoch + 1)
                  (beBytes 2 (causeSetNat pending)))))
      ∧ lossesAgree (u.freeSlots + u.ev.composed.countP fun d => !d.isLost) s.backboneRoom u.ev.composed
      ∧ u.fs.counts.composedLost = bumpBy s.fs.counts.composedLost (u.ev.composed.countP Composed.isLost)
      ∧ s.onlyChanges u [.cu, .sau, .ct, .me, .fs]

/-- R170, R176, R177, R178 and R179: the page timer's expiry makes a page and is set again; the silence of a port that is not
COUPLED leaves the coupled set alone; the check-error window ends and begins; a link failure ends and the state is derived again;
and PORT_OFFLINE sets and lifts the own fault OFFLINE, the setting in force repeated changing nothing. -/
def Obligations.BackboneTimersAndOffline : Prop :=
  ∀ (s : State) (side : Side), s.resetLine = false →
    let b := s.side side
    let other := fun (u : State) => u.side (otherSide side) = s.side (otherSide side)
    (b.page = some 0 → b.pagingHeld = false → ∃ u, reaches (.pageTimerExpiry side) s u
      ∧ pageMade u side (s.ownPage side)
      ∧ (u.side side).page = some (if b.state = .decoupled then 100 else 10) ∧ (u.side side).state = b.state ∧ other u
      ∧ s.onlyChanges u [.cu, .fs])
    ∧ (b.silence = some 0 → b.state = .paging → ∃ u, reaches (.silenceTimerExpiry side) s u
      ∧ u.side side = { b with
          state := .decoupled, rx := none, matchCount := 0, matched := none, silence := none, page := some 100
          ownFault := if b.ownFault = .couplingError then .none else b.ownFault
          counts := { b.counts with silences := bump b.counts.silences } }
      ∧ other u ∧ u.cu.epoch = s.cu.epoch ∧ s.onlyChanges u [.cu])
    ∧ (b.errorWindow = some 0 → ∃ u, reaches (.checkErrorWindowEnd side) s u
      ∧ u.side side = { b with errorCount := 0, errorWindow := some 100 } ∧ other u ∧ s.onlyChanges u [.cu])
    ∧ (∀ rx, b.linkFailure = some 0 → b.state = .faulted → b.rx = some rx → b.matchCount = 0 →
      ∃ u, reaches (.linkFailureTimerExpiry side) s u
      ∧ u.side side = { b with
          ownFault := .none, linkFailure := none, state := if rx.fault = .none then .paging else .faulted }
      ∧ other u ∧ s.onlyChanges u [.cu])
    ∧ ∀ h, s.takes h → (s.rolesHeld h.station).cabinet = true → b.state = b.derive → b.state ≠ .coupled →
      let setting := fun (v : Byte) => Request.portOffline (sideCode side) v
      (b.offline = false → ∃ u, served s h (setting 1) u ∧ u.answers h (setting 1) .ok [] ∧ other u
        ∧ (u.side side).offline = true ∧ (u.side side).ownFault = .offline ∧ (u.side side).matchCount = 0
        ∧ (u.side side).linkFailure = none
        ∧ (u.side side).state = (if b.rx = none then .decoupled else .faulted) ∧ s.requestOnly u h [.cu])
      ∧ (b.offline = true → b.ownFault = .offline → b.matchCount = 0 → ∃ u, served s h (setting 0) u
        ∧ u.answers h (setting 0) .ok [] ∧ other u ∧ (u.side side).offline = false ∧ (u.side side).ownFault = .none
        ∧ (u.side side).state = (match b.rx with
            | none => .decoupled
            | some rx => if rx.fault = .none then .paging else .faulted) ∧ s.requestOnly u h [.cu])
      ∧ (∃ u, served s h (setting (boolByte b.offline)) u ∧ u.answers h (setting (boolByte b.offline)) .ok []
        ∧ s.requestOnly u h [])

/-! ### Stations and settings -/

/-- R193, R194 and R204: ENROL of a new station writes its entry; of an enrolled one it adds the roles, sets the threshold and the
enrolment epoch, and keeps the rest of the entry; a role of another station's gets ROLE_HELD with its holder (several in the order of
log entry 47), an empty set of a new station or a field outside its values BAD_ARGUMENT. RELEASE_ROLES answers what is left and an
entry with no role goes; a role outside the three gets BAD_ARGUMENT. CLEAR_CAUSES of an enrolled station removes the named causes from
its pending set; an empty list, a cause outside the eleven or one named twice gets BAD_ARGUMENT. -/
def Obligations.StationsEnrolReleaseAndClear : Prop :=
  ∀ (s : State) (h : ReqHeader) (roles threshold : Byte), Inv s → s.takes h →
    let q := Request.enrol roles threshold
    let badArgument := fun (q : Request) => ∃ u, served s h q u ∧ u.answers h q .badArgument [] ∧ s.requestOnly u h []
    (8 ≤ roles.toNat ∨ 7 < threshold.toNat → badArgument q)
    ∧ (∀ wanted, rolesOf roles = some wanted → threshold.toNat ≤ 7 →
      (s.stationAt h.station = none → wanted.isEmpty = true → badArgument q)
      ∧ (s.stationAt h.station = none → wanted.isEmpty = false → s.heldByOthers h.station wanted = [] →
        s.me.stations.length < 4 → ∃ u, served s h q u ∧ u.answers h q .ok [roles]
        ∧ u.stationAt h.station = some
            { addr := h.station, side := h.side, roles := wanted, threshold := threshold.toNat, pending := [], spacing := none,
              due := false, number := 0, epoch := s.cu.epoch }
        ∧ u.me.stations.length = s.me.stations.length + 1 ∧ s.onlyChanges u [.fs, .me])
      ∧ (s.heldByOthers h.station wanted ≠ [] → wanted.isEmpty = false → ∃ u, served s h q u
        ∧ u.answers h q .roleHeld ((s.heldByOthers h.station wanted).flatMap fun e => e.1.code :: addrBytes e.2)
        ∧ s.requestOnly u h [])
      ∧ ∀ st, s.stationAt h.station = some st → s.heldByOthers h.station wanted = [] → ∃ u, served s h q u
        ∧ u.answers h q .ok [(st.roles.union wanted).code] ∧ (u.rolesHeld h.station) = st.roles.union wanted
        ∧ (u.stationAt h.station).map Station.threshold = some threshold.toNat
        ∧ (u.stationAt h.station).map Station.side = some h.side
        ∧ (u.stationAt h.station).map Station.epoch = some s.cu.epoch
        ∧ (u.stationAt h.station).map Station.number = some st.number
        ∧ (u.stationAt h.station).map Station.spacing = some st.spacing
        ∧ (∀ c, c ∈ st.pending → (u.stationAt h.station).any (fun t => t.pending.contains c) = true)
        ∧ (∀ y, y ≠ h.station → u.rolesHeld y = s.rolesHeld y) ∧ s.onlyChanges u [.fs, .me])
    ∧ (8 ≤ roles.toNat → badArgument (.releaseRoles roles))
    ∧ (∀ named, rolesOf roles = some named → ∃ u, served s h (.releaseRoles roles) u
      ∧ u.answers h (.releaseRoles roles) .ok [((s.rolesHeld h.station).minus named).code]
      ∧ u.rolesHeld h.station = (s.rolesHeld h.station).minus named
      ∧ (((s.rolesHeld h.station).minus named).isEmpty = true → u.stationAt h.station = none)
      ∧ (∀ y, y ≠ h.station → u.rolesHeld y = s.rolesHeld y) ∧ s.onlyChanges u [.fs, .me])
    ∧ (∀ causes, (s.stationAt h.station).isSome = true → causes.length ≤ 11 →
      causes = [] ∨ (∃ c ∈ causes, c = 0 ∨ 11 < c.toNat) ∨ ¬ causes.Nodup → badArgument (.clearCauses causes))
    ∧ ∀ causes cs st, causesOf causes = some cs → causes.length ≤ 11 → cs ≠ [] → cs.Nodup → s.stationAt h.station = some st →
      ∃ u, served s h (.clearCauses causes) u ∧ (∀ c, c ∈ cs → (u.stationAt h.station).all (fun t => !t.pending.contains c) = true)
        ∧ (∀ c, c ∉ cs → c ∈ st.pending → (u.stationAt h.station).any (fun t => t.pending.contains c) = true)
        ∧ u.answers h (.clearCauses causes) .ok
            (beBytes 2 (causeSetNat (((u.stationAt h.station).map Station.pending).getD [])))
        ∧ s.onlyChanges u [.fs, .me]

/-- R190, R191 and R197. A frame handed to the engine that fails a test of R190 is discarded with its counter and no response; any
other is a request, taken and counted, and a station's entry takes the side it arrived on. A code that no request has is answered
UNKNOWN_REQUEST, and a status field that is not OK, or arguments that are not those of the code, BAD_FORMAT, each with its counter.
A request whose role its station does not hold by the table of R197 is answered NOT_HOLDER, an EVICT from a station that holds neither
of its two roles and a CLEAR_CAUSES from one without an entry among them; and a SET_PROFILE while the unit is LOADING is answered BUSY,
with no other effect but the counters; RELOAD_SETTINGS and STORE_SETTINGS while the unit is at work are answered BUSY. An ENROL that
would make a fifth entry is answered STATION_TABLE_FULL (R193); with three roles and no entry without one, R192 leaves no run that
comes to it. -/
def Obligations.RequestsRefused : Prop :=
  (∀ (s : State) (side : Side) (frame : Bytes), s.acceptsFrame side frame → s.handsOver frame →
    let go := fun u => reaches (.backboneFrameArrival side frame) s u
    let h : ReqHeader :=
      { side := side, dest := .cabinet, station := frameSrc frame, tag := halfAt frame 19, epoch := halfAt frame 21 }
    let refused := fun (u : State) (status : Status) =>
      u.ev.responses = [{ station := frameSrc frame, side := side, long := false, code := byteAt frame 16, tag := halfAt frame 19,
                          status := status, args := [] }]
        ∧ u.me.counts.requests = bump s.me.counts.requests ∧ u.me.counts.discarded = s.me.counts.discarded
        ∧ u.me.stations.map Station.side =
            s.me.stations.map (fun st => if st.addr = frameSrc frame then side else st.side)
        ∧ s.requestOnly u h []
    let known := ∃ q : Request, q.code = byteAt frame 16
    (¬ s.isRequest frame → ∃ u, go u ∧ u.ev.responses = [] ∧ u.me.counts.discarded = bump s.me.counts.discarded
      ∧ u.me.counts.requests = s.me.counts.requests ∧ u.me.stations.map Station.side = s.me.stations.map Station.side
      ∧ s.requestOnly u h [])
    ∧ (s.isRequest frame → ¬ known → ∃ u, go u ∧ refused u .unknownRequest
      ∧ u.me.counts.unknown = bump s.me.counts.unknown ∧ u.me.counts.badFormat = s.me.counts.badFormat)
    ∧ (s.isRequest frame → known → badArguments frame → ∃ u, go u ∧ refused u .badFormat
      ∧ u.me.counts.badFormat = bump s.me.counts.badFormat ∧ u.me.counts.unknown = s.me.counts.unknown))
  ∧ ∀ (s : State) (h : ReqHeader) (q : Request), s.takes h → q.inFormat = true →
    let roles := s.rolesHeld h.station
    let needs := fun (holds : Bool) => holds = false → ∃ u, served s h q u ∧ u.answers h q .notHolder []
      ∧ u.me.counts.notHolder = bump s.me.counts.notHolder ∧ s.requestOnly u h []
    (match q with
      | .grantShare _ _ _ _ _ _ => needs roles.share
      | .entitle _ _ _ | .revoke _ | .journeyEnd => needs roles.entitle
      | .evict _ => needs (roles.entitle || roles.cabinet)
      | .setProfile _ _ | .setLamp _ _ _ _ | .setLevels _ | .setTiming _ _ _ | .setAddressing _ _ _ _ | .setIdentity _
      | .portOffline _ _ | .relaySetting _ _ _ _ | .storeSettings | .reloadSettings | .cabinetReset => needs roles.cabinet
      | .readCounters _ _ clear => clear = 1 → needs roles.cabinet
      | .clearCauses _ => needs (s.stationAt h.station).isSome
      | .enrol _ _ | .releaseRoles _ | .queryCabinet | .queryClient _ | .listClients _ | .queryPort _ _ | .queryLink _ => True)
    ∧ (∀ port profile, q = .setProfile port profile → (s.rolesHeld h.station).cabinet = true → s.sl.unit = .loading →
      ∃ u, served s h q u ∧ u.answers h q .busy [] ∧ s.requestOnly u h [])
    ∧ (q = .reloadSettings ∨ q = .storeSettings → (s.rolesHeld h.station).cabinet = true → s.sl.unit ≠ .idle →
      ∃ u, served s h q u ∧ u.answers h q .busy []
        ∧ u.sl = { s.sl with counts := { s.sl.counts with busyRefusals := bump s.sl.counts.busyRefusals } }
        ∧ s.requestOnly u h [.sl])
    ∧ (∀ roles threshold wanted, q = .enrol roles threshold → rolesOf roles = some wanted → threshold.toNat ≤ 7 →
      s.stationAt h.station = none → wanted.isEmpty = false → s.heldByOthers h.station wanted = [] → 4 ≤ s.me.stations.length →
      ∃ u, served s h q u ∧ u.answers h q .stationTableFull [] ∧ s.requestOnly u h [])

/-- R201 and R202: a raise enters the cause once into every pending set and makes due each entry whose threshold is below its level;
the spacing timer's expiry leaves the due mark exactly when a pending cause's level exceeds the threshold; no event ends with an
entry due whose spacing timer is stopped; and at the end of an event that brings no reset every entry that is due with its spacing
timer stopped has an ordinary notice composed, with its number, the epoch and all that is pending, which joins the queue of the
station's side or is lost, and in either case advances the number and starts the spacing (R203). It is lost exactly when the frames
kept before it at that end of event have left no slot free or its side's queue no room (R49).

Three clauses are the model's choice and no rule's. That a raise compares levels and thresholds as they stood when the event began is
log entry 12 (DEDUCED, unsafe). That the table is looked at again after a notice whose own claim raises STORE_LOW, so that no event
ends with an entry due and its spacing timer stopped, is log entry 11 (DEDUCED, unsafe). That the slot of the event's own request still
counts as in use, in `u.freeSlots`, when a notice claims its slot, is log entry 6 (DEDUCED, unsafe). -/
def Obligations.NoticesGoOut : Prop :=
  (∀ (s : State) (c : Cause), (s.raise c).raised c = bump (s.raised c)
    ∧ (s.raise c).me.stations.map Station.addr = s.me.stations.map Station.addr
    ∧ ∀ t, t ∈ (s.raise c).me.stations → ∃ st, st ∈ s.me.stations ∧ t.addr = st.addr ∧ c ∈ t.pending
      ∧ (∀ d, d ∈ st.pending → d ∈ t.pending) ∧ (c ∈ st.pending → t = st)
      ∧ (c ∉ st.pending →
          t.due = (st.due || decide (thresholdFor s.ev.thresholds st < s.ev.levels[c.index]))))
  ∧ (∀ (s : State) (st : Station), Inv s → s.resetLine = false → st ∈ s.me.stations → st.spacing = some 0 →
    ∃ u, reaches (.spacingTimerExpiry st.addr) s u ∧ u.stationAt st.addr = some
        { st with
          spacing := none
          due := st.due && st.pending.any fun c => decide (st.threshold < s.me.levels[c.index]) }
      ∧ (∀ y, y ≠ st.addr → u.stationAt y = s.stationAt y) ∧ s.onlyChanges u [.me])
  ∧ (∀ u : State, Inv u → u.noResetComing → ∀ st, st ∈ u.endEvent.me.stations → st.due = true → st.spacing ≠ none)
  ∧ ∀ u : State, Inv u → u.noResetComing → ∃ composed, u.endEvent.ev.composed = u.ev.composed ++ composed
    ∧ lossesAgree u.freeSlots u.backboneRoom composed
    ∧ ∀ st, st ∈ u.me.stations → st.due = true → st.spacing = none →
      ∃ pending lost, Composed.notice st.addr st.side false st.number u.cu.epoch pending lost ∈ composed
        ∧ (∀ c, c ∈ st.pending → c ∈ pending)
        ∧ (u.endEvent.stationAt st.addr).map Station.number = some (st.number + 1)
        ∧ (u.endEvent.stationAt st.addr).map Station.spacing = some (some 20)
        ∧ (lost = false → frameQueued u.endEvent (.backbone st.side)
            (managementFrame st.addr u.me.addressing.cabinet noticeKind noticeCode 0 0 st.number u.cu.epoch
              (beBytes 2 (causeSetNat pending))))

/-- R122, R126, R151 and R137: SET_PROFILE replaces a seat's profile, taking the seat DOWN or UP by its enabled field and discarding
its queue when it enters loopback; a seat that goes DOWN by it sends its occupant to LINGERING, a MOVING one losing its target (R20,
R68), and any other keeps it. Or it replaces a ceiling link's and is answered OK: a READY link that it disables goes UNREADY, what is
placed on the link lingers, and the moves away from it complete (R19, R63); the link's queue is discarded, its exchange ends with
LINK_DOWN, its survey is abandoned and CEILING_LINK_LOSS is raised (R143). Any other leaves every record, the relay, the survey and the
queue as they were. A field or a port outside its values gets BAD_ARGUMENT and changes nothing. That the response of the ended exchange
stands before the request's own is log entry 30. -/
def Obligations.ProfilesAreReplaced : Prop :=
  ∀ (s : State) (h : ReqHeader) (port : Byte), s.takes h → (s.rolesHeld h.station).cabinet = true → s.sl.unit ≠ .loading →
    (∀ f p profile, seatOf port = some p → seatProfileOf f = some profile → (s.seat p).up = s.seatShouldBeUp p →
      ∃ u, served s h (.setProfile port (.seat f)) u ∧ u.answers h (.setProfile port (.seat f)) .ok []
        ∧ (u.seat p).profile = profile ∧ (u.seat p).indication = (s.seat p).indication
        ∧ (u.seat p).up = ((s.trunk (trunkOf p)).state == .present && (s.seat p).indication.isSome && profile.enabled)
        ∧ ((s.seat p).up = true → profile.enabled = false ∨ (profile.loopback = true ∧ (s.seat p).profile.loopback = false) →
            (u.queue (.seat p)).entries = [])
        ∧ ((s.seat p).up = true → profile.enabled = false → Inv s → occupantLeaves s u p)
        ∧ ((s.seat p).up = false ∨ profile.enabled = true → u.ct = s.ct ∧ u.mc = s.mc)
        ∧ otherSeats s u p)
    ∧ (∀ f c profile, linkOf port = some c → ceilingProfileOf f = some profile →
      ∃ u, served s h (.setProfile port (.ceiling f)) u
        ∧ (u.link c).profile = profile ∧ otherLinks s u c
        ∧ (let x := s.link c
          let goes := x.state = .ready ∧ profile.enabled = false
          (u.link c).state = (if goes then .unready else x.state)
          ∧ (¬ goes → u.answers h (.setProfile port (.ceiling f)) .ok [] ∧ u.link c = { x with profile := profile }
            ∧ s.requestOnly u h [.clb])
          ∧ (goes → u.ev.responses = (x.relay.toList.map fun r =>
              { station := r.station, side := r.side, long := true, code := relayCode, tag := r.tag, status := .linkDown,
                args := [linkByte c, r.item] }) ++ [ownResponse h (.setProfile port (.ceiling f)) .ok []]
            ∧ u.link c = { x with
                profile := profile, state := .unready, relay := none, window := none, survey := none
                counts := { x.counts with
                  linkLosses := bump x.counts.linkLosses
                  relaysLinkDown := if x.relay.isSome then bump x.counts.relaysLinkDown else x.counts.relaysLinkDown } }
            ∧ (u.queue (.ceiling c)).entries = [] ∧ (u.queue (.ceiling c)).tx = none ∧ (u.queue (.ceiling c)).waiting = []
            ∧ u.raised .ceilingLinkLoss = bump (s.raised .ceilingLinkLoss)
            ∧ s.onlyChanges u [.clb, .ct, .mc, .sau, .fs, .me])
          ∧ (goes → Inv s → ∀ n r, s.record n = some r →
            (r.st.place.any (Place.onLink c) = true → u.record n = some (r.lingers s.ct.lingerTime))
            ∧ ∀ target g t hold, r.st = .moving target c g t hold → target.onLink c = false →
              u.record n = some { r with st := .attached target (s.idleFor r.cls target) })))
    ∧ (∀ f, seatOf port = none ∨ seatProfileOf f = none → ∃ u, served s h (.setProfile port (.seat f)) u
        ∧ u.answers h (.setProfile port (.seat f)) .badArgument [] ∧ s.requestOnly u h [])
    ∧ (∀ f, linkOf port = none ∨ ceilingProfileOf f = none → ∃ u, served s h (.setProfile port (.ceiling f)) u
        ∧ u.answers h (.setProfile port (.ceiling f)) .badArgument [] ∧ s.requestOnly u h [])

/-- R136 and R220: SET_LAMP applies every part it carries: the rule set, the brightness, the forces; a part outside its values, a
seat named twice, an empty force list, or no part at all gets BAD_ARGUMENT and changes nothing. The answer gives the number of lamp
commands made: one for each seat of a PRESENT trunk whose output the parts change. -/
def Obligations.LampSettings : Prop :=
  ∀ (s : State) (h : ReqHeader) (rules : Option RawRules) (brightness : Option Byte) (forces : Option (List (Byte × Byte))),
    s.takes h → (s.rolesHeld h.station).cabinet = true → (Request.setLamp 0 rules brightness forces).inFormat = true →
    let q := Request.setLamp 0 rules brightness forces
    (∀ r b f, readPart rulesOf rules = some r → readPart brightnessOf brightness = some b → readPart forcesOf forces = some f →
      (r.isSome ∨ b.isSome ∨ f.isSome) → f ≠ some [] → ((f.getD []).map Prod.fst).Nodup →
      ∃ u, served s h q u ∧ u.spb.rules = r.getD s.spb.rules
        ∧ (let changed := fun (p : SeatNo) =>
            (s.trunk (trunkOf p)).state == .present && u.resolveLamp p != (s.seat p).resolved
          u.answers h q .ok [natByte (allSeats.countP changed)] ∧ ∀ p, changed p = true → lampMade u p (u.resolveLamp p))
        ∧ u.spb.brightness = b.getD s.spb.brightness
        ∧ (∀ p, (u.seat p).force = (((f.getD []).find? fun e => e.1 == p).map Prod.snd).getD (s.seat p).force)
        ∧ (∀ p, (u.seat p).resolved = u.resolveLamp p) ∧ (∀ p, (u.seat p).up = (s.seat p).up)
        ∧ s.onlyChanges u [.spb, .fs, .me])
    ∧ (readPart rulesOf rules = none ∨ readPart brightnessOf brightness = none ∨ readPart forcesOf forces = none
        ∨ forces = some [] ∨ (rules = none ∧ brightness = none ∧ forces = none)
        ∨ (∃ f, readPart forcesOf forces = some (some f) ∧ ¬ (f.map Prod.fst).Nodup) →
      ∃ u, served s h q u ∧ u.answers h q .badArgument [] ∧ s.requestOnly u h [])

/-- R23, R57, R162, R184, R189 and R200: SET_LEVELS, SET_TIMING, SET_ADDRESSING and SET_IDENTITY within their ranges replace the
settings they name and nothing else; a running timer is not touched; outside them, and at an empty list of levels or a cause named
twice, BAD_ARGUMENT changes nothing; a neighbour's vehicle number is a CONFLICT. -/
def Obligations.CarriageSettings : Prop :=
  ∀ (s : State) (h : ReqHeader), s.takes h → (s.rolesHeld h.station).cabinet = true →
    let refused := fun (q : Request) (status : Status) => ∃ u, served s h q u ∧ u.answers h q status [] ∧ s.requestOnly u h []
    (∀ pairs ls, levelsOf pairs = some ls → pairs.length ≤ 11 → ls ≠ [] → (ls.map Prod.fst).Nodup →
      ∃ u, served s h (.setLevels pairs) u ∧ u.answers h (.setLevels pairs) .ok []
        ∧ (∀ c : Cause, u.me.levels[c.index] = ((ls.find? fun e => e.1 == c).map Prod.snd).getD s.me.levels[c.index])
        ∧ u.me.addressing = s.me.addressing ∧ u.me.stations.map Station.kept = s.me.stations.map Station.kept
        ∧ s.onlyChanges u [.fs, .me])
    ∧ (∀ pairs, pairs = [] ∨ (∃ e ∈ pairs, e.1 = 0 ∨ 11 < e.1.toNat ∨ 7 < e.2.toNat) ∨ ¬ (pairs.map Prod.fst).Nodup →
      pairs.length ≤ 11 → refused (.setLevels pairs) .badArgument)
    ∧ (∀ r l d : Half, 20 ≤ r.toNat → r.toNat ≤ 1000 → 5 ≤ l.toNat → l.toNat ≤ 600 → 1000 ≤ d.toNat → d.toNat ≤ 30000 →
      ∃ u, served s h (.setTiming r l d) u ∧ u.answers h (.setTiming r l d) .ok []
        ∧ u.mc = { s.mc with releaseTimeout := r.toNat } ∧ u.ct = { s.ct with lingerTime := l.toNat }
        ∧ u.clb = { s.clb with deferWindow := d.toNat } ∧ s.requestOnly u h [.mc, .ct, .clb])
    ∧ (∀ r l d : Half, r.toNat < 20 ∨ 1000 < r.toNat ∨ l.toNat < 5 ∨ 600 < l.toNat ∨ d.toNat < 1000 ∨ 30000 < d.toNat →
      refused (.setTiming r l d) .badArgument)
    ∧ (∀ x a g b, isMulticast x = false → x ≠ 0 → isMulticast g = true → g ≠ broadcast → g ≠ allCabinets → a.toNat ≤ 1 →
      b.toNat ≤ 1 → ∃ u, served s h (.setAddressing x a g b) u ∧ u.answers h (.setAddressing x a g b) .ok []
        ∧ u.me.addressing = { cabinet := x, allEnable := a == 1, group := g, groupEnable := b == 1 }
        ∧ u.me.levels = s.me.levels ∧ u.me.stations.map Station.kept = s.me.stations.map Station.kept
        ∧ s.onlyChanges u [.fs, .me])
    ∧ (∀ x a g b, isMulticast x = true ∨ x = 0 ∨ x = allCabinets ∨ isMulticast g = false ∨ g = broadcast ∨ g = allCabinets ∨ 1 < a.toNat ∨ 1 < b.toNat →
      refused (.setAddressing x a g b) .badArgument)
    ∧ (∀ v : Word, 1 ≤ v.toNat → v.toNat ≤ 16777215 → s.isNeighbour v.toNat = false →
      ∃ u, served s h (.setIdentity v) u ∧ u.answers h (.setIdentity v) .ok (beBytes 4 s.cu.vehicleSetting)
        ∧ u.cu = { s.cu with vehicleSetting := v.toNat } ∧ s.requestOnly u h [.cu])
    ∧ (∀ v : Word, v.toNat = 0 ∨ 16777215 < v.toNat → refused (.setIdentity v) .badArgument)
    ∧ (∀ v : Word, 1 ≤ v.toNat → v.toNat ≤ 16777215 → s.isNeighbour v.toNat = true → refused (.setIdentity v) .conflict)

/-- R49, R184 and R199: CABINET_RESET is answered OK; its response is marked, and its leaving the store, or its loss, makes the reset
due. The vehicle number of the settings comes into force at the end of an event in which neither port is COUPLED. -/
def Obligations.CabinetResetFollowsItsResponse : Prop :=
  (∀ (s : State) (h : ReqHeader), s.takes h → (s.rolesHeld h.station).cabinet = true →
    ∃ u, served s h .cabinetReset u ∧ u.answers h .cabinetReset .ok [] ∧ s.requestOnly u h [])
  ∧ (∀ (s : State) (r : Response), r.isReset = true → ((s.sendResponse r).ev.resetDue = true
      ∨ ∃ e ∈ (s.sendResponse r).fs.slots, e.2.resetResponse = true))
  ∧ (∀ (s : State) (k : Nat) (x : Slot), s.fs.slots.get k = some x → x.resetResponse = true → x.refs ≤ 1 →
      (s.dropRef k).ev.resetDue = true)
  ∧ ∀ u : State, u.noResetComing → u.endEvent.cu.vehicle =
      if u.coupled .fore || u.coupled .aft then u.cu.vehicle else u.cu.vehicleSetting

/-- R27, R138, R166, R186, R206 and R207: a query is answered OK with the state the request leaves, before its own response claims a
slot (the model's choice, log entry 49; the request's slot counts as in use, log entry 6), and changes no block but the engine's
counters and the store; a number outside its range, a seat above 63 and a side above 1 among them, gets BAD_ARGUMENT, and a record
that is not there NOT_FOUND. READ_COUNTERS answers its group, and with the clear option sets every counter to 0 after reading; a
group or port that does not exist gets BAD_ARGUMENT. The requests-taken counter that group 11 answers counts the request itself
(R208). A clear byte of neither 0 nor 1 is BAD_ARGUMENT whatever the station holds and whatever the group (the model's choice, log
entry 46). The layouts of R222 and R223: a client record is 33 bytes with its fields at the offsets of the table; LIST_CLIENTS gives
a count, the next record number and that many records, the first 32 from the start on; a counter takes 4 bytes; QUERY_CABINET gives
its items in the order of R206, in the widths of R223, where log entries 20 to 24 say what the rules leave to choice. -/
def Obligations.QueriesAnswer : Prop :=
  (∀ (n : Nat) (r : Record), let bs := recordBytes n r
    bs.length = 33 ∧ field bs 0 2 = beBytes 2 n ∧ field bs 2 6 = addrBytes r.addr
    ∧ (∀ pl t, r.st = .attached pl t → byteAt bs 8 = 1 ∧ field bs 13 4 = timeBytes t ∧ field bs 17 2 = [0xFF, 0])
    ∧ (∀ pl f g t hold, r.st = .moving pl f g t hold → byteAt bs 8 = 2 ∧ field bs 13 4 = timeBytes t
        ∧ field bs 17 2 = [natByte f.val, natByte g.val])
    ∧ (∀ t, r.st = .lingering t → byteAt bs 8 = 3 ∧ field bs 13 4 = timeBytes t ∧ field bs 17 2 = [0xFF, 0])
    ∧ (∀ p, r.st.place = some (.seat p) → field bs 9 3 = [1, natByte p.val, 0])
    ∧ (∀ c a, r.st.place = some (.ceiling c a) → field bs 9 3 = [2, natByte c.val, natByte a.val])
    ∧ (r.st.place = none → field bs 9 3 = [0, 0, 0])
    ∧ byteAt bs 12 = r.cls.code ∧ field bs 19 2 = [0, 0] ∧ byteAt bs 21 = natByte r.st.hold.length
    ∧ field bs 22 2 = beBytes 2 r.credit ∧ byteAt bs 24 = natByte r.parked.length
    ∧ field bs 25 4 = wordBytes r.charged ∧ field bs 29 4 = wordBytes r.overShare)
  ∧ (timeBytes none = [0xFF, 0xFF, 0xFF, 0xFF] ∧ (∀ t, timeBytes (some t) = beBytes 4 t)
    ∧ ∀ cs, (counterBytes cs).length = 4 * cs.length)
  ∧ (∀ (s : State) (start : Nat), let bs := listClientsBytes s.ct.records start
    let above := s.ct.records.filter fun e => decide (start ≤ e.1)
    byteAt bs 0 = natByte (min 32 above.length) ∧ bs.length = 3 + 33 * min 32 above.length
    ∧ (above.length ≤ 32 → field bs 1 2 = [0xFF, 0xFF])
    ∧ (∀ e, 32 < above.length → above[31]? = some e → field bs 1 2 = beBytes 2 (e.1 + 1))
    ∧ ∀ i e, i < 32 → above[i]? = some e → field bs (3 + 33 * i) 33 = recordBytes e.1 e.2)
  ∧ (∀ s : State, let bs := s.cabinetAnswer
    bs.length = 114 + 13 * s.me.stations.length
    ∧ (s.sau.state = .held → field bs 0 29 = List.replicate 29 0)
    ∧ (∀ g pend, s.sau.state = .granted g pend → byteAt bs 0 = 1 ∧ field bs 1 14 = grantBytes (some g)
        ∧ field bs 15 14 = grantBytes pend)
    ∧ field bs 29 4 = beBytes 4 s.sau.pool ∧ field bs 33 4 = timeBytes s.sau.refill
    ∧ byteAt bs 37 = boolByte s.sau.overShareMark ∧ field bs 38 2 = beBytes 2 s.sau.waiting.length
    ∧ field bs 40 2 = beBytes 2 s.el.entries.length ∧ field bs 46 4 = timeBytes s.el.minute
    ∧ field bs 50 2 = beBytes 2 s.freeSlots ∧ byteAt bs 52 = (if s.fs.mark = .armed then 0 else 1)
    ∧ byteAt bs 53 = (if s.coupled .fore then 1 else 0) + (if s.coupled .aft then 2 else 0)
    ∧ field bs 54 2 = halfBytes s.cu.epoch ∧ field bs 56 4 = beBytes 4 s.cu.vehicle
    ∧ field bs 60 4 = beBytes 4 s.cu.vehicleSetting ∧ field bs 64 6 = s.spb.rules.bytes
    ∧ byteAt bs 70 = natByte s.spb.brightness ∧ field bs 71 2 = beBytes 2 s.spb.blink
    ∧ byteAt bs 73 = natByte s.clb.deferrals.length ∧ field bs 74 2 = beBytes 2 s.clb.deferWindow
    ∧ byteAt bs 80 = s.sl.resetCause.code ∧ byteAt bs 81 = natByte s.sl.resetCount
    ∧ field bs 82 6 = addrBytes s.me.addressing.cabinet ∧ field bs 102 11 = s.me.levels.toList.map natByte
    ∧ byteAt bs 113 = natByte s.me.stations.length
    ∧ ∀ i st, s.me.stations[i]? = some st → field bs (114 + 13 * i) 6 = addrBytes st.addr
      ∧ byteAt bs (120 + 13 * i) = sideCode st.side ∧ byteAt bs (121 + 13 * i) = st.roles.code
      ∧ byteAt bs (122 + 13 * i) = natByte st.threshold ∧ field bs (123 + 13 * i) 2 = beBytes 2 (causeSetNat st.pending)
      ∧ field bs (125 + 13 * i) 2 = halfBytes st.epoch)
  ∧ ∀ (s : State) (h : ReqHeader), s.takes h →
    let told := fun (q : Request) (status : Status) (args : State → Bytes) =>
      ∃ u, served s h q u ∧ u.answers h q status (args u) ∧ s.requestOnly u h []
    told .queryCabinet .ok (fun u => u.cabinetAnswer)
    ∧ (∀ (n : Half) r, n.toNat ≤ 511 → s.record n.toNat = some r →
        told (.queryClient (.number n)) .ok fun _ => recordBytes n.toNat r)
    ∧ (∀ n : Half, n.toNat ≤ 511 → s.record n.toNat = none → told (.queryClient (.number n)) .notFound fun _ => [])
    ∧ (∀ n : Half, 511 < n.toNat → told (.queryClient (.number n)) .badArgument (fun _ => [])
        ∧ told (.listClients n) .badArgument fun _ => [])
    ∧ (∀ x n r, s.owns x n r → told (.queryClient (.address x)) .ok fun _ => recordBytes n r)
    ∧ (∀ x, s.byAddr x = none → told (.queryClient (.address x)) .notFound fun _ => [])
    ∧ (∀ n : Half, n.toNat ≤ 511 → told (.listClients n) .ok fun _ => listClientsBytes s.ct.records n.toNat)
    ∧ (∀ port p, seatOf port = some p → told (.queryPort 0 port) .ok fun u => u.seatAnswer p)
    ∧ (∀ port side, sideOf port = some side → told (.queryPort 1 port) .ok fun u => u.backboneAnswer side)
    ∧ (∀ kind port, 1 < kind.toNat ∨ (kind = 0 ∧ 63 < port.toNat) ∨ (kind = 1 ∧ 1 < port.toNat) →
        told (.queryPort kind port) .badArgument fun _ => [])
    ∧ (∀ link c, linkOf link = some c → told (.queryLink link) .ok fun u => u.linkAnswer c)
    ∧ (∀ link, linkOf link = none → told (.queryLink link) .badArgument fun _ => [])
    ∧ (∀ group port clear, s.counterGroup group port = none → clear ≠ 1 ∨ (s.rolesHeld h.station).cabinet = true →
        told (.readCounters group port clear) .badArgument fun _ => [])
    ∧ (∀ group port clear, 1 < clear.toNat → told (.readCounters group port clear) .badArgument fun _ => [])
    ∧ (∀ group port cs, s.counterGroup group port = some cs →
        told (.readCounters group port 0) .ok fun u => group :: port :: counterBytes ((u.counterGroup group port).getD []))
    ∧ (∀ group port cs, s.counterGroup group port = some cs → group ≠ 11 → h.dest = .cabinet ∨ (group ≠ 5 ∧ group ≠ 9) →
        told (.readCounters group port 0) .ok fun _ => group :: port :: counterBytes cs)
    ∧ (∀ group port, (s.rolesHeld h.station).cabinet = true → (s.counterGroup group port).isSome = true →
      let cleared := fun (u : State) => u.clearCounters = u
        ∧ u.clb.links.toList.map Link.profile = s.clb.links.toList.map Link.profile
        ∧ (∀ n, (u.record n).map Record.st = (s.record n).map Record.st) ∧ u.cu.epoch = s.cu.epoch
        ∧ u.sl = { s.sl with counts := {} }
      let read := fun (cs : List Counter) => ∃ u, served s h (.readCounters group port 1) u
        ∧ u.answers h (.readCounters group port 1) .ok (group :: port :: counterBytes cs) ∧ cleared u
      (∀ cs, s.counterGroup group port = some cs → group ≠ 11 → h.dest = .cabinet ∨ (group ≠ 5 ∧ group ≠ 9) → read cs)
      ∧ (group = 11 → s.fs.mark = .spent ∨ 129 < s.freeSlots →
        read ({ s.me.counts with requests := bump s.me.counts.requests } : MeCounters).list))

/-! ### Invariants -/

/-- Right after reset the tables and lists have their form, the places are distinct, the Waiting List agrees with the parked lists,
and the reference counts with the entries. -/
def Obligations.InvariantsAtReset : Prop := Inv State.reset ∧ PlacesInv State.reset ∧ WaitingInv State.reset ∧ RefInv State.reset

/-- Every step keeps the form of the tables and lists (R2, R30, R101, R161, R192). -/
def Obligations.TablesKeepTheirForm : Prop := ∀ s t : State, Inv s → step s = .next t → Inv t

/-- Every step keeps the addresses, places and former places of the records distinct (R2, R3, R8, R53). -/
def Obligations.PlacesStayDistinct : Prop := ∀ s t : State, Inv s → PlacesInv s → step s = .next t → PlacesInv t

/-- Every step keeps the Waiting List in agreement with the parked lists (R86). -/
def Obligations.WaitingListAgrees : Prop := ∀ s t : State, Inv s → WaitingInv s → step s = .next t → WaitingInv t

/-- Every step keeps each slot's reference count equal to the number of entries that refer to it, and no slot in use at count 0
(R30 to R32). -/
def Obligations.ReferencesAreCounted : Prop :=
  ∀ s t : State, Inv s → WaitingInv s → RefInv s → step s = .next t → RefInv t
end

