-- ==== Sys2Proof/Laws/State.lean ====
section
/-! SUPPORT. What each elementary update of the state writes and what it leaves, one lemma per field, each true by `rfl`. The
operations are those of Machine/Ops.lean: an update of one block, of one part of a block, or of one block's counters. -/

namespace Sys2Proof.Machine

variable (s : State)

/-! State.onEv -/

@[simp] theorem State.onEv_pending (f : EventLog → EventLog) : (s.onEv f).pending = s.pending := rfl
@[simp] theorem State.onEv_ev (f : EventLog → EventLog) : (s.onEv f).ev = f s.ev := rfl
@[simp] theorem State.onEv_free (f : EventLog → EventLog) : (s.onEv f).free = s.free := rfl
@[simp] theorem State.onEv_resetLine (f : EventLog → EventLog) : (s.onEv f).resetLine = s.resetLine := rfl
@[simp] theorem State.onEv_memory (f : EventLog → EventLog) : (s.onEv f).memory = s.memory := rfl
@[simp] theorem State.onEv_ct (f : EventLog → EventLog) : (s.onEv f).ct = s.ct := rfl
@[simp] theorem State.onEv_mc (f : EventLog → EventLog) : (s.onEv f).mc = s.mc := rfl
@[simp] theorem State.onEv_sau (f : EventLog → EventLog) : (s.onEv f).sau = s.sau := rfl
@[simp] theorem State.onEv_el (f : EventLog → EventLog) : (s.onEv f).el = s.el := rfl
@[simp] theorem State.onEv_fs (f : EventLog → EventLog) : (s.onEv f).fs = s.fs := rfl
@[simp] theorem State.onEv_spb (f : EventLog → EventLog) : (s.onEv f).spb = s.spb := rfl
@[simp] theorem State.onEv_clb (f : EventLog → EventLog) : (s.onEv f).clb = s.clb := rfl
@[simp] theorem State.onEv_cu (f : EventLog → EventLog) : (s.onEv f).cu = s.cu := rfl
@[simp] theorem State.onEv_me (f : EventLog → EventLog) : (s.onEv f).me = s.me := rfl
@[simp] theorem State.onEv_sl (f : EventLog → EventLog) : (s.onEv f).sl = s.sl := rfl

/-! State.onCt -/

@[simp] theorem State.onCt_pending (f : ClientTable → ClientTable) : (s.onCt f).pending = s.pending := rfl
@[simp] theorem State.onCt_ev (f : ClientTable → ClientTable) : (s.onCt f).ev = s.ev := rfl
@[simp] theorem State.onCt_free (f : ClientTable → ClientTable) : (s.onCt f).free = s.free := rfl
@[simp] theorem State.onCt_resetLine (f : ClientTable → ClientTable) : (s.onCt f).resetLine = s.resetLine := rfl
@[simp] theorem State.onCt_memory (f : ClientTable → ClientTable) : (s.onCt f).memory = s.memory := rfl
@[simp] theorem State.onCt_ct (f : ClientTable → ClientTable) : (s.onCt f).ct = f s.ct := rfl
@[simp] theorem State.onCt_mc (f : ClientTable → ClientTable) : (s.onCt f).mc = s.mc := rfl
@[simp] theorem State.onCt_sau (f : ClientTable → ClientTable) : (s.onCt f).sau = s.sau := rfl
@[simp] theorem State.onCt_el (f : ClientTable → ClientTable) : (s.onCt f).el = s.el := rfl
@[simp] theorem State.onCt_fs (f : ClientTable → ClientTable) : (s.onCt f).fs = s.fs := rfl
@[simp] theorem State.onCt_spb (f : ClientTable → ClientTable) : (s.onCt f).spb = s.spb := rfl
@[simp] theorem State.onCt_clb (f : ClientTable → ClientTable) : (s.onCt f).clb = s.clb := rfl
@[simp] theorem State.onCt_cu (f : ClientTable → ClientTable) : (s.onCt f).cu = s.cu := rfl
@[simp] theorem State.onCt_me (f : ClientTable → ClientTable) : (s.onCt f).me = s.me := rfl
@[simp] theorem State.onCt_sl (f : ClientTable → ClientTable) : (s.onCt f).sl = s.sl := rfl

/-! State.onMc -/

@[simp] theorem State.onMc_pending (f : MoveController → MoveController) : (s.onMc f).pending = s.pending := rfl
@[simp] theorem State.onMc_ev (f : MoveController → MoveController) : (s.onMc f).ev = s.ev := rfl
@[simp] theorem State.onMc_free (f : MoveController → MoveController) : (s.onMc f).free = s.free := rfl
@[simp] theorem State.onMc_resetLine (f : MoveController → MoveController) : (s.onMc f).resetLine = s.resetLine := rfl
@[simp] theorem State.onMc_memory (f : MoveController → MoveController) : (s.onMc f).memory = s.memory := rfl
@[simp] theorem State.onMc_ct (f : MoveController → MoveController) : (s.onMc f).ct = s.ct := rfl
@[simp] theorem State.onMc_mc (f : MoveController → MoveController) : (s.onMc f).mc = f s.mc := rfl
@[simp] theorem State.onMc_sau (f : MoveController → MoveController) : (s.onMc f).sau = s.sau := rfl
@[simp] theorem State.onMc_el (f : MoveController → MoveController) : (s.onMc f).el = s.el := rfl
@[simp] theorem State.onMc_fs (f : MoveController → MoveController) : (s.onMc f).fs = s.fs := rfl
@[simp] theorem State.onMc_spb (f : MoveController → MoveController) : (s.onMc f).spb = s.spb := rfl
@[simp] theorem State.onMc_clb (f : MoveController → MoveController) : (s.onMc f).clb = s.clb := rfl
@[simp] theorem State.onMc_cu (f : MoveController → MoveController) : (s.onMc f).cu = s.cu := rfl
@[simp] theorem State.onMc_me (f : MoveController → MoveController) : (s.onMc f).me = s.me := rfl
@[simp] theorem State.onMc_sl (f : MoveController → MoveController) : (s.onMc f).sl = s.sl := rfl

/-! State.onSau -/

@[simp] theorem State.onSau_pending (f : ShareUnit → ShareUnit) : (s.onSau f).pending = s.pending := rfl
@[simp] theorem State.onSau_ev (f : ShareUnit → ShareUnit) : (s.onSau f).ev = s.ev := rfl
@[simp] theorem State.onSau_free (f : ShareUnit → ShareUnit) : (s.onSau f).free = s.free := rfl
@[simp] theorem State.onSau_resetLine (f : ShareUnit → ShareUnit) : (s.onSau f).resetLine = s.resetLine := rfl
@[simp] theorem State.onSau_memory (f : ShareUnit → ShareUnit) : (s.onSau f).memory = s.memory := rfl
@[simp] theorem State.onSau_ct (f : ShareUnit → ShareUnit) : (s.onSau f).ct = s.ct := rfl
@[simp] theorem State.onSau_mc (f : ShareUnit → ShareUnit) : (s.onSau f).mc = s.mc := rfl
@[simp] theorem State.onSau_sau (f : ShareUnit → ShareUnit) : (s.onSau f).sau = f s.sau := rfl
@[simp] theorem State.onSau_el (f : ShareUnit → ShareUnit) : (s.onSau f).el = s.el := rfl
@[simp] theorem State.onSau_fs (f : ShareUnit → ShareUnit) : (s.onSau f).fs = s.fs := rfl
@[simp] theorem State.onSau_spb (f : ShareUnit → ShareUnit) : (s.onSau f).spb = s.spb := rfl
@[simp] theorem State.onSau_clb (f : ShareUnit → ShareUnit) : (s.onSau f).clb = s.clb := rfl
@[simp] theorem State.onSau_cu (f : ShareUnit → ShareUnit) : (s.onSau f).cu = s.cu := rfl
@[simp] theorem State.onSau_me (f : ShareUnit → ShareUnit) : (s.onSau f).me = s.me := rfl
@[simp] theorem State.onSau_sl (f : ShareUnit → ShareUnit) : (s.onSau f).sl = s.sl := rfl

/-! State.onEl -/

@[simp] theorem State.onEl_pending (f : EntitlementList → EntitlementList) : (s.onEl f).pending = s.pending := rfl
@[simp] theorem State.onEl_ev (f : EntitlementList → EntitlementList) : (s.onEl f).ev = s.ev := rfl
@[simp] theorem State.onEl_free (f : EntitlementList → EntitlementList) : (s.onEl f).free = s.free := rfl
@[simp] theorem State.onEl_resetLine (f : EntitlementList → EntitlementList) : (s.onEl f).resetLine = s.resetLine := rfl
@[simp] theorem State.onEl_memory (f : EntitlementList → EntitlementList) : (s.onEl f).memory = s.memory := rfl
@[simp] theorem State.onEl_ct (f : EntitlementList → EntitlementList) : (s.onEl f).ct = s.ct := rfl
@[simp] theorem State.onEl_mc (f : EntitlementList → EntitlementList) : (s.onEl f).mc = s.mc := rfl
@[simp] theorem State.onEl_sau (f : EntitlementList → EntitlementList) : (s.onEl f).sau = s.sau := rfl
@[simp] theorem State.onEl_el (f : EntitlementList → EntitlementList) : (s.onEl f).el = f s.el := rfl
@[simp] theorem State.onEl_fs (f : EntitlementList → EntitlementList) : (s.onEl f).fs = s.fs := rfl
@[simp] theorem State.onEl_spb (f : EntitlementList → EntitlementList) : (s.onEl f).spb = s.spb := rfl
@[simp] theorem State.onEl_clb (f : EntitlementList → EntitlementList) : (s.onEl f).clb = s.clb := rfl
@[simp] theorem State.onEl_cu (f : EntitlementList → EntitlementList) : (s.onEl f).cu = s.cu := rfl
@[simp] theorem State.onEl_me (f : EntitlementList → EntitlementList) : (s.onEl f).me = s.me := rfl
@[simp] theorem State.onEl_sl (f : EntitlementList → EntitlementList) : (s.onEl f).sl = s.sl := rfl

/-! State.onFs -/

@[simp] theorem State.onFs_pending (f : FrameStore → FrameStore) : (s.onFs f).pending = s.pending := rfl
@[simp] theorem State.onFs_ev (f : FrameStore → FrameStore) : (s.onFs f).ev = s.ev := rfl
@[simp] theorem State.onFs_free (f : FrameStore → FrameStore) : (s.onFs f).free = s.free := rfl
@[simp] theorem State.onFs_resetLine (f : FrameStore → FrameStore) : (s.onFs f).resetLine = s.resetLine := rfl
@[simp] theorem State.onFs_memory (f : FrameStore → FrameStore) : (s.onFs f).memory = s.memory := rfl
@[simp] theorem State.onFs_ct (f : FrameStore → FrameStore) : (s.onFs f).ct = s.ct := rfl
@[simp] theorem State.onFs_mc (f : FrameStore → FrameStore) : (s.onFs f).mc = s.mc := rfl
@[simp] theorem State.onFs_sau (f : FrameStore → FrameStore) : (s.onFs f).sau = s.sau := rfl
@[simp] theorem State.onFs_el (f : FrameStore → FrameStore) : (s.onFs f).el = s.el := rfl
@[simp] theorem State.onFs_fs (f : FrameStore → FrameStore) : (s.onFs f).fs = f s.fs := rfl
@[simp] theorem State.onFs_spb (f : FrameStore → FrameStore) : (s.onFs f).spb = s.spb := rfl
@[simp] theorem State.onFs_clb (f : FrameStore → FrameStore) : (s.onFs f).clb = s.clb := rfl
@[simp] theorem State.onFs_cu (f : FrameStore → FrameStore) : (s.onFs f).cu = s.cu := rfl
@[simp] theorem State.onFs_me (f : FrameStore → FrameStore) : (s.onFs f).me = s.me := rfl
@[simp] theorem State.onFs_sl (f : FrameStore → FrameStore) : (s.onFs f).sl = s.sl := rfl

/-! State.onSpb -/

@[simp] theorem State.onSpb_pending (f : SeatPortBlock → SeatPortBlock) : (s.onSpb f).pending = s.pending := rfl
@[simp] theorem State.onSpb_ev (f : SeatPortBlock → SeatPortBlock) : (s.onSpb f).ev = s.ev := rfl
@[simp] theorem State.onSpb_free (f : SeatPortBlock → SeatPortBlock) : (s.onSpb f).free = s.free := rfl
@[simp] theorem State.onSpb_resetLine (f : SeatPortBlock → SeatPortBlock) : (s.onSpb f).resetLine = s.resetLine := rfl
@[simp] theorem State.onSpb_memory (f : SeatPortBlock → SeatPortBlock) : (s.onSpb f).memory = s.memory := rfl
@[simp] theorem State.onSpb_ct (f : SeatPortBlock → SeatPortBlock) : (s.onSpb f).ct = s.ct := rfl
@[simp] theorem State.onSpb_mc (f : SeatPortBlock → SeatPortBlock) : (s.onSpb f).mc = s.mc := rfl
@[simp] theorem State.onSpb_sau (f : SeatPortBlock → SeatPortBlock) : (s.onSpb f).sau = s.sau := rfl
@[simp] theorem State.onSpb_el (f : SeatPortBlock → SeatPortBlock) : (s.onSpb f).el = s.el := rfl
@[simp] theorem State.onSpb_fs (f : SeatPortBlock → SeatPortBlock) : (s.onSpb f).fs = s.fs := rfl
@[simp] theorem State.onSpb_spb (f : SeatPortBlock → SeatPortBlock) : (s.onSpb f).spb = f s.spb := rfl
@[simp] theorem State.onSpb_clb (f : SeatPortBlock → SeatPortBlock) : (s.onSpb f).clb = s.clb := rfl
@[simp] theorem State.onSpb_cu (f : SeatPortBlock → SeatPortBlock) : (s.onSpb f).cu = s.cu := rfl
@[simp] theorem State.onSpb_me (f : SeatPortBlock → SeatPortBlock) : (s.onSpb f).me = s.me := rfl
@[simp] theorem State.onSpb_sl (f : SeatPortBlock → SeatPortBlock) : (s.onSpb f).sl = s.sl := rfl

/-! State.onClb -/

@[simp] theorem State.onClb_pending (f : CeilingBlock → CeilingBlock) : (s.onClb f).pending = s.pending := rfl
@[simp] theorem State.onClb_ev (f : CeilingBlock → CeilingBlock) : (s.onClb f).ev = s.ev := rfl
@[simp] theorem State.onClb_free (f : CeilingBlock → CeilingBlock) : (s.onClb f).free = s.free := rfl
@[simp] theorem State.onClb_resetLine (f : CeilingBlock → CeilingBlock) : (s.onClb f).resetLine = s.resetLine := rfl
@[simp] theorem State.onClb_memory (f : CeilingBlock → CeilingBlock) : (s.onClb f).memory = s.memory := rfl
@[simp] theorem State.onClb_ct (f : CeilingBlock → CeilingBlock) : (s.onClb f).ct = s.ct := rfl
@[simp] theorem State.onClb_mc (f : CeilingBlock → CeilingBlock) : (s.onClb f).mc = s.mc := rfl
@[simp] theorem State.onClb_sau (f : CeilingBlock → CeilingBlock) : (s.onClb f).sau = s.sau := rfl
@[simp] theorem State.onClb_el (f : CeilingBlock → CeilingBlock) : (s.onClb f).el = s.el := rfl
@[simp] theorem State.onClb_fs (f : CeilingBlock → CeilingBlock) : (s.onClb f).fs = s.fs := rfl
@[simp] theorem State.onClb_spb (f : CeilingBlock → CeilingBlock) : (s.onClb f).spb = s.spb := rfl
@[simp] theorem State.onClb_clb (f : CeilingBlock → CeilingBlock) : (s.onClb f).clb = f s.clb := rfl
@[simp] theorem State.onClb_cu (f : CeilingBlock → CeilingBlock) : (s.onClb f).cu = s.cu := rfl
@[simp] theorem State.onClb_me (f : CeilingBlock → CeilingBlock) : (s.onClb f).me = s.me := rfl
@[simp] theorem State.onClb_sl (f : CeilingBlock → CeilingBlock) : (s.onClb f).sl = s.sl := rfl

/-! State.onCu -/

@[simp] theorem State.onCu_pending (f : CouplingUnit → CouplingUnit) : (s.onCu f).pending = s.pending := rfl
@[simp] theorem State.onCu_ev (f : CouplingUnit → CouplingUnit) : (s.onCu f).ev = s.ev := rfl
@[simp] theorem State.onCu_free (f : CouplingUnit → CouplingUnit) : (s.onCu f).free = s.free := rfl
@[simp] theorem State.onCu_resetLine (f : CouplingUnit → CouplingUnit) : (s.onCu f).resetLine = s.resetLine := rfl
@[simp] theorem State.onCu_memory (f : CouplingUnit → CouplingUnit) : (s.onCu f).memory = s.memory := rfl
@[simp] theorem State.onCu_ct (f : CouplingUnit → CouplingUnit) : (s.onCu f).ct = s.ct := rfl
@[simp] theorem State.onCu_mc (f : CouplingUnit → CouplingUnit) : (s.onCu f).mc = s.mc := rfl
@[simp] theorem State.onCu_sau (f : CouplingUnit → CouplingUnit) : (s.onCu f).sau = s.sau := rfl
@[simp] theorem State.onCu_el (f : CouplingUnit → CouplingUnit) : (s.onCu f).el = s.el := rfl
@[simp] theorem State.onCu_fs (f : CouplingUnit → CouplingUnit) : (s.onCu f).fs = s.fs := rfl
@[simp] theorem State.onCu_spb (f : CouplingUnit → CouplingUnit) : (s.onCu f).spb = s.spb := rfl
@[simp] theorem State.onCu_clb (f : CouplingUnit → CouplingUnit) : (s.onCu f).clb = s.clb := rfl
@[simp] theorem State.onCu_cu (f : CouplingUnit → CouplingUnit) : (s.onCu f).cu = f s.cu := rfl
@[simp] theorem State.onCu_me (f : CouplingUnit → CouplingUnit) : (s.onCu f).me = s.me := rfl
@[simp] theorem State.onCu_sl (f : CouplingUnit → CouplingUnit) : (s.onCu f).sl = s.sl := rfl

/-! State.onMe -/

@[simp] theorem State.onMe_pending (f : Engine → Engine) : (s.onMe f).pending = s.pending := rfl
@[simp] theorem State.onMe_ev (f : Engine → Engine) : (s.onMe f).ev = s.ev := rfl
@[simp] theorem State.onMe_free (f : Engine → Engine) : (s.onMe f).free = s.free := rfl
@[simp] theorem State.onMe_resetLine (f : Engine → Engine) : (s.onMe f).resetLine = s.resetLine := rfl
@[simp] theorem State.onMe_memory (f : Engine → Engine) : (s.onMe f).memory = s.memory := rfl
@[simp] theorem State.onMe_ct (f : Engine → Engine) : (s.onMe f).ct = s.ct := rfl
@[simp] theorem State.onMe_mc (f : Engine → Engine) : (s.onMe f).mc = s.mc := rfl
@[simp] theorem State.onMe_sau (f : Engine → Engine) : (s.onMe f).sau = s.sau := rfl
@[simp] theorem State.onMe_el (f : Engine → Engine) : (s.onMe f).el = s.el := rfl
@[simp] theorem State.onMe_fs (f : Engine → Engine) : (s.onMe f).fs = s.fs := rfl
@[simp] theorem State.onMe_spb (f : Engine → Engine) : (s.onMe f).spb = s.spb := rfl
@[simp] theorem State.onMe_clb (f : Engine → Engine) : (s.onMe f).clb = s.clb := rfl
@[simp] theorem State.onMe_cu (f : Engine → Engine) : (s.onMe f).cu = s.cu := rfl
@[simp] theorem State.onMe_me (f : Engine → Engine) : (s.onMe f).me = f s.me := rfl
@[simp] theorem State.onMe_sl (f : Engine → Engine) : (s.onMe f).sl = s.sl := rfl

/-! State.onSl -/

@[simp] theorem State.onSl_pending (f : Loader → Loader) : (s.onSl f).pending = s.pending := rfl
@[simp] theorem State.onSl_ev (f : Loader → Loader) : (s.onSl f).ev = s.ev := rfl
@[simp] theorem State.onSl_free (f : Loader → Loader) : (s.onSl f).free = s.free := rfl
@[simp] theorem State.onSl_resetLine (f : Loader → Loader) : (s.onSl f).resetLine = s.resetLine := rfl
@[simp] theorem State.onSl_memory (f : Loader → Loader) : (s.onSl f).memory = s.memory := rfl
@[simp] theorem State.onSl_ct (f : Loader → Loader) : (s.onSl f).ct = s.ct := rfl
@[simp] theorem State.onSl_mc (f : Loader → Loader) : (s.onSl f).mc = s.mc := rfl
@[simp] theorem State.onSl_sau (f : Loader → Loader) : (s.onSl f).sau = s.sau := rfl
@[simp] theorem State.onSl_el (f : Loader → Loader) : (s.onSl f).el = s.el := rfl
@[simp] theorem State.onSl_fs (f : Loader → Loader) : (s.onSl f).fs = s.fs := rfl
@[simp] theorem State.onSl_spb (f : Loader → Loader) : (s.onSl f).spb = s.spb := rfl
@[simp] theorem State.onSl_clb (f : Loader → Loader) : (s.onSl f).clb = s.clb := rfl
@[simp] theorem State.onSl_cu (f : Loader → Loader) : (s.onSl f).cu = s.cu := rfl
@[simp] theorem State.onSl_me (f : Loader → Loader) : (s.onSl f).me = s.me := rfl
@[simp] theorem State.onSl_sl (f : Loader → Loader) : (s.onSl f).sl = f s.sl := rfl

/-! State.countCt -/

@[simp] theorem State.countCt_pending (f : CtCounters → CtCounters) : (s.countCt f).pending = s.pending := rfl
@[simp] theorem State.countCt_ev (f : CtCounters → CtCounters) : (s.countCt f).ev = s.ev := rfl
@[simp] theorem State.countCt_free (f : CtCounters → CtCounters) : (s.countCt f).free = s.free := rfl
@[simp] theorem State.countCt_resetLine (f : CtCounters → CtCounters) : (s.countCt f).resetLine = s.resetLine := rfl
@[simp] theorem State.countCt_memory (f : CtCounters → CtCounters) : (s.countCt f).memory = s.memory := rfl
@[simp] theorem State.countCt_ct (f : CtCounters → CtCounters) : (s.countCt f).ct = { s.ct with counts := f s.ct.counts } := rfl
@[simp] theorem State.countCt_mc (f : CtCounters → CtCounters) : (s.countCt f).mc = s.mc := rfl
@[simp] theorem State.countCt_sau (f : CtCounters → CtCounters) : (s.countCt f).sau = s.sau := rfl
@[simp] theorem State.countCt_el (f : CtCounters → CtCounters) : (s.countCt f).el = s.el := rfl
@[simp] theorem State.countCt_fs (f : CtCounters → CtCounters) : (s.countCt f).fs = s.fs := rfl
@[simp] theorem State.countCt_spb (f : CtCounters → CtCounters) : (s.countCt f).spb = s.spb := rfl
@[simp] theorem State.countCt_clb (f : CtCounters → CtCounters) : (s.countCt f).clb = s.clb := rfl
@[simp] theorem State.countCt_cu (f : CtCounters → CtCounters) : (s.countCt f).cu = s.cu := rfl
@[simp] theorem State.countCt_me (f : CtCounters → CtCounters) : (s.countCt f).me = s.me := rfl
@[simp] theorem State.countCt_sl (f : CtCounters → CtCounters) : (s.countCt f).sl = s.sl := rfl

/-! State.countMc -/

@[simp] theorem State.countMc_pending (f : McCounters → McCounters) : (s.countMc f).pending = s.pending := rfl
@[simp] theorem State.countMc_ev (f : McCounters → McCounters) : (s.countMc f).ev = s.ev := rfl
@[simp] theorem State.countMc_free (f : McCounters → McCounters) : (s.countMc f).free = s.free := rfl
@[simp] theorem State.countMc_resetLine (f : McCounters → McCounters) : (s.countMc f).resetLine = s.resetLine := rfl
@[simp] theorem State.countMc_memory (f : McCounters → McCounters) : (s.countMc f).memory = s.memory := rfl
@[simp] theorem State.countMc_ct (f : McCounters → McCounters) : (s.countMc f).ct = s.ct := rfl
@[simp] theorem State.countMc_mc (f : McCounters → McCounters) : (s.countMc f).mc = { s.mc with counts := f s.mc.counts } := rfl
@[simp] theorem State.countMc_sau (f : McCounters → McCounters) : (s.countMc f).sau = s.sau := rfl
@[simp] theorem State.countMc_el (f : McCounters → McCounters) : (s.countMc f).el = s.el := rfl
@[simp] theorem State.countMc_fs (f : McCounters → McCounters) : (s.countMc f).fs = s.fs := rfl
@[simp] theorem State.countMc_spb (f : McCounters → McCounters) : (s.countMc f).spb = s.spb := rfl
@[simp] theorem State.countMc_clb (f : McCounters → McCounters) : (s.countMc f).clb = s.clb := rfl
@[simp] theorem State.countMc_cu (f : McCounters → McCounters) : (s.countMc f).cu = s.cu := rfl
@[simp] theorem State.countMc_me (f : McCounters → McCounters) : (s.countMc f).me = s.me := rfl
@[simp] theorem State.countMc_sl (f : McCounters → McCounters) : (s.countMc f).sl = s.sl := rfl

/-! State.countSau -/

@[simp] theorem State.countSau_pending (f : SauCounters → SauCounters) : (s.countSau f).pending = s.pending := rfl
@[simp] theorem State.countSau_ev (f : SauCounters → SauCounters) : (s.countSau f).ev = s.ev := rfl
@[simp] theorem State.countSau_free (f : SauCounters → SauCounters) : (s.countSau f).free = s.free := rfl
@[simp] theorem State.countSau_resetLine (f : SauCounters → SauCounters) : (s.countSau f).resetLine = s.resetLine := rfl
@[simp] theorem State.countSau_memory (f : SauCounters → SauCounters) : (s.countSau f).memory = s.memory := rfl
@[simp] theorem State.countSau_ct (f : SauCounters → SauCounters) : (s.countSau f).ct = s.ct := rfl
@[simp] theorem State.countSau_mc (f : SauCounters → SauCounters) : (s.countSau f).mc = s.mc := rfl
@[simp] theorem State.countSau_sau (f : SauCounters → SauCounters) :
    (s.countSau f).sau = { s.sau with counts := f s.sau.counts } := rfl
@[simp] theorem State.countSau_el (f : SauCounters → SauCounters) : (s.countSau f).el = s.el := rfl
@[simp] theorem State.countSau_fs (f : SauCounters → SauCounters) : (s.countSau f).fs = s.fs := rfl
@[simp] theorem State.countSau_spb (f : SauCounters → SauCounters) : (s.countSau f).spb = s.spb := rfl
@[simp] theorem State.countSau_clb (f : SauCounters → SauCounters) : (s.countSau f).clb = s.clb := rfl
@[simp] theorem State.countSau_cu (f : SauCounters → SauCounters) : (s.countSau f).cu = s.cu := rfl
@[simp] theorem State.countSau_me (f : SauCounters → SauCounters) : (s.countSau f).me = s.me := rfl
@[simp] theorem State.countSau_sl (f : SauCounters → SauCounters) : (s.countSau f).sl = s.sl := rfl

/-! State.countEl -/

@[simp] theorem State.countEl_pending (f : ElCounters → ElCounters) : (s.countEl f).pending = s.pending := rfl
@[simp] theorem State.countEl_ev (f : ElCounters → ElCounters) : (s.countEl f).ev = s.ev := rfl
@[simp] theorem State.countEl_free (f : ElCounters → ElCounters) : (s.countEl f).free = s.free := rfl
@[simp] theorem State.countEl_resetLine (f : ElCounters → ElCounters) : (s.countEl f).resetLine = s.resetLine := rfl
@[simp] theorem State.countEl_memory (f : ElCounters → ElCounters) : (s.countEl f).memory = s.memory := rfl
@[simp] theorem State.countEl_ct (f : ElCounters → ElCounters) : (s.countEl f).ct = s.ct := rfl
@[simp] theorem State.countEl_mc (f : ElCounters → ElCounters) : (s.countEl f).mc = s.mc := rfl
@[simp] theorem State.countEl_sau (f : ElCounters → ElCounters) : (s.countEl f).sau = s.sau := rfl
@[simp] theorem State.countEl_el (f : ElCounters → ElCounters) : (s.countEl f).el = { s.el with counts := f s.el.counts } := rfl
@[simp] theorem State.countEl_fs (f : ElCounters → ElCounters) : (s.countEl f).fs = s.fs := rfl
@[simp] theorem State.countEl_spb (f : ElCounters → ElCounters) : (s.countEl f).spb = s.spb := rfl
@[simp] theorem State.countEl_clb (f : ElCounters → ElCounters) : (s.countEl f).clb = s.clb := rfl
@[simp] theorem State.countEl_cu (f : ElCounters → ElCounters) : (s.countEl f).cu = s.cu := rfl
@[simp] theorem State.countEl_me (f : ElCounters → ElCounters) : (s.countEl f).me = s.me := rfl
@[simp] theorem State.countEl_sl (f : ElCounters → ElCounters) : (s.countEl f).sl = s.sl := rfl

/-! State.countFs -/

@[simp] theorem State.countFs_pending (f : FsCounters → FsCounters) : (s.countFs f).pending = s.pending := rfl
@[simp] theorem State.countFs_ev (f : FsCounters → FsCounters) : (s.countFs f).ev = s.ev := rfl
@[simp] theorem State.countFs_free (f : FsCounters → FsCounters) : (s.countFs f).free = s.free := rfl
@[simp] theorem State.countFs_resetLine (f : FsCounters → FsCounters) : (s.countFs f).resetLine = s.resetLine := rfl
@[simp] theorem State.countFs_memory (f : FsCounters → FsCounters) : (s.countFs f).memory = s.memory := rfl
@[simp] theorem State.countFs_ct (f : FsCounters → FsCounters) : (s.countFs f).ct = s.ct := rfl
@[simp] theorem State.countFs_mc (f : FsCounters → FsCounters) : (s.countFs f).mc = s.mc := rfl
@[simp] theorem State.countFs_sau (f : FsCounters → FsCounters) : (s.countFs f).sau = s.sau := rfl
@[simp] theorem State.countFs_el (f : FsCounters → FsCounters) : (s.countFs f).el = s.el := rfl
@[simp] theorem State.countFs_fs (f : FsCounters → FsCounters) : (s.countFs f).fs = { s.fs with counts := f s.fs.counts } := rfl
@[simp] theorem State.countFs_spb (f : FsCounters → FsCounters) : (s.countFs f).spb = s.spb := rfl
@[simp] theorem State.countFs_clb (f : FsCounters → FsCounters) : (s.countFs f).clb = s.clb := rfl
@[simp] theorem State.countFs_cu (f : FsCounters → FsCounters) : (s.countFs f).cu = s.cu := rfl
@[simp] theorem State.countFs_me (f : FsCounters → FsCounters) : (s.countFs f).me = s.me := rfl
@[simp] theorem State.countFs_sl (f : FsCounters → FsCounters) : (s.countFs f).sl = s.sl := rfl

/-! State.countMe -/

@[simp] theorem State.countMe_pending (f : MeCounters → MeCounters) : (s.countMe f).pending = s.pending := rfl
@[simp] theorem State.countMe_ev (f : MeCounters → MeCounters) : (s.countMe f).ev = s.ev := rfl
@[simp] theorem State.countMe_free (f : MeCounters → MeCounters) : (s.countMe f).free = s.free := rfl
@[simp] theorem State.countMe_resetLine (f : MeCounters → MeCounters) : (s.countMe f).resetLine = s.resetLine := rfl
@[simp] theorem State.countMe_memory (f : MeCounters → MeCounters) : (s.countMe f).memory = s.memory := rfl
@[simp] theorem State.countMe_ct (f : MeCounters → MeCounters) : (s.countMe f).ct = s.ct := rfl
@[simp] theorem State.countMe_mc (f : MeCounters → MeCounters) : (s.countMe f).mc = s.mc := rfl
@[simp] theorem State.countMe_sau (f : MeCounters → MeCounters) : (s.countMe f).sau = s.sau := rfl
@[simp] theorem State.countMe_el (f : MeCounters → MeCounters) : (s.countMe f).el = s.el := rfl
@[simp] theorem State.countMe_fs (f : MeCounters → MeCounters) : (s.countMe f).fs = s.fs := rfl
@[simp] theorem State.countMe_spb (f : MeCounters → MeCounters) : (s.countMe f).spb = s.spb := rfl
@[simp] theorem State.countMe_clb (f : MeCounters → MeCounters) : (s.countMe f).clb = s.clb := rfl
@[simp] theorem State.countMe_cu (f : MeCounters → MeCounters) : (s.countMe f).cu = s.cu := rfl
@[simp] theorem State.countMe_me (f : MeCounters → MeCounters) : (s.countMe f).me = { s.me with counts := f s.me.counts } := rfl
@[simp] theorem State.countMe_sl (f : MeCounters → MeCounters) : (s.countMe f).sl = s.sl := rfl

/-! State.countSl -/

@[simp] theorem State.countSl_pending (f : SlCounters → SlCounters) : (s.countSl f).pending = s.pending := rfl
@[simp] theorem State.countSl_ev (f : SlCounters → SlCounters) : (s.countSl f).ev = s.ev := rfl
@[simp] theorem State.countSl_free (f : SlCounters → SlCounters) : (s.countSl f).free = s.free := rfl
@[simp] theorem State.countSl_resetLine (f : SlCounters → SlCounters) : (s.countSl f).resetLine = s.resetLine := rfl
@[simp] theorem State.countSl_memory (f : SlCounters → SlCounters) : (s.countSl f).memory = s.memory := rfl
@[simp] theorem State.countSl_ct (f : SlCounters → SlCounters) : (s.countSl f).ct = s.ct := rfl
@[simp] theorem State.countSl_mc (f : SlCounters → SlCounters) : (s.countSl f).mc = s.mc := rfl
@[simp] theorem State.countSl_sau (f : SlCounters → SlCounters) : (s.countSl f).sau = s.sau := rfl
@[simp] theorem State.countSl_el (f : SlCounters → SlCounters) : (s.countSl f).el = s.el := rfl
@[simp] theorem State.countSl_fs (f : SlCounters → SlCounters) : (s.countSl f).fs = s.fs := rfl
@[simp] theorem State.countSl_spb (f : SlCounters → SlCounters) : (s.countSl f).spb = s.spb := rfl
@[simp] theorem State.countSl_clb (f : SlCounters → SlCounters) : (s.countSl f).clb = s.clb := rfl
@[simp] theorem State.countSl_cu (f : SlCounters → SlCounters) : (s.countSl f).cu = s.cu := rfl
@[simp] theorem State.countSl_me (f : SlCounters → SlCounters) : (s.countSl f).me = s.me := rfl
@[simp] theorem State.countSl_sl (f : SlCounters → SlCounters) : (s.countSl f).sl = { s.sl with counts := f s.sl.counts } := rfl

/-! State.onSeat -/

@[simp] theorem State.onSeat_pending (p : SeatNo) (f : Seat → Seat) : (s.onSeat p f).pending = s.pending := rfl
@[simp] theorem State.onSeat_ev (p : SeatNo) (f : Seat → Seat) : (s.onSeat p f).ev = s.ev := rfl
@[simp] theorem State.onSeat_free (p : SeatNo) (f : Seat → Seat) : (s.onSeat p f).free = s.free := rfl
@[simp] theorem State.onSeat_resetLine (p : SeatNo) (f : Seat → Seat) : (s.onSeat p f).resetLine = s.resetLine := rfl
@[simp] theorem State.onSeat_memory (p : SeatNo) (f : Seat → Seat) : (s.onSeat p f).memory = s.memory := rfl
@[simp] theorem State.onSeat_ct (p : SeatNo) (f : Seat → Seat) : (s.onSeat p f).ct = s.ct := rfl
@[simp] theorem State.onSeat_mc (p : SeatNo) (f : Seat → Seat) : (s.onSeat p f).mc = s.mc := rfl
@[simp] theorem State.onSeat_sau (p : SeatNo) (f : Seat → Seat) : (s.onSeat p f).sau = s.sau := rfl
@[simp] theorem State.onSeat_el (p : SeatNo) (f : Seat → Seat) : (s.onSeat p f).el = s.el := rfl
@[simp] theorem State.onSeat_fs (p : SeatNo) (f : Seat → Seat) : (s.onSeat p f).fs = s.fs := rfl
@[simp] theorem State.onSeat_clb (p : SeatNo) (f : Seat → Seat) : (s.onSeat p f).clb = s.clb := rfl
@[simp] theorem State.onSeat_cu (p : SeatNo) (f : Seat → Seat) : (s.onSeat p f).cu = s.cu := rfl
@[simp] theorem State.onSeat_me (p : SeatNo) (f : Seat → Seat) : (s.onSeat p f).me = s.me := rfl
@[simp] theorem State.onSeat_sl (p : SeatNo) (f : Seat → Seat) : (s.onSeat p f).sl = s.sl := rfl

/-! State.countSeat -/

@[simp] theorem State.countSeat_pending (p : SeatNo) (f : SeatCounters → SeatCounters) :
    (s.countSeat p f).pending = s.pending := rfl
@[simp] theorem State.countSeat_ev (p : SeatNo) (f : SeatCounters → SeatCounters) : (s.countSeat p f).ev = s.ev := rfl
@[simp] theorem State.countSeat_free (p : SeatNo) (f : SeatCounters → SeatCounters) : (s.countSeat p f).free = s.free := rfl
@[simp] theorem State.countSeat_resetLine (p : SeatNo) (f : SeatCounters → SeatCounters) :
    (s.countSeat p f).resetLine = s.resetLine := rfl
@[simp] theorem State.countSeat_memory (p : SeatNo) (f : SeatCounters → SeatCounters) :
    (s.countSeat p f).memory = s.memory := rfl
@[simp] theorem State.countSeat_ct (p : SeatNo) (f : SeatCounters → SeatCounters) : (s.countSeat p f).ct = s.ct := rfl
@[simp] theorem State.countSeat_mc (p : SeatNo) (f : SeatCounters → SeatCounters) : (s.countSeat p f).mc = s.mc := rfl
@[simp] theorem State.countSeat_sau (p : SeatNo) (f : SeatCounters → SeatCounters) : (s.countSeat p f).sau = s.sau := rfl
@[simp] theorem State.countSeat_el (p : SeatNo) (f : SeatCounters → SeatCounters) : (s.countSeat p f).el = s.el := rfl
@[simp] theorem State.countSeat_fs (p : SeatNo) (f : SeatCounters → SeatCounters) : (s.countSeat p f).fs = s.fs := rfl
@[simp] theorem State.countSeat_clb (p : SeatNo) (f : SeatCounters → SeatCounters) : (s.countSeat p f).clb = s.clb := rfl
@[simp] theorem State.countSeat_cu (p : SeatNo) (f : SeatCounters → SeatCounters) : (s.countSeat p f).cu = s.cu := rfl
@[simp] theorem State.countSeat_me (p : SeatNo) (f : SeatCounters → SeatCounters) : (s.countSeat p f).me = s.me := rfl
@[simp] theorem State.countSeat_sl (p : SeatNo) (f : SeatCounters → SeatCounters) : (s.countSeat p f).sl = s.sl := rfl

/-! State.onTrunk -/

@[simp] theorem State.onTrunk_pending (t : TrunkNo) (f : Trunk → Trunk) : (s.onTrunk t f).pending = s.pending := rfl
@[simp] theorem State.onTrunk_ev (t : TrunkNo) (f : Trunk → Trunk) : (s.onTrunk t f).ev = s.ev := rfl
@[simp] theorem State.onTrunk_free (t : TrunkNo) (f : Trunk → Trunk) : (s.onTrunk t f).free = s.free := rfl
@[simp] theorem State.onTrunk_resetLine (t : TrunkNo) (f : Trunk → Trunk) : (s.onTrunk t f).resetLine = s.resetLine := rfl
@[simp] theorem State.onTrunk_memory (t : TrunkNo) (f : Trunk → Trunk) : (s.onTrunk t f).memory = s.memory := rfl
@[simp] theorem State.onTrunk_ct (t : TrunkNo) (f : Trunk → Trunk) : (s.onTrunk t f).ct = s.ct := rfl
@[simp] theorem State.onTrunk_mc (t : TrunkNo) (f : Trunk → Trunk) : (s.onTrunk t f).mc = s.mc := rfl
@[simp] theorem State.onTrunk_sau (t : TrunkNo) (f : Trunk → Trunk) : (s.onTrunk t f).sau = s.sau := rfl
@[simp] theorem State.onTrunk_el (t : TrunkNo) (f : Trunk → Trunk) : (s.onTrunk t f).el = s.el := rfl
@[simp] theorem State.onTrunk_fs (t : TrunkNo) (f : Trunk → Trunk) : (s.onTrunk t f).fs = s.fs := rfl
@[simp] theorem State.onTrunk_clb (t : TrunkNo) (f : Trunk → Trunk) : (s.onTrunk t f).clb = s.clb := rfl
@[simp] theorem State.onTrunk_cu (t : TrunkNo) (f : Trunk → Trunk) : (s.onTrunk t f).cu = s.cu := rfl
@[simp] theorem State.onTrunk_me (t : TrunkNo) (f : Trunk → Trunk) : (s.onTrunk t f).me = s.me := rfl
@[simp] theorem State.onTrunk_sl (t : TrunkNo) (f : Trunk → Trunk) : (s.onTrunk t f).sl = s.sl := rfl

/-! State.onLink -/

@[simp] theorem State.onLink_pending (c : LinkNo) (f : Link → Link) : (s.onLink c f).pending = s.pending := rfl
@[simp] theorem State.onLink_ev (c : LinkNo) (f : Link → Link) : (s.onLink c f).ev = s.ev := rfl
@[simp] theorem State.onLink_free (c : LinkNo) (f : Link → Link) : (s.onLink c f).free = s.free := rfl
@[simp] theorem State.onLink_resetLine (c : LinkNo) (f : Link → Link) : (s.onLink c f).resetLine = s.resetLine := rfl
@[simp] theorem State.onLink_memory (c : LinkNo) (f : Link → Link) : (s.onLink c f).memory = s.memory := rfl
@[simp] theorem State.onLink_ct (c : LinkNo) (f : Link → Link) : (s.onLink c f).ct = s.ct := rfl
@[simp] theorem State.onLink_mc (c : LinkNo) (f : Link → Link) : (s.onLink c f).mc = s.mc := rfl
@[simp] theorem State.onLink_sau (c : LinkNo) (f : Link → Link) : (s.onLink c f).sau = s.sau := rfl
@[simp] theorem State.onLink_el (c : LinkNo) (f : Link → Link) : (s.onLink c f).el = s.el := rfl
@[simp] theorem State.onLink_fs (c : LinkNo) (f : Link → Link) : (s.onLink c f).fs = s.fs := rfl
@[simp] theorem State.onLink_spb (c : LinkNo) (f : Link → Link) : (s.onLink c f).spb = s.spb := rfl
@[simp] theorem State.onLink_cu (c : LinkNo) (f : Link → Link) : (s.onLink c f).cu = s.cu := rfl
@[simp] theorem State.onLink_me (c : LinkNo) (f : Link → Link) : (s.onLink c f).me = s.me := rfl
@[simp] theorem State.onLink_sl (c : LinkNo) (f : Link → Link) : (s.onLink c f).sl = s.sl := rfl

/-! State.countLink -/

@[simp] theorem State.countLink_pending (c : LinkNo) (f : LinkCounters → LinkCounters) :
    (s.countLink c f).pending = s.pending := rfl
@[simp] theorem State.countLink_ev (c : LinkNo) (f : LinkCounters → LinkCounters) : (s.countLink c f).ev = s.ev := rfl
@[simp] theorem State.countLink_free (c : LinkNo) (f : LinkCounters → LinkCounters) : (s.countLink c f).free = s.free := rfl
@[simp] theorem State.countLink_resetLine (c : LinkNo) (f : LinkCounters → LinkCounters) :
    (s.countLink c f).resetLine = s.resetLine := rfl
@[simp] theorem State.countLink_memory (c : LinkNo) (f : LinkCounters → LinkCounters) :
    (s.countLink c f).memory = s.memory := rfl
@[simp] theorem State.countLink_ct (c : LinkNo) (f : LinkCounters → LinkCounters) : (s.countLink c f).ct = s.ct := rfl
@[simp] theorem State.countLink_mc (c : LinkNo) (f : LinkCounters → LinkCounters) : (s.countLink c f).mc = s.mc := rfl
@[simp] theorem State.countLink_sau (c : LinkNo) (f : LinkCounters → LinkCounters) : (s.countLink c f).sau = s.sau := rfl
@[simp] theorem State.countLink_el (c : LinkNo) (f : LinkCounters → LinkCounters) : (s.countLink c f).el = s.el := rfl
@[simp] theorem State.countLink_fs (c : LinkNo) (f : LinkCounters → LinkCounters) : (s.countLink c f).fs = s.fs := rfl
@[simp] theorem State.countLink_spb (c : LinkNo) (f : LinkCounters → LinkCounters) : (s.countLink c f).spb = s.spb := rfl
@[simp] theorem State.countLink_cu (c : LinkNo) (f : LinkCounters → LinkCounters) : (s.countLink c f).cu = s.cu := rfl
@[simp] theorem State.countLink_me (c : LinkNo) (f : LinkCounters → LinkCounters) : (s.countLink c f).me = s.me := rfl
@[simp] theorem State.countLink_sl (c : LinkNo) (f : LinkCounters → LinkCounters) : (s.countLink c f).sl = s.sl := rfl

/-! State.onSide -/

@[simp] theorem State.onSide_pending (side : Side) (f : Backbone → Backbone) : (s.onSide side f).pending = s.pending := rfl
@[simp] theorem State.onSide_ev (side : Side) (f : Backbone → Backbone) : (s.onSide side f).ev = s.ev := rfl
@[simp] theorem State.onSide_free (side : Side) (f : Backbone → Backbone) : (s.onSide side f).free = s.free := rfl
@[simp] theorem State.onSide_resetLine (side : Side) (f : Backbone → Backbone) :
    (s.onSide side f).resetLine = s.resetLine := rfl
@[simp] theorem State.onSide_memory (side : Side) (f : Backbone → Backbone) : (s.onSide side f).memory = s.memory := rfl
@[simp] theorem State.onSide_ct (side : Side) (f : Backbone → Backbone) : (s.onSide side f).ct = s.ct := rfl
@[simp] theorem State.onSide_mc (side : Side) (f : Backbone → Backbone) : (s.onSide side f).mc = s.mc := rfl
@[simp] theorem State.onSide_sau (side : Side) (f : Backbone → Backbone) : (s.onSide side f).sau = s.sau := rfl
@[simp] theorem State.onSide_el (side : Side) (f : Backbone → Backbone) : (s.onSide side f).el = s.el := rfl
@[simp] theorem State.onSide_fs (side : Side) (f : Backbone → Backbone) : (s.onSide side f).fs = s.fs := rfl
@[simp] theorem State.onSide_spb (side : Side) (f : Backbone → Backbone) : (s.onSide side f).spb = s.spb := rfl
@[simp] theorem State.onSide_clb (side : Side) (f : Backbone → Backbone) : (s.onSide side f).clb = s.clb := rfl
@[simp] theorem State.onSide_me (side : Side) (f : Backbone → Backbone) : (s.onSide side f).me = s.me := rfl
@[simp] theorem State.onSide_sl (side : Side) (f : Backbone → Backbone) : (s.onSide side f).sl = s.sl := rfl

/-! State.countSide -/

@[simp] theorem State.countSide_pending (side : Side) (f : CuCounters → CuCounters) :
    (s.countSide side f).pending = s.pending := rfl
@[simp] theorem State.countSide_ev (side : Side) (f : CuCounters → CuCounters) : (s.countSide side f).ev = s.ev := rfl
@[simp] theorem State.countSide_free (side : Side) (f : CuCounters → CuCounters) : (s.countSide side f).free = s.free := rfl
@[simp] theorem State.countSide_resetLine (side : Side) (f : CuCounters → CuCounters) :
    (s.countSide side f).resetLine = s.resetLine := rfl
@[simp] theorem State.countSide_memory (side : Side) (f : CuCounters → CuCounters) :
    (s.countSide side f).memory = s.memory := rfl
@[simp] theorem State.countSide_ct (side : Side) (f : CuCounters → CuCounters) : (s.countSide side f).ct = s.ct := rfl
@[simp] theorem State.countSide_mc (side : Side) (f : CuCounters → CuCounters) : (s.countSide side f).mc = s.mc := rfl
@[simp] theorem State.countSide_sau (side : Side) (f : CuCounters → CuCounters) : (s.countSide side f).sau = s.sau := rfl
@[simp] theorem State.countSide_el (side : Side) (f : CuCounters → CuCounters) : (s.countSide side f).el = s.el := rfl
@[simp] theorem State.countSide_fs (side : Side) (f : CuCounters → CuCounters) : (s.countSide side f).fs = s.fs := rfl
@[simp] theorem State.countSide_spb (side : Side) (f : CuCounters → CuCounters) : (s.countSide side f).spb = s.spb := rfl
@[simp] theorem State.countSide_clb (side : Side) (f : CuCounters → CuCounters) : (s.countSide side f).clb = s.clb := rfl
@[simp] theorem State.countSide_me (side : Side) (f : CuCounters → CuCounters) : (s.countSide side f).me = s.me := rfl
@[simp] theorem State.countSide_sl (side : Side) (f : CuCounters → CuCounters) : (s.countSide side f).sl = s.sl := rfl

/-! State.setQueue -/

@[simp] theorem State.setQueue_pending (port : Port) (q : Egress) : (s.setQueue port q).pending = s.pending := rfl
@[simp] theorem State.setQueue_ev (port : Port) (q : Egress) : (s.setQueue port q).ev = s.ev := rfl
@[simp] theorem State.setQueue_free (port : Port) (q : Egress) : (s.setQueue port q).free = s.free := rfl
@[simp] theorem State.setQueue_resetLine (port : Port) (q : Egress) : (s.setQueue port q).resetLine = s.resetLine := rfl
@[simp] theorem State.setQueue_memory (port : Port) (q : Egress) : (s.setQueue port q).memory = s.memory := rfl
@[simp] theorem State.setQueue_ct (port : Port) (q : Egress) : (s.setQueue port q).ct = s.ct := rfl
@[simp] theorem State.setQueue_mc (port : Port) (q : Egress) : (s.setQueue port q).mc = s.mc := rfl
@[simp] theorem State.setQueue_sau (port : Port) (q : Egress) : (s.setQueue port q).sau = s.sau := rfl
@[simp] theorem State.setQueue_el (port : Port) (q : Egress) : (s.setQueue port q).el = s.el := rfl
@[simp] theorem State.setQueue_spb (port : Port) (q : Egress) : (s.setQueue port q).spb = s.spb := rfl
@[simp] theorem State.setQueue_clb (port : Port) (q : Egress) : (s.setQueue port q).clb = s.clb := rfl
@[simp] theorem State.setQueue_cu (port : Port) (q : Egress) : (s.setQueue port q).cu = s.cu := rfl
@[simp] theorem State.setQueue_me (port : Port) (q : Egress) : (s.setQueue port q).me = s.me := rfl
@[simp] theorem State.setQueue_sl (port : Port) (q : Egress) : (s.setQueue port q).sl = s.sl := rfl

/-! State.onQueue -/

@[simp] theorem State.onQueue_pending (port : Port) (f : Egress → Egress) : (s.onQueue port f).pending = s.pending := rfl
@[simp] theorem State.onQueue_ev (port : Port) (f : Egress → Egress) : (s.onQueue port f).ev = s.ev := rfl
@[simp] theorem State.onQueue_free (port : Port) (f : Egress → Egress) : (s.onQueue port f).free = s.free := rfl
@[simp] theorem State.onQueue_resetLine (port : Port) (f : Egress → Egress) : (s.onQueue port f).resetLine = s.resetLine := rfl
@[simp] theorem State.onQueue_memory (port : Port) (f : Egress → Egress) : (s.onQueue port f).memory = s.memory := rfl
@[simp] theorem State.onQueue_ct (port : Port) (f : Egress → Egress) : (s.onQueue port f).ct = s.ct := rfl
@[simp] theorem State.onQueue_mc (port : Port) (f : Egress → Egress) : (s.onQueue port f).mc = s.mc := rfl
@[simp] theorem State.onQueue_sau (port : Port) (f : Egress → Egress) : (s.onQueue port f).sau = s.sau := rfl
@[simp] theorem State.onQueue_el (port : Port) (f : Egress → Egress) : (s.onQueue port f).el = s.el := rfl
@[simp] theorem State.onQueue_spb (port : Port) (f : Egress → Egress) : (s.onQueue port f).spb = s.spb := rfl
@[simp] theorem State.onQueue_clb (port : Port) (f : Egress → Egress) : (s.onQueue port f).clb = s.clb := rfl
@[simp] theorem State.onQueue_cu (port : Port) (f : Egress → Egress) : (s.onQueue port f).cu = s.cu := rfl
@[simp] theorem State.onQueue_me (port : Port) (f : Egress → Egress) : (s.onQueue port f).me = s.me := rfl
@[simp] theorem State.onQueue_sl (port : Port) (f : Egress → Egress) : (s.onQueue port f).sl = s.sl := rfl

/-! State.countPort -/

@[simp] theorem State.countPort_pending (port : Port) (f : PortCounters → PortCounters) :
    (s.countPort port f).pending = s.pending := rfl
@[simp] theorem State.countPort_ev (port : Port) (f : PortCounters → PortCounters) : (s.countPort port f).ev = s.ev := rfl
@[simp] theorem State.countPort_free (port : Port) (f : PortCounters → PortCounters) : (s.countPort port f).free = s.free := rfl
@[simp] theorem State.countPort_resetLine (port : Port) (f : PortCounters → PortCounters) :
    (s.countPort port f).resetLine = s.resetLine := rfl
@[simp] theorem State.countPort_memory (port : Port) (f : PortCounters → PortCounters) :
    (s.countPort port f).memory = s.memory := rfl
@[simp] theorem State.countPort_ct (port : Port) (f : PortCounters → PortCounters) : (s.countPort port f).ct = s.ct := rfl
@[simp] theorem State.countPort_mc (port : Port) (f : PortCounters → PortCounters) : (s.countPort port f).mc = s.mc := rfl
@[simp] theorem State.countPort_sau (port : Port) (f : PortCounters → PortCounters) : (s.countPort port f).sau = s.sau := rfl
@[simp] theorem State.countPort_el (port : Port) (f : PortCounters → PortCounters) : (s.countPort port f).el = s.el := rfl
@[simp] theorem State.countPort_spb (port : Port) (f : PortCounters → PortCounters) : (s.countPort port f).spb = s.spb := rfl
@[simp] theorem State.countPort_clb (port : Port) (f : PortCounters → PortCounters) : (s.countPort port f).clb = s.clb := rfl
@[simp] theorem State.countPort_cu (port : Port) (f : PortCounters → PortCounters) : (s.countPort port f).cu = s.cu := rfl
@[simp] theorem State.countPort_me (port : Port) (f : PortCounters → PortCounters) : (s.countPort port f).me = s.me := rfl
@[simp] theorem State.countPort_sl (port : Port) (f : PortCounters → PortCounters) : (s.countPort port f).sl = s.sl := rfl

/-! State.putRecord -/

@[simp] theorem State.putRecord_pending (n : Nat) (r : Record) : (s.putRecord n r).pending = s.pending := rfl
@[simp] theorem State.putRecord_ev (n : Nat) (r : Record) : (s.putRecord n r).ev = s.ev := rfl
@[simp] theorem State.putRecord_free (n : Nat) (r : Record) : (s.putRecord n r).free = s.free := rfl
@[simp] theorem State.putRecord_resetLine (n : Nat) (r : Record) : (s.putRecord n r).resetLine = s.resetLine := rfl
@[simp] theorem State.putRecord_memory (n : Nat) (r : Record) : (s.putRecord n r).memory = s.memory := rfl
@[simp] theorem State.putRecord_mc (n : Nat) (r : Record) : (s.putRecord n r).mc = s.mc := rfl
@[simp] theorem State.putRecord_sau (n : Nat) (r : Record) : (s.putRecord n r).sau = s.sau := rfl
@[simp] theorem State.putRecord_el (n : Nat) (r : Record) : (s.putRecord n r).el = s.el := rfl
@[simp] theorem State.putRecord_fs (n : Nat) (r : Record) : (s.putRecord n r).fs = s.fs := rfl
@[simp] theorem State.putRecord_spb (n : Nat) (r : Record) : (s.putRecord n r).spb = s.spb := rfl
@[simp] theorem State.putRecord_clb (n : Nat) (r : Record) : (s.putRecord n r).clb = s.clb := rfl
@[simp] theorem State.putRecord_cu (n : Nat) (r : Record) : (s.putRecord n r).cu = s.cu := rfl
@[simp] theorem State.putRecord_me (n : Nat) (r : Record) : (s.putRecord n r).me = s.me := rfl
@[simp] theorem State.putRecord_sl (n : Nat) (r : Record) : (s.putRecord n r).sl = s.sl := rfl

/-! State.delRecord -/

@[simp] theorem State.delRecord_pending (n : Nat) : (s.delRecord n).pending = s.pending := rfl
@[simp] theorem State.delRecord_ev (n : Nat) : (s.delRecord n).ev = s.ev := rfl
@[simp] theorem State.delRecord_free (n : Nat) : (s.delRecord n).free = s.free := rfl
@[simp] theorem State.delRecord_resetLine (n : Nat) : (s.delRecord n).resetLine = s.resetLine := rfl
@[simp] theorem State.delRecord_memory (n : Nat) : (s.delRecord n).memory = s.memory := rfl
@[simp] theorem State.delRecord_mc (n : Nat) : (s.delRecord n).mc = s.mc := rfl
@[simp] theorem State.delRecord_sau (n : Nat) : (s.delRecord n).sau = s.sau := rfl
@[simp] theorem State.delRecord_el (n : Nat) : (s.delRecord n).el = s.el := rfl
@[simp] theorem State.delRecord_fs (n : Nat) : (s.delRecord n).fs = s.fs := rfl
@[simp] theorem State.delRecord_spb (n : Nat) : (s.delRecord n).spb = s.spb := rfl
@[simp] theorem State.delRecord_clb (n : Nat) : (s.delRecord n).clb = s.clb := rfl
@[simp] theorem State.delRecord_cu (n : Nat) : (s.delRecord n).cu = s.cu := rfl
@[simp] theorem State.delRecord_me (n : Nat) : (s.delRecord n).me = s.me := rfl
@[simp] theorem State.delRecord_sl (n : Nat) : (s.delRecord n).sl = s.sl := rfl

/-! State.onRecord -/

@[simp] theorem State.onRecord_pending (n : Nat) (f : Record → Record) : (s.onRecord n f).pending = s.pending := rfl
@[simp] theorem State.onRecord_ev (n : Nat) (f : Record → Record) : (s.onRecord n f).ev = s.ev := rfl
@[simp] theorem State.onRecord_free (n : Nat) (f : Record → Record) : (s.onRecord n f).free = s.free := rfl
@[simp] theorem State.onRecord_resetLine (n : Nat) (f : Record → Record) : (s.onRecord n f).resetLine = s.resetLine := rfl
@[simp] theorem State.onRecord_memory (n : Nat) (f : Record → Record) : (s.onRecord n f).memory = s.memory := rfl
@[simp] theorem State.onRecord_mc (n : Nat) (f : Record → Record) : (s.onRecord n f).mc = s.mc := rfl
@[simp] theorem State.onRecord_sau (n : Nat) (f : Record → Record) : (s.onRecord n f).sau = s.sau := rfl
@[simp] theorem State.onRecord_el (n : Nat) (f : Record → Record) : (s.onRecord n f).el = s.el := rfl
@[simp] theorem State.onRecord_fs (n : Nat) (f : Record → Record) : (s.onRecord n f).fs = s.fs := rfl
@[simp] theorem State.onRecord_spb (n : Nat) (f : Record → Record) : (s.onRecord n f).spb = s.spb := rfl
@[simp] theorem State.onRecord_clb (n : Nat) (f : Record → Record) : (s.onRecord n f).clb = s.clb := rfl
@[simp] theorem State.onRecord_cu (n : Nat) (f : Record → Record) : (s.onRecord n f).cu = s.cu := rfl
@[simp] theorem State.onRecord_me (n : Nat) (f : Record → Record) : (s.onRecord n f).me = s.me := rfl
@[simp] theorem State.onRecord_sl (n : Nat) (f : Record → Record) : (s.onRecord n f).sl = s.sl := rfl

/-! State.emit -/

@[simp] theorem State.emit_pending (x : Output) : (s.emit x).pending = s.pending := rfl
@[simp] theorem State.emit_free (x : Output) : (s.emit x).free = s.free := rfl
@[simp] theorem State.emit_resetLine (x : Output) : (s.emit x).resetLine = s.resetLine := rfl
@[simp] theorem State.emit_memory (x : Output) : (s.emit x).memory = s.memory := rfl
@[simp] theorem State.emit_ct (x : Output) : (s.emit x).ct = s.ct := rfl
@[simp] theorem State.emit_mc (x : Output) : (s.emit x).mc = s.mc := rfl
@[simp] theorem State.emit_sau (x : Output) : (s.emit x).sau = s.sau := rfl
@[simp] theorem State.emit_el (x : Output) : (s.emit x).el = s.el := rfl
@[simp] theorem State.emit_fs (x : Output) : (s.emit x).fs = s.fs := rfl
@[simp] theorem State.emit_spb (x : Output) : (s.emit x).spb = s.spb := rfl
@[simp] theorem State.emit_clb (x : Output) : (s.emit x).clb = s.clb := rfl
@[simp] theorem State.emit_cu (x : Output) : (s.emit x).cu = s.cu := rfl
@[simp] theorem State.emit_me (x : Output) : (s.emit x).me = s.me := rfl
@[simp] theorem State.emit_sl (x : Output) : (s.emit x).sl = s.sl := rfl

/-! State.pushResponse -/

@[simp] theorem State.pushResponse_pending (r : Response) : (s.pushResponse r).pending = s.pending := rfl
@[simp] theorem State.pushResponse_free (r : Response) : (s.pushResponse r).free = s.free := rfl
@[simp] theorem State.pushResponse_resetLine (r : Response) : (s.pushResponse r).resetLine = s.resetLine := rfl
@[simp] theorem State.pushResponse_memory (r : Response) : (s.pushResponse r).memory = s.memory := rfl
@[simp] theorem State.pushResponse_ct (r : Response) : (s.pushResponse r).ct = s.ct := rfl
@[simp] theorem State.pushResponse_mc (r : Response) : (s.pushResponse r).mc = s.mc := rfl
@[simp] theorem State.pushResponse_sau (r : Response) : (s.pushResponse r).sau = s.sau := rfl
@[simp] theorem State.pushResponse_el (r : Response) : (s.pushResponse r).el = s.el := rfl
@[simp] theorem State.pushResponse_fs (r : Response) : (s.pushResponse r).fs = s.fs := rfl
@[simp] theorem State.pushResponse_spb (r : Response) : (s.pushResponse r).spb = s.spb := rfl
@[simp] theorem State.pushResponse_clb (r : Response) : (s.pushResponse r).clb = s.clb := rfl
@[simp] theorem State.pushResponse_cu (r : Response) : (s.pushResponse r).cu = s.cu := rfl
@[simp] theorem State.pushResponse_me (r : Response) : (s.pushResponse r).me = s.me := rfl
@[simp] theorem State.pushResponse_sl (r : Response) : (s.pushResponse r).sl = s.sl := rfl

/-! State.raise -/

@[simp] theorem State.raise_pending (c : Cause) : (s.raise c).pending = s.pending := rfl
@[simp] theorem State.raise_ev (c : Cause) : (s.raise c).ev = s.ev := rfl
@[simp] theorem State.raise_free (c : Cause) : (s.raise c).free = s.free := rfl
@[simp] theorem State.raise_resetLine (c : Cause) : (s.raise c).resetLine = s.resetLine := rfl
@[simp] theorem State.raise_memory (c : Cause) : (s.raise c).memory = s.memory := rfl
@[simp] theorem State.raise_ct (c : Cause) : (s.raise c).ct = s.ct := rfl
@[simp] theorem State.raise_mc (c : Cause) : (s.raise c).mc = s.mc := rfl
@[simp] theorem State.raise_sau (c : Cause) : (s.raise c).sau = s.sau := rfl
@[simp] theorem State.raise_el (c : Cause) : (s.raise c).el = s.el := rfl
@[simp] theorem State.raise_fs (c : Cause) : (s.raise c).fs = s.fs := rfl
@[simp] theorem State.raise_spb (c : Cause) : (s.raise c).spb = s.spb := rfl
@[simp] theorem State.raise_clb (c : Cause) : (s.raise c).clb = s.clb := rfl
@[simp] theorem State.raise_cu (c : Cause) : (s.raise c).cu = s.cu := rfl
@[simp] theorem State.raise_sl (c : Cause) : (s.raise c).sl = s.sl := rfl

/-! State.addRef -/

@[simp] theorem State.addRef_pending (k : Nat) : (s.addRef k).pending = s.pending := rfl
@[simp] theorem State.addRef_ev (k : Nat) : (s.addRef k).ev = s.ev := rfl
@[simp] theorem State.addRef_free (k : Nat) : (s.addRef k).free = s.free := rfl
@[simp] theorem State.addRef_resetLine (k : Nat) : (s.addRef k).resetLine = s.resetLine := rfl
@[simp] theorem State.addRef_memory (k : Nat) : (s.addRef k).memory = s.memory := rfl
@[simp] theorem State.addRef_ct (k : Nat) : (s.addRef k).ct = s.ct := rfl
@[simp] theorem State.addRef_mc (k : Nat) : (s.addRef k).mc = s.mc := rfl
@[simp] theorem State.addRef_sau (k : Nat) : (s.addRef k).sau = s.sau := rfl
@[simp] theorem State.addRef_el (k : Nat) : (s.addRef k).el = s.el := rfl
@[simp] theorem State.addRef_spb (k : Nat) : (s.addRef k).spb = s.spb := rfl
@[simp] theorem State.addRef_clb (k : Nat) : (s.addRef k).clb = s.clb := rfl
@[simp] theorem State.addRef_cu (k : Nat) : (s.addRef k).cu = s.cu := rfl
@[simp] theorem State.addRef_me (k : Nat) : (s.addRef k).me = s.me := rfl
@[simp] theorem State.addRef_sl (k : Nat) : (s.addRef k).sl = s.sl := rfl

/-! State.onStation -/

@[simp] theorem State.onStation_pending (x : Addr) (f : Station → Station) : (s.onStation x f).pending = s.pending := rfl
@[simp] theorem State.onStation_ev (x : Addr) (f : Station → Station) : (s.onStation x f).ev = s.ev := rfl
@[simp] theorem State.onStation_free (x : Addr) (f : Station → Station) : (s.onStation x f).free = s.free := rfl
@[simp] theorem State.onStation_resetLine (x : Addr) (f : Station → Station) : (s.onStation x f).resetLine = s.resetLine := rfl
@[simp] theorem State.onStation_memory (x : Addr) (f : Station → Station) : (s.onStation x f).memory = s.memory := rfl
@[simp] theorem State.onStation_ct (x : Addr) (f : Station → Station) : (s.onStation x f).ct = s.ct := rfl
@[simp] theorem State.onStation_mc (x : Addr) (f : Station → Station) : (s.onStation x f).mc = s.mc := rfl
@[simp] theorem State.onStation_sau (x : Addr) (f : Station → Station) : (s.onStation x f).sau = s.sau := rfl
@[simp] theorem State.onStation_el (x : Addr) (f : Station → Station) : (s.onStation x f).el = s.el := rfl
@[simp] theorem State.onStation_fs (x : Addr) (f : Station → Station) : (s.onStation x f).fs = s.fs := rfl
@[simp] theorem State.onStation_spb (x : Addr) (f : Station → Station) : (s.onStation x f).spb = s.spb := rfl
@[simp] theorem State.onStation_clb (x : Addr) (f : Station → Station) : (s.onStation x f).clb = s.clb := rfl
@[simp] theorem State.onStation_cu (x : Addr) (f : Station → Station) : (s.onStation x f).cu = s.cu := rfl
@[simp] theorem State.onStation_sl (x : Addr) (f : Station → Station) : (s.onStation x f).sl = s.sl := rfl

/-! State.leaveWaiting -/

@[simp] theorem State.leaveWaiting_pending (n : Nat) : (s.leaveWaiting n).pending = s.pending := rfl
@[simp] theorem State.leaveWaiting_ev (n : Nat) : (s.leaveWaiting n).ev = s.ev := rfl
@[simp] theorem State.leaveWaiting_free (n : Nat) : (s.leaveWaiting n).free = s.free := rfl
@[simp] theorem State.leaveWaiting_resetLine (n : Nat) : (s.leaveWaiting n).resetLine = s.resetLine := rfl
@[simp] theorem State.leaveWaiting_memory (n : Nat) : (s.leaveWaiting n).memory = s.memory := rfl
@[simp] theorem State.leaveWaiting_ct (n : Nat) : (s.leaveWaiting n).ct = s.ct := rfl
@[simp] theorem State.leaveWaiting_mc (n : Nat) : (s.leaveWaiting n).mc = s.mc := rfl
@[simp] theorem State.leaveWaiting_el (n : Nat) : (s.leaveWaiting n).el = s.el := rfl
@[simp] theorem State.leaveWaiting_fs (n : Nat) : (s.leaveWaiting n).fs = s.fs := rfl
@[simp] theorem State.leaveWaiting_spb (n : Nat) : (s.leaveWaiting n).spb = s.spb := rfl
@[simp] theorem State.leaveWaiting_clb (n : Nat) : (s.leaveWaiting n).clb = s.clb := rfl
@[simp] theorem State.leaveWaiting_cu (n : Nat) : (s.leaveWaiting n).cu = s.cu := rfl
@[simp] theorem State.leaveWaiting_me (n : Nat) : (s.leaveWaiting n).me = s.me := rfl
@[simp] theorem State.leaveWaiting_sl (n : Nat) : (s.leaveWaiting n).sl = s.sl := rfl

/-! State.insertDeferral -/

@[simp] theorem State.insertDeferral_pending (x : Addr) : (s.insertDeferral x).pending = s.pending := rfl
@[simp] theorem State.insertDeferral_ev (x : Addr) : (s.insertDeferral x).ev = s.ev := rfl
@[simp] theorem State.insertDeferral_free (x : Addr) : (s.insertDeferral x).free = s.free := rfl
@[simp] theorem State.insertDeferral_resetLine (x : Addr) : (s.insertDeferral x).resetLine = s.resetLine := rfl
@[simp] theorem State.insertDeferral_memory (x : Addr) : (s.insertDeferral x).memory = s.memory := rfl
@[simp] theorem State.insertDeferral_ct (x : Addr) : (s.insertDeferral x).ct = s.ct := rfl
@[simp] theorem State.insertDeferral_mc (x : Addr) : (s.insertDeferral x).mc = s.mc := rfl
@[simp] theorem State.insertDeferral_sau (x : Addr) : (s.insertDeferral x).sau = s.sau := rfl
@[simp] theorem State.insertDeferral_el (x : Addr) : (s.insertDeferral x).el = s.el := rfl
@[simp] theorem State.insertDeferral_fs (x : Addr) : (s.insertDeferral x).fs = s.fs := rfl
@[simp] theorem State.insertDeferral_spb (x : Addr) : (s.insertDeferral x).spb = s.spb := rfl
@[simp] theorem State.insertDeferral_cu (x : Addr) : (s.insertDeferral x).cu = s.cu := rfl
@[simp] theorem State.insertDeferral_me (x : Addr) : (s.insertDeferral x).me = s.me := rfl
@[simp] theorem State.insertDeferral_sl (x : Addr) : (s.insertDeferral x).sl = s.sl := rfl

/-! State.removeDeferral -/

@[simp] theorem State.removeDeferral_pending (x : Addr) : (s.removeDeferral x).pending = s.pending := rfl
@[simp] theorem State.removeDeferral_ev (x : Addr) : (s.removeDeferral x).ev = s.ev := rfl
@[simp] theorem State.removeDeferral_free (x : Addr) : (s.removeDeferral x).free = s.free := rfl
@[simp] theorem State.removeDeferral_resetLine (x : Addr) : (s.removeDeferral x).resetLine = s.resetLine := rfl
@[simp] theorem State.removeDeferral_memory (x : Addr) : (s.removeDeferral x).memory = s.memory := rfl
@[simp] theorem State.removeDeferral_ct (x : Addr) : (s.removeDeferral x).ct = s.ct := rfl
@[simp] theorem State.removeDeferral_mc (x : Addr) : (s.removeDeferral x).mc = s.mc := rfl
@[simp] theorem State.removeDeferral_sau (x : Addr) : (s.removeDeferral x).sau = s.sau := rfl
@[simp] theorem State.removeDeferral_el (x : Addr) : (s.removeDeferral x).el = s.el := rfl
@[simp] theorem State.removeDeferral_fs (x : Addr) : (s.removeDeferral x).fs = s.fs := rfl
@[simp] theorem State.removeDeferral_spb (x : Addr) : (s.removeDeferral x).spb = s.spb := rfl
@[simp] theorem State.removeDeferral_cu (x : Addr) : (s.removeDeferral x).cu = s.cu := rfl
@[simp] theorem State.removeDeferral_me (x : Addr) : (s.removeDeferral x).me = s.me := rfl
@[simp] theorem State.removeDeferral_sl (x : Addr) : (s.removeDeferral x).sl = s.sl := rfl

/-! State.setCredits -/

@[simp] theorem State.setCredits_pending (credit : Class → Nat) : (s.setCredits credit).pending = s.pending := rfl
@[simp] theorem State.setCredits_ev (credit : Class → Nat) : (s.setCredits credit).ev = s.ev := rfl
@[simp] theorem State.setCredits_free (credit : Class → Nat) : (s.setCredits credit).free = s.free := rfl
@[simp] theorem State.setCredits_resetLine (credit : Class → Nat) : (s.setCredits credit).resetLine = s.resetLine := rfl
@[simp] theorem State.setCredits_memory (credit : Class → Nat) : (s.setCredits credit).memory = s.memory := rfl
@[simp] theorem State.setCredits_mc (credit : Class → Nat) : (s.setCredits credit).mc = s.mc := rfl
@[simp] theorem State.setCredits_sau (credit : Class → Nat) : (s.setCredits credit).sau = s.sau := rfl
@[simp] theorem State.setCredits_el (credit : Class → Nat) : (s.setCredits credit).el = s.el := rfl
@[simp] theorem State.setCredits_fs (credit : Class → Nat) : (s.setCredits credit).fs = s.fs := rfl
@[simp] theorem State.setCredits_spb (credit : Class → Nat) : (s.setCredits credit).spb = s.spb := rfl
@[simp] theorem State.setCredits_clb (credit : Class → Nat) : (s.setCredits credit).clb = s.clb := rfl
@[simp] theorem State.setCredits_cu (credit : Class → Nat) : (s.setCredits credit).cu = s.cu := rfl
@[simp] theorem State.setCredits_me (credit : Class → Nat) : (s.setCredits credit).me = s.me := rfl
@[simp] theorem State.setCredits_sl (credit : Class → Nat) : (s.setCredits credit).sl = s.sl := rfl

end Sys2Proof.Machine
end

