-- ==== Sys2Proof/Laws/Touch.lean ====
section
/-! SUPPORT. What each shared operation leaves unchanged: one lemma for each, a conjunction that names every block the operation
does not write. A proof cites these and does not unfold the operation. -/

namespace Sys2Proof.Machine

/-- A fold of steps that each keep a view keeps it. -/
theorem foldl_keeps {α β γ : Type} (g : β → γ) {f : β → α → β} (h : ∀ b a, g (f b a) = g b) (l : List α) {b : β} {c : γ}
    (hb : g b = c) : g (l.foldl f b) = c := by
  induction l generalizing b with
  | nil => exact hb
  | cons a l ih => exact ih ((h b a).trans hb)

variable (s : State)

@[simp] theorem State.lowWater_keeps (n : Nat) : (s.lowWater n).pending = s.pending ∧ (s.lowWater n).ev = s.ev ∧
    (s.lowWater n).free = s.free ∧ (s.lowWater n).resetLine = s.resetLine ∧ (s.lowWater n).memory = s.memory ∧
    (s.lowWater n).ct = s.ct ∧ (s.lowWater n).mc = s.mc ∧ (s.lowWater n).sau = s.sau ∧ (s.lowWater n).el = s.el ∧
    (s.lowWater n).spb = s.spb ∧ (s.lowWater n).clb = s.clb ∧ (s.lowWater n).cu = s.cu ∧ (s.lowWater n).sl = s.sl := by
  unfold State.lowWater; split <;> simp

@[simp] theorem State.freeSlot_keeps (k : Nat) : (s.freeSlot k).pending = s.pending ∧ (s.freeSlot k).ev = s.ev ∧
    (s.freeSlot k).free = s.free ∧ (s.freeSlot k).resetLine = s.resetLine ∧ (s.freeSlot k).memory = s.memory ∧
    (s.freeSlot k).ct = s.ct ∧ (s.freeSlot k).mc = s.mc ∧ (s.freeSlot k).sau = s.sau ∧ (s.freeSlot k).el = s.el ∧
    (s.freeSlot k).spb = s.spb ∧ (s.freeSlot k).clb = s.clb ∧ (s.freeSlot k).cu = s.cu ∧ (s.freeSlot k).me = s.me ∧
    (s.freeSlot k).sl = s.sl := by
  unfold State.freeSlot; dsimp only; split <;> simp

@[simp] theorem State.dropRef_keeps (k : Nat) : (s.dropRef k).pending = s.pending ∧ (s.dropRef k).free = s.free ∧
    (s.dropRef k).resetLine = s.resetLine ∧ (s.dropRef k).memory = s.memory ∧ (s.dropRef k).ct = s.ct ∧
    (s.dropRef k).mc = s.mc ∧ (s.dropRef k).sau = s.sau ∧ (s.dropRef k).el = s.el ∧ (s.dropRef k).spb = s.spb ∧
    (s.dropRef k).clb = s.clb ∧ (s.dropRef k).cu = s.cu ∧ (s.dropRef k).me = s.me ∧ (s.dropRef k).sl = s.sl := by
  unfold State.dropRef; (repeat' split) <;> simp_all

@[simp] theorem State.settle_keeps (k : Nat) : (s.settle k).pending = s.pending ∧ (s.settle k).ev = s.ev ∧
    (s.settle k).free = s.free ∧ (s.settle k).resetLine = s.resetLine ∧ (s.settle k).memory = s.memory ∧
    (s.settle k).ct = s.ct ∧ (s.settle k).mc = s.mc ∧ (s.settle k).sau = s.sau ∧ (s.settle k).el = s.el ∧
    (s.settle k).spb = s.spb ∧ (s.settle k).clb = s.clb ∧ (s.settle k).cu = s.cu ∧ (s.settle k).me = s.me ∧
    (s.settle k).sl = s.sl := by
  unfold State.settle; (repeat' split) <;> simp_all

@[simp] theorem State.beginTransmission_keeps (port : Port) : (s.beginTransmission port).pending = s.pending ∧
    (s.beginTransmission port).ev = s.ev ∧ (s.beginTransmission port).free = s.free ∧
    (s.beginTransmission port).resetLine = s.resetLine ∧ (s.beginTransmission port).memory = s.memory ∧
    (s.beginTransmission port).ct = s.ct ∧ (s.beginTransmission port).mc = s.mc ∧
    (s.beginTransmission port).sau = s.sau ∧ (s.beginTransmission port).el = s.el ∧
    (s.beginTransmission port).spb = s.spb ∧ (s.beginTransmission port).clb = s.clb ∧
    (s.beginTransmission port).cu = s.cu ∧ (s.beginTransmission port).me = s.me ∧ (s.beginTransmission port).sl = s.sl := by
  unfold State.beginTransmission; dsimp only; (repeat' split) <;> simp

@[simp] theorem State.offer_keeps (port : Port) (e : Entry) (looped : Bool) :
    ((s.offer port e looped).1).pending = s.pending ∧ ((s.offer port e looped).1).ev = s.ev ∧
    ((s.offer port e looped).1).free = s.free ∧ ((s.offer port e looped).1).resetLine = s.resetLine ∧
    ((s.offer port e looped).1).memory = s.memory ∧ ((s.offer port e looped).1).ct = s.ct ∧
    ((s.offer port e looped).1).mc = s.mc ∧ ((s.offer port e looped).1).sau = s.sau ∧
    ((s.offer port e looped).1).el = s.el ∧ ((s.offer port e looped).1).spb = s.spb ∧
    ((s.offer port e looped).1).clb = s.clb ∧ ((s.offer port e looped).1).cu = s.cu ∧
    ((s.offer port e looped).1).me = s.me ∧ ((s.offer port e looped).1).sl = s.sl := by
  unfold State.offer; (repeat' split) <;> simp_all

@[simp] theorem State.append_keeps (port : Port) (e : Entry) (looped : Bool) :
    ((s.append port e looped).1).pending = s.pending ∧ ((s.append port e looped).1).ev = s.ev ∧
    ((s.append port e looped).1).free = s.free ∧ ((s.append port e looped).1).resetLine = s.resetLine ∧
    ((s.append port e looped).1).memory = s.memory ∧ ((s.append port e looped).1).ct = s.ct ∧
    ((s.append port e looped).1).mc = s.mc ∧ ((s.append port e looped).1).sau = s.sau ∧
    ((s.append port e looped).1).el = s.el ∧ ((s.append port e looped).1).spb = s.spb ∧
    ((s.append port e looped).1).clb = s.clb ∧ ((s.append port e looped).1).cu = s.cu ∧
    ((s.append port e looped).1).me = s.me ∧ ((s.append port e looped).1).sl = s.sl := by
  unfold State.append; dsimp only; split <;> simp

@[simp] theorem State.goOut_keeps (port : Port) (m : Control) : (s.goOut port m).pending = s.pending ∧
    (s.goOut port m).free = s.free ∧ (s.goOut port m).resetLine = s.resetLine ∧ (s.goOut port m).memory = s.memory ∧
    (s.goOut port m).ct = s.ct ∧ (s.goOut port m).mc = s.mc ∧ (s.goOut port m).sau = s.sau ∧
    (s.goOut port m).el = s.el ∧ (s.goOut port m).fs = s.fs ∧ (s.goOut port m).clb = s.clb ∧
    (s.goOut port m).me = s.me ∧ (s.goOut port m).sl = s.sl := by
  unfold State.goOut; (repeat' split) <;> simp_all

@[simp] theorem State.sendControl_keeps (port : Port) (m : Control) : (s.sendControl port m).pending = s.pending ∧
    (s.sendControl port m).free = s.free ∧ (s.sendControl port m).resetLine = s.resetLine ∧
    (s.sendControl port m).memory = s.memory ∧ (s.sendControl port m).ct = s.ct ∧ (s.sendControl port m).mc = s.mc ∧
    (s.sendControl port m).sau = s.sau ∧ (s.sendControl port m).el = s.el ∧ (s.sendControl port m).clb = s.clb ∧
    (s.sendControl port m).me = s.me ∧ (s.sendControl port m).sl = s.sl := by
  unfold State.sendControl; (repeat' split) <;> simp_all

@[simp] theorem State.releaseWaiting_keeps (port : Port) : (s.releaseWaiting port).pending = s.pending ∧
    (s.releaseWaiting port).free = s.free ∧ (s.releaseWaiting port).resetLine = s.resetLine ∧
    (s.releaseWaiting port).memory = s.memory ∧ (s.releaseWaiting port).ct = s.ct ∧ (s.releaseWaiting port).mc = s.mc ∧
    (s.releaseWaiting port).sau = s.sau ∧ (s.releaseWaiting port).el = s.el ∧ (s.releaseWaiting port).clb = s.clb ∧
    (s.releaseWaiting port).me = s.me ∧ (s.releaseWaiting port).sl = s.sl := by
  have h := foldl_keeps (fun t : State =>
    (t.pending, t.free, t.resetLine, t.memory, t.ct, t.mc, t.sau, t.el, t.clb, t.me, t.sl))
    (f := fun t m => t.goOut port m) (by intros; simp) (s.queue port).waiting
    (b := s.onQueue port fun q => { q with waiting := [] }) rfl
  simp only [Prod.mk.injEq] at h
  unfold State.releaseWaiting
  dsimp only
  split
  · simpa using h
  · simp

@[simp] theorem State.discardQueue_keeps (port : Port) : (s.discardQueue port).pending = s.pending ∧
    (s.discardQueue port).free = s.free ∧ (s.discardQueue port).resetLine = s.resetLine ∧
    (s.discardQueue port).memory = s.memory ∧ (s.discardQueue port).ct = s.ct ∧ (s.discardQueue port).mc = s.mc ∧
    (s.discardQueue port).sau = s.sau ∧ (s.discardQueue port).el = s.el ∧ (s.discardQueue port).clb = s.clb ∧
    (s.discardQueue port).me = s.me ∧ (s.discardQueue port).sl = s.sl := by
  have h := foldl_keeps (fun t : State =>
    (t.pending, t.free, t.resetLine, t.memory, t.ct, t.mc, t.sau, t.el, t.clb, t.me, t.sl))
    (f := fun t (e : Entry) => t.dropRef e.slot) (by intros; simp) (s.queue port).entries
    (b := s.setQueue port
      { s.queue port with
        entries := []
        tx := none
        counts := { (s.queue port).counts with
          lost := bumpBy (s.queue port).counts.lost (if (s.queue port).tx.isSome then 1 else 0)
          discarded := bumpBy (s.queue port).counts.discarded
            ((s.queue port).entries.length - if (s.queue port).tx.isSome then 1 else 0) } }) rfl
  simp only [Prod.mk.injEq] at h
  simp only [State.discardQueue, State.releaseWaiting_keeps]
  simpa using h

@[simp] theorem State.completeTransmission_keeps (port : Port) : (s.completeTransmission port).pending = s.pending ∧
    (s.completeTransmission port).free = s.free ∧ (s.completeTransmission port).resetLine = s.resetLine ∧
    (s.completeTransmission port).memory = s.memory ∧ (s.completeTransmission port).ct = s.ct ∧
    (s.completeTransmission port).mc = s.mc ∧ (s.completeTransmission port).sau = s.sau ∧
    (s.completeTransmission port).el = s.el ∧ (s.completeTransmission port).clb = s.clb ∧
    (s.completeTransmission port).me = s.me ∧ (s.completeTransmission port).sl = s.sl := by
  unfold State.completeTransmission; dsimp only; (repeat' split) <;> simp

@[simp] theorem State.discardParked_keeps (parked : List Nat) : (s.discardParked parked).pending = s.pending ∧
    (s.discardParked parked).free = s.free ∧ (s.discardParked parked).resetLine = s.resetLine ∧
    (s.discardParked parked).memory = s.memory ∧ (s.discardParked parked).ct = s.ct ∧
    (s.discardParked parked).mc = s.mc ∧ (s.discardParked parked).el = s.el ∧ (s.discardParked parked).spb = s.spb ∧
    (s.discardParked parked).clb = s.clb ∧ (s.discardParked parked).cu = s.cu ∧ (s.discardParked parked).me = s.me ∧
    (s.discardParked parked).sl = s.sl := by
  have h := foldl_keeps (fun t : State =>
    (t.pending, t.free, t.resetLine, t.memory, t.ct, t.mc, t.el, t.spb, t.clb, t.cu, t.me, t.sl))
    (f := fun t k => (t.dropRef k).countSau fun c => { c with parkedDiscarded := bump c.parkedDiscarded }) (by intros; simp) parked
    (b := s) rfl
  simp only [Prod.mk.injEq] at h
  unfold State.discardParked
  simpa using h

@[simp] theorem State.clearParked_keeps (n : Nat) : (s.clearParked n).pending = s.pending ∧
    (s.clearParked n).free = s.free ∧ (s.clearParked n).resetLine = s.resetLine ∧ (s.clearParked n).memory = s.memory ∧
    (s.clearParked n).mc = s.mc ∧ (s.clearParked n).el = s.el ∧ (s.clearParked n).spb = s.spb ∧
    (s.clearParked n).clb = s.clb ∧ (s.clearParked n).cu = s.cu ∧ (s.clearParked n).me = s.me ∧
    (s.clearParked n).sl = s.sl := by
  unfold State.clearParked; (repeat' split) <;> simp_all

@[simp] theorem State.park_keeps (slot n : Nat) (r : Record) : (s.park slot n r).pending = s.pending ∧
    (s.park slot n r).ev = s.ev ∧ (s.park slot n r).free = s.free ∧ (s.park slot n r).resetLine = s.resetLine ∧
    (s.park slot n r).memory = s.memory ∧ (s.park slot n r).mc = s.mc ∧ (s.park slot n r).el = s.el ∧
    (s.park slot n r).spb = s.spb ∧ (s.park slot n r).clb = s.clb ∧ (s.park slot n r).cu = s.cu ∧
    (s.park slot n r).me = s.me ∧ (s.park slot n r).sl = s.sl := by
  unfold State.park; dsimp only; (repeat' split) <;> simp

@[simp] theorem State.charge_keeps (slot n : Nat) (r : Record) (g : Grant) : (s.charge slot n r g).pending = s.pending ∧
    (s.charge slot n r g).ev = s.ev ∧ (s.charge slot n r g).free = s.free ∧
    (s.charge slot n r g).resetLine = s.resetLine ∧ (s.charge slot n r g).memory = s.memory ∧
    (s.charge slot n r g).mc = s.mc ∧ (s.charge slot n r g).el = s.el ∧ (s.charge slot n r g).spb = s.spb ∧
    (s.charge slot n r g).clb = s.clb ∧ (s.charge slot n r g).cu = s.cu ∧ (s.charge slot n r g).me = s.me ∧
    (s.charge slot n r g).sl = s.sl := by
  unfold State.charge; dsimp only; (repeat' split) <;> simp

@[simp] theorem State.submit_keeps (slot n : Nat) : (s.submit slot n).pending = s.pending ∧
    (s.submit slot n).ev = s.ev ∧ (s.submit slot n).free = s.free ∧ (s.submit slot n).resetLine = s.resetLine ∧
    (s.submit slot n).memory = s.memory ∧ (s.submit slot n).mc = s.mc ∧ (s.submit slot n).el = s.el ∧
    (s.submit slot n).spb = s.spb ∧ (s.submit slot n).clb = s.clb ∧ (s.submit slot n).cu = s.cu ∧
    (s.submit slot n).me = s.me ∧ (s.submit slot n).sl = s.sl := by
  unfold State.submit; (repeat' split) <;> simp_all

@[simp] theorem State.sendRadio_keeps (c : LinkNo) (m : RadioOut) : (s.sendRadio c m).pending = s.pending ∧
    (s.sendRadio c m).free = s.free ∧ (s.sendRadio c m).resetLine = s.resetLine ∧ (s.sendRadio c m).memory = s.memory ∧
    (s.sendRadio c m).ct = s.ct ∧ (s.sendRadio c m).mc = s.mc ∧ (s.sendRadio c m).sau = s.sau ∧
    (s.sendRadio c m).el = s.el ∧ (s.sendRadio c m).me = s.me ∧ (s.sendRadio c m).sl = s.sl := by
  unfold State.sendRadio; simp

@[simp] theorem State.attach_keeps (n : Nat) (pl : Place) : (s.attach n pl).pending = s.pending ∧
    (s.attach n pl).ev = s.ev ∧ (s.attach n pl).free = s.free ∧ (s.attach n pl).resetLine = s.resetLine ∧
    (s.attach n pl).memory = s.memory ∧ (s.attach n pl).mc = s.mc ∧ (s.attach n pl).sau = s.sau ∧
    (s.attach n pl).el = s.el ∧ (s.attach n pl).fs = s.fs ∧ (s.attach n pl).spb = s.spb ∧ (s.attach n pl).clb = s.clb ∧
    (s.attach n pl).cu = s.cu ∧ (s.attach n pl).me = s.me ∧ (s.attach n pl).sl = s.sl := by
  unfold State.attach; simp

@[simp] theorem State.discardHold_keeps (hold : List Nat) : (s.discardHold hold).pending = s.pending ∧
    (s.discardHold hold).free = s.free ∧ (s.discardHold hold).resetLine = s.resetLine ∧
    (s.discardHold hold).memory = s.memory ∧ (s.discardHold hold).ct = s.ct ∧ (s.discardHold hold).sau = s.sau ∧
    (s.discardHold hold).el = s.el ∧ (s.discardHold hold).spb = s.spb ∧ (s.discardHold hold).clb = s.clb ∧
    (s.discardHold hold).cu = s.cu ∧ (s.discardHold hold).me = s.me ∧ (s.discardHold hold).sl = s.sl := by
  have h := foldl_keeps (fun t : State =>
    (t.pending, t.free, t.resetLine, t.memory, t.ct, t.sau, t.el, t.spb, t.clb, t.cu, t.me, t.sl))
    (f := fun t k => (t.dropRef k).countMc fun c => { c with holdDiscarded := bump c.holdDiscarded }) (by intros; simp) hold
    (b := s) rfl
  simp only [Prod.mk.injEq] at h
  unfold State.discardHold
  simpa using h

@[simp] theorem State.leaveSeat_keeps (pl : Option Place) : (s.leaveSeat pl).pending = s.pending ∧
    (s.leaveSeat pl).free = s.free ∧ (s.leaveSeat pl).resetLine = s.resetLine ∧ (s.leaveSeat pl).memory = s.memory ∧
    (s.leaveSeat pl).ct = s.ct ∧ (s.leaveSeat pl).mc = s.mc ∧ (s.leaveSeat pl).sau = s.sau ∧
    (s.leaveSeat pl).el = s.el ∧ (s.leaveSeat pl).clb = s.clb ∧ (s.leaveSeat pl).me = s.me ∧ (s.leaveSeat pl).sl = s.sl := by
  unfold State.leaveSeat; (repeat' split) <;> simp_all

@[simp] theorem State.enterLingering_keeps (n : Nat) : (s.enterLingering n).pending = s.pending ∧
    (s.enterLingering n).free = s.free ∧ (s.enterLingering n).resetLine = s.resetLine ∧
    (s.enterLingering n).memory = s.memory ∧ (s.enterLingering n).el = s.el ∧ (s.enterLingering n).clb = s.clb ∧
    (s.enterLingering n).me = s.me ∧ (s.enterLingering n).sl = s.sl := by
  unfold State.enterLingering; (repeat' split) <;> simp_all

@[simp] theorem State.vacate_keeps (n : Nat) : (s.vacate n).pending = s.pending ∧ (s.vacate n).free = s.free ∧
    (s.vacate n).resetLine = s.resetLine ∧ (s.vacate n).memory = s.memory ∧ (s.vacate n).el = s.el ∧
    (s.vacate n).clb = s.clb ∧ (s.vacate n).me = s.me ∧ (s.vacate n).sl = s.sl := by
  unfold State.vacate; (repeat' split) <;> simp_all

@[simp] theorem State.evictRecord_keeps (n : Nat) : (s.evictRecord n).pending = s.pending ∧
    (s.evictRecord n).free = s.free ∧ (s.evictRecord n).resetLine = s.resetLine ∧ (s.evictRecord n).memory = s.memory ∧
    (s.evictRecord n).el = s.el ∧ (s.evictRecord n).me = s.me ∧ (s.evictRecord n).sl = s.sl := by
  unfold State.evictRecord; (repeat' split) <;> simp_all

@[simp] theorem State.flush_keeps (pl : Place) (hold : List Nat) : (s.flush pl hold).pending = s.pending ∧
    (s.flush pl hold).free = s.free ∧ (s.flush pl hold).resetLine = s.resetLine ∧ (s.flush pl hold).memory = s.memory ∧
    (s.flush pl hold).ct = s.ct ∧ (s.flush pl hold).sau = s.sau ∧ (s.flush pl hold).el = s.el ∧
    (s.flush pl hold).spb = s.spb ∧ (s.flush pl hold).clb = s.clb ∧ (s.flush pl hold).cu = s.cu ∧
    (s.flush pl hold).me = s.me ∧ (s.flush pl hold).sl = s.sl := by
  have h := foldl_keeps (fun t : State =>
    (t.pending, t.free, t.resetLine, t.memory, t.ct, t.sau, t.el, t.spb, t.clb, t.cu, t.me, t.sl))
    (f := fun t k =>
      let o := t.offer pl.port (pl.entry k) false
      if o.2 then o.1 else (o.1.dropRef k).countMc fun c => { c with flushDrops := bump c.flushDrops })
    (by intros; dsimp only; split <;> simp) hold
    (b := s) rfl
  simp only [Prod.mk.injEq] at h
  unfold State.flush
  simpa using h

@[simp] theorem State.completeMove_keeps (n : Nat) (count : McCounters → McCounters) :
    (s.completeMove n count).pending = s.pending ∧ (s.completeMove n count).free = s.free ∧
    (s.completeMove n count).resetLine = s.resetLine ∧ (s.completeMove n count).memory = s.memory ∧
    (s.completeMove n count).sau = s.sau ∧ (s.completeMove n count).el = s.el ∧ (s.completeMove n count).spb = s.spb ∧
    (s.completeMove n count).clb = s.clb ∧ (s.completeMove n count).cu = s.cu ∧ (s.completeMove n count).me = s.me ∧
    (s.completeMove n count).sl = s.sl := by
  unfold State.completeMove; (repeat' split) <;> simp_all

@[simp] theorem State.seatLost_keeps (p : SeatNo) : (s.seatLost p).pending = s.pending ∧ (s.seatLost p).free = s.free ∧
    (s.seatLost p).resetLine = s.resetLine ∧ (s.seatLost p).memory = s.memory ∧ (s.seatLost p).el = s.el ∧
    (s.seatLost p).clb = s.clb ∧ (s.seatLost p).me = s.me ∧ (s.seatLost p).sl = s.sl := by
  unfold State.seatLost; (repeat' split) <;> simp_all

@[simp] theorem State.linksLost_keeps (cs : List LinkNo) : (s.linksLost cs).pending = s.pending ∧ (s.linksLost cs).free = s.free ∧
    (s.linksLost cs).resetLine = s.resetLine ∧ (s.linksLost cs).memory = s.memory ∧ (s.linksLost cs).el = s.el ∧
    (s.linksLost cs).clb = s.clb ∧ (s.linksLost cs).me = s.me ∧ (s.linksLost cs).sl = s.sl := by
  have h := foldl_keeps (fun t : State => (t.pending, t.free, t.resetLine, t.memory, t.el, t.clb, t.me, t.sl))
    (f := fun t n => t.completeMove n fun k => { k with byLinkLoss := bump k.byLinkLoss }) (by intros; simp)
    (s.recordsWhere fun r => r.st.former.any fun f => cs.contains f.1)
    (foldl_keeps (fun t : State => (t.pending, t.free, t.resetLine, t.memory, t.el, t.clb, t.me, t.sl))
      (f := fun t n => t.enterLingering n) (by intros; simp)
      (s.recordsWhere fun r => r.st.place.any fun pl => cs.any fun c => pl.onLink c) (b := s) rfl)
  simp only [Prod.mk.injEq] at h
  unfold State.linksLost
  simpa using h

@[simp] theorem State.loseComposed_keeps (reset : Bool) : (s.loseComposed reset).pending = s.pending ∧
    (s.loseComposed reset).free = s.free ∧ (s.loseComposed reset).resetLine = s.resetLine ∧
    (s.loseComposed reset).memory = s.memory ∧ (s.loseComposed reset).ct = s.ct ∧ (s.loseComposed reset).mc = s.mc ∧
    (s.loseComposed reset).sau = s.sau ∧ (s.loseComposed reset).el = s.el ∧ (s.loseComposed reset).spb = s.spb ∧
    (s.loseComposed reset).clb = s.clb ∧ (s.loseComposed reset).cu = s.cu ∧ (s.loseComposed reset).me = s.me ∧
    (s.loseComposed reset).sl = s.sl := by
  unfold State.loseComposed; simp

theorem State.claim_keeps {reserve : Nat} {origin : Origin} {reset : Bool} {frame : State → Bytes} {k : Nat} {t : State}
    (h : s.claim reserve origin reset frame = some (k, t)) :
    t.pending = s.pending ∧ t.ev = s.ev ∧ t.free = s.free ∧ t.resetLine = s.resetLine ∧ t.memory = s.memory ∧
    t.ct = s.ct ∧ t.mc = s.mc ∧ t.sau = s.sau ∧ t.el = s.el ∧ t.spb = s.spb ∧ t.clb = s.clb ∧ t.cu = s.cu ∧ t.sl = s.sl := by
  unfold State.claim at h
  split at h
  · exact absurd h (by simp)
  · simp only [Option.some.injEq, Prod.mk.injEq] at h
    obtain ⟨_, rfl⟩ := h
    simp

@[simp] theorem State.compose_keeps (side : Side) (reset : Bool) (frame : State → Bytes) :
    (s.compose side reset frame).1.pending = s.pending ∧ (s.compose side reset frame).1.free = s.free ∧
    (s.compose side reset frame).1.resetLine = s.resetLine ∧ (s.compose side reset frame).1.memory = s.memory ∧
    (s.compose side reset frame).1.ct = s.ct ∧ (s.compose side reset frame).1.mc = s.mc ∧
    (s.compose side reset frame).1.sau = s.sau ∧ (s.compose side reset frame).1.el = s.el ∧
    (s.compose side reset frame).1.spb = s.spb ∧ (s.compose side reset frame).1.clb = s.clb ∧
    (s.compose side reset frame).1.cu = s.cu ∧ (s.compose side reset frame).1.sl = s.sl := by
  unfold State.compose
  split
  · simp
  · rename_i k t h
    have hk := s.claim_keeps h
    dsimp only
    split <;> simp [hk]

@[simp] theorem State.sendResponse_keeps (r : Response) : (s.sendResponse r).pending = s.pending ∧
    (s.sendResponse r).free = s.free ∧ (s.sendResponse r).resetLine = s.resetLine ∧
    (s.sendResponse r).memory = s.memory ∧ (s.sendResponse r).ct = s.ct ∧ (s.sendResponse r).mc = s.mc ∧
    (s.sendResponse r).sau = s.sau ∧ (s.sendResponse r).el = s.el ∧ (s.sendResponse r).spb = s.spb ∧
    (s.sendResponse r).clb = s.clb ∧ (s.sendResponse r).cu = s.cu ∧ (s.sendResponse r).sl = s.sl := by
  unfold State.sendResponse; simp

@[simp] theorem State.sendResponses_keeps : (s.sendResponses).pending = s.pending ∧ (s.sendResponses).free = s.free ∧
    (s.sendResponses).resetLine = s.resetLine ∧ (s.sendResponses).memory = s.memory ∧ (s.sendResponses).ct = s.ct ∧
    (s.sendResponses).mc = s.mc ∧ (s.sendResponses).sau = s.sau ∧ (s.sendResponses).el = s.el ∧
    (s.sendResponses).spb = s.spb ∧ (s.sendResponses).clb = s.clb ∧ (s.sendResponses).cu = s.cu ∧
    (s.sendResponses).sl = s.sl := by
  have h := foldl_keeps (fun t : State =>
    (t.pending, t.free, t.resetLine, t.memory, t.ct, t.mc, t.sau, t.el, t.spb, t.clb, t.cu, t.sl))
    (f := fun t (r : Response) => t.sendResponse r) (by intros; simp) s.ev.responses
    (b := s.onEv fun e => { e with responses := [] }) rfl
  simp only [Prod.mk.injEq] at h
  unfold State.sendResponses
  simpa using h

@[simp] theorem State.sendNotice_keeps (hold : Bool) (st : Station) : (s.sendNotice hold st).pending = s.pending ∧
    (s.sendNotice hold st).free = s.free ∧ (s.sendNotice hold st).resetLine = s.resetLine ∧
    (s.sendNotice hold st).memory = s.memory ∧ (s.sendNotice hold st).ct = s.ct ∧ (s.sendNotice hold st).mc = s.mc ∧
    (s.sendNotice hold st).sau = s.sau ∧ (s.sendNotice hold st).el = s.el ∧ (s.sendNotice hold st).spb = s.spb ∧
    (s.sendNotice hold st).clb = s.clb ∧ (s.sendNotice hold st).cu = s.cu ∧ (s.sendNotice hold st).sl = s.sl := by
  unfold State.sendNotice; simp

@[simp] theorem State.ordinaryNotices_keeps (n : Nat) : (s.ordinaryNotices n).pending = s.pending ∧
    (s.ordinaryNotices n).free = s.free ∧ (s.ordinaryNotices n).resetLine = s.resetLine ∧
    (s.ordinaryNotices n).memory = s.memory ∧ (s.ordinaryNotices n).ct = s.ct ∧ (s.ordinaryNotices n).mc = s.mc ∧
    (s.ordinaryNotices n).sau = s.sau ∧ (s.ordinaryNotices n).el = s.el ∧ (s.ordinaryNotices n).spb = s.spb ∧
    (s.ordinaryNotices n).clb = s.clb ∧ (s.ordinaryNotices n).cu = s.cu ∧ (s.ordinaryNotices n).sl = s.sl := by
  induction n generalizing s with
  | zero => simp [State.ordinaryNotices]
  | succ n ih =>
    unfold State.ordinaryNotices
    split
    · simp
    · simp [ih]

@[simp] theorem State.finalNotices_keeps : (s.finalNotices).pending = s.pending ∧ (s.finalNotices).free = s.free ∧
    (s.finalNotices).resetLine = s.resetLine ∧ (s.finalNotices).memory = s.memory ∧ (s.finalNotices).ct = s.ct ∧
    (s.finalNotices).mc = s.mc ∧ (s.finalNotices).sau = s.sau ∧ (s.finalNotices).el = s.el ∧
    (s.finalNotices).spb = s.spb ∧ (s.finalNotices).clb = s.clb ∧ (s.finalNotices).cu = s.cu ∧
    (s.finalNotices).sl = s.sl := by
  have h := foldl_keeps (fun t : State =>
    (t.pending, t.free, t.resetLine, t.memory, t.ct, t.mc, t.sau, t.el, t.spb, t.clb, t.cu, t.sl))
    (f := fun t (st : Station) => t.sendNotice true st) (by intros; simp) (s.me.stations.filter fun st => s.coupled st.side)
    (b := s) rfl
  simp only [Prod.mk.injEq] at h
  unfold State.finalNotices
  simpa using h

@[simp] theorem State.sweepLamp_keeps (p : SeatNo) : (s.sweepLamp p).pending = s.pending ∧
    (s.sweepLamp p).free = s.free ∧ (s.sweepLamp p).resetLine = s.resetLine ∧ (s.sweepLamp p).memory = s.memory ∧
    (s.sweepLamp p).ct = s.ct ∧ (s.sweepLamp p).mc = s.mc ∧ (s.sweepLamp p).sau = s.sau ∧ (s.sweepLamp p).el = s.el ∧
    (s.sweepLamp p).clb = s.clb ∧ (s.sweepLamp p).me = s.me ∧ (s.sweepLamp p).sl = s.sl := by
  unfold State.sweepLamp; dsimp only; (repeat' split) <;> simp

@[simp] theorem State.sweepLamps_keeps : (s.sweepLamps).pending = s.pending ∧ (s.sweepLamps).free = s.free ∧
    (s.sweepLamps).resetLine = s.resetLine ∧ (s.sweepLamps).memory = s.memory ∧ (s.sweepLamps).ct = s.ct ∧
    (s.sweepLamps).mc = s.mc ∧ (s.sweepLamps).sau = s.sau ∧ (s.sweepLamps).el = s.el ∧ (s.sweepLamps).clb = s.clb ∧
    (s.sweepLamps).me = s.me ∧ (s.sweepLamps).sl = s.sl := by
  have h := foldl_keeps (fun t : State =>
    (t.pending, t.free, t.resetLine, t.memory, t.ct, t.mc, t.sau, t.el, t.clb, t.me, t.sl))
    (f := fun t p => t.sweepLamp p) (by intros; simp) allSeats
    (b := s) rfl
  simp only [Prod.mk.injEq] at h
  simp only [State.sweepLamps, State.onEv_pending, State.onEv_free, State.onEv_resetLine, State.onEv_memory, State.onEv_ct, State.onEv_mc,
    State.onEv_sau, State.onEv_el, State.onEv_clb, State.onEv_me, State.onEv_sl]
  simpa using h

@[simp] theorem State.takeVehicle_keeps : (s.takeVehicle).pending = s.pending ∧ (s.takeVehicle).ev = s.ev ∧
    (s.takeVehicle).free = s.free ∧ (s.takeVehicle).resetLine = s.resetLine ∧ (s.takeVehicle).memory = s.memory ∧
    (s.takeVehicle).ct = s.ct ∧ (s.takeVehicle).mc = s.mc ∧ (s.takeVehicle).sau = s.sau ∧ (s.takeVehicle).el = s.el ∧
    (s.takeVehicle).fs = s.fs ∧ (s.takeVehicle).spb = s.spb ∧ (s.takeVehicle).clb = s.clb ∧ (s.takeVehicle).me = s.me ∧
    (s.takeVehicle).sl = s.sl := by
  unfold State.takeVehicle; split <;> simp

@[simp] theorem State.settleInHand_keeps : (s.settleInHand).pending = s.pending ∧ (s.settleInHand).free = s.free ∧
    (s.settleInHand).resetLine = s.resetLine ∧ (s.settleInHand).memory = s.memory ∧ (s.settleInHand).ct = s.ct ∧
    (s.settleInHand).mc = s.mc ∧ (s.settleInHand).sau = s.sau ∧ (s.settleInHand).el = s.el ∧
    (s.settleInHand).spb = s.spb ∧ (s.settleInHand).clb = s.clb ∧ (s.settleInHand).cu = s.cu ∧
    (s.settleInHand).me = s.me ∧ (s.settleInHand).sl = s.sl := by
  unfold State.settleInHand; (repeat' split) <;> simp_all

@[simp] theorem State.makePage_keeps (side : Side) : (s.makePage side).pending = s.pending ∧
    (s.makePage side).free = s.free ∧ (s.makePage side).resetLine = s.resetLine ∧ (s.makePage side).memory = s.memory ∧
    (s.makePage side).ct = s.ct ∧ (s.makePage side).mc = s.mc ∧ (s.makePage side).sau = s.sau ∧
    (s.makePage side).el = s.el ∧ (s.makePage side).clb = s.clb ∧ (s.makePage side).me = s.me ∧
    (s.makePage side).sl = s.sl := by
  unfold State.makePage; simp

@[simp] theorem State.duePages_keeps : (s.duePages).pending = s.pending ∧ (s.duePages).free = s.free ∧
    (s.duePages).resetLine = s.resetLine ∧ (s.duePages).memory = s.memory ∧ (s.duePages).ct = s.ct ∧
    (s.duePages).mc = s.mc ∧ (s.duePages).sau = s.sau ∧ (s.duePages).el = s.el ∧ (s.duePages).clb = s.clb ∧
    (s.duePages).me = s.me ∧ (s.duePages).sl = s.sl := by
  have h := foldl_keeps (fun t : State =>
    (t.pending, t.free, t.resetLine, t.memory, t.ct, t.mc, t.sau, t.el, t.clb, t.me, t.sl))
    (f := fun t side => t.makePage side) (by intros; simp) s.ev.pages
    (b := s.onEv fun e => { e with pages := [] }) rfl
  simp only [Prod.mk.injEq] at h
  unfold State.duePages
  simpa using h

@[simp] theorem State.closeEvent_keeps : (s.closeEvent).pending = s.pending ∧ (s.closeEvent).free = s.free ∧
    (s.closeEvent).resetLine = s.resetLine ∧ (s.closeEvent).memory = s.memory ∧ (s.closeEvent).ct = s.ct ∧
    (s.closeEvent).mc = s.mc ∧ (s.closeEvent).sau = s.sau ∧ (s.closeEvent).el = s.el ∧ (s.closeEvent).clb = s.clb ∧
    (s.closeEvent).sl = s.sl := by
  unfold State.closeEvent; simp

end Sys2Proof.Machine
end

