-- ==== Sys2Proof/Laws/Tables.lean ====
section
/-! SUPPORT. The sparse tables: their canonical form is kept by every operation, and what is read after a write. -/

namespace Sys2Proof.Machine

variable {α : Type}

/-- The canonical form as a property of the numbers: they strictly rise. -/
theorem Table.wf_iff (t : Table α) : t.wf = true ↔ (t.map Prod.fst).Pairwise (· < ·) := by
  induction t with
  | nil => simp [Table.wf]
  | cons e t ih =>
    cases t with
    | nil => simp [Table.wf]
    | cons d t =>
      obtain ⟨j, v⟩ := e
      obtain ⟨k, w⟩ := d
      simp only [Table.wf, Bool.and_eq_true, decide_eq_true_eq, ih, List.map_cons, List.pairwise_cons,
        List.mem_cons, forall_eq_or_imp]
      constructor
      · rintro ⟨h, hk, ht⟩
        exact ⟨⟨h, fun a ha => h.trans (hk a ha)⟩, hk, ht⟩
      · rintro ⟨⟨h, _⟩, hk, ht⟩
        exact ⟨h, hk, ht⟩

theorem Table.mem_put (t : Table α) (k : Nat) (v : α) (e : Nat × α) (h : e ∈ t.put k v) : e = (k, v) ∨ e ∈ t := by
  induction t with
  | nil => simpa [Table.put] using h
  | cons d t ih =>
    obtain ⟨j, w⟩ := d
    unfold Table.put at h
    split at h
    · simpa using h
    · split at h
      · simp only [List.mem_cons] at h ⊢
        tauto
      · simp only [List.mem_cons] at h ⊢
        rcases h with h | h
        · tauto
        · have := ih h
          tauto

theorem Table.mem_del (t : Table α) (k : Nat) (e : Nat × α) (h : e ∈ t.del k) : e ∈ t := by
  induction t with
  | nil => simp [Table.del] at h
  | cons d t ih =>
    obtain ⟨j, w⟩ := d
    unfold Table.del at h
    split at h
    · exact List.mem_cons_of_mem _ (ih h)
    · rcases List.mem_cons.1 h with h | h
      · simp [h]
      · exact List.mem_cons_of_mem _ (ih h)

theorem Table.put_wf (t : Table α) (k : Nat) (v : α) (h : t.wf = true) : (t.put k v).wf = true := by
  rw [Table.wf_iff] at h ⊢
  induction t with
  | nil => simp [Table.put]
  | cons d t ih =>
    obtain ⟨j, w⟩ := d
    simp only [List.map_cons, List.pairwise_cons] at h
    unfold Table.put
    split
    · rename_i hk
      simp only [List.map_cons, List.pairwise_cons, List.mem_cons, forall_eq_or_imp]
      exact ⟨⟨hk, fun a ha => hk.trans (h.1 a ha)⟩, h⟩
    · split
      · rename_i hk
        subst hk
        simpa using h
      · rename_i h1 h2
        simp only [List.map_cons, List.pairwise_cons]
        refine ⟨fun a ha => ?_, ih h.2⟩
        obtain ⟨e, he, rfl⟩ := List.mem_map.1 ha
        rcases Table.mem_put t k v e he with rfl | he
        · dsimp only
          omega
        · exact h.1 _ (List.mem_map_of_mem he)

theorem Table.del_wf (t : Table α) (k : Nat) (h : t.wf = true) : (t.del k).wf = true := by
  rw [Table.wf_iff] at h ⊢
  induction t with
  | nil => simp [Table.del]
  | cons d t ih =>
    obtain ⟨j, w⟩ := d
    simp only [List.map_cons, List.pairwise_cons] at h
    unfold Table.del
    split
    · exact ih h.2
    · simp only [List.map_cons, List.pairwise_cons]
      refine ⟨fun a ha => ?_, ih h.2⟩
      obtain ⟨e, he, rfl⟩ := List.mem_map.1 ha
      exact h.1 _ (List.mem_map_of_mem (Table.mem_del t k e he))

theorem Table.modify_wf (t : Table α) (k : Nat) (f : α → α) (h : t.wf = true) : (t.modify k f).wf = true := by
  unfold Table.modify
  split
  · exact h
  · exact Table.put_wf t k _ h

/-- A change of what stands at each number, the numbers kept. -/
theorem Table.map_wf (t : Table α) (f : Nat × α → α) (h : t.wf = true) : Table.wf (t.map fun e => (e.1, f e)) = true := by
  rw [Table.wf_iff] at h ⊢
  simpa [List.map_map, Function.comp_def] using h

theorem Table.get_put_self (t : Table α) (k : Nat) (v : α) : (t.put k v).get k = some v := by
  induction t with
  | nil => simp [Table.put, Table.get]
  | cons d t ih =>
    obtain ⟨j, w⟩ := d
    unfold Table.put
    split
    · simp [Table.get]
    · split
      · simp [Table.get]
      · rename_i h1 h2
        simp only [Table.get, ih, if_neg (Ne.symm h2)]

theorem Table.get_put_of_ne (t : Table α) (k m : Nat) (v : α) (hm : m ≠ k) : (t.put k v).get m = t.get m := by
  induction t with
  | nil => simp [Table.put, Table.get, hm.symm]
  | cons d t ih =>
    obtain ⟨j, w⟩ := d
    unfold Table.put
    split
    · simp [Table.get, hm.symm]
    · split
      · rename_i h
        subst h
        simp [Table.get, hm.symm]
      · simp [Table.get, ih]

theorem Table.get_del_self (t : Table α) (k : Nat) : (t.del k).get k = none := by
  induction t with
  | nil => rfl
  | cons d t ih =>
    obtain ⟨j, w⟩ := d
    unfold Table.del
    split
    · exact ih
    · rename_i h
      simp [Table.get, h, ih]

theorem Table.get_del_of_ne (t : Table α) (k m : Nat) (hm : m ≠ k) : (t.del k).get m = t.get m := by
  induction t with
  | nil => rfl
  | cons d t ih =>
    obtain ⟨j, w⟩ := d
    unfold Table.del
    split
    · rename_i h
      subst h
      simp [Table.get, hm.symm, ih]
    · simp [Table.get, ih]

theorem Table.get_mem (t : Table α) (k : Nat) (v : α) (h : t.get k = some v) : (k, v) ∈ t := by
  induction t with
  | nil => simp [Table.get] at h
  | cons d t ih =>
    obtain ⟨j, w⟩ := d
    unfold Table.get at h
    split at h
    · rename_i hj
      subst hj
      simp_all
    · exact List.mem_cons_of_mem _ (ih h)

/-! ### The record that a reclaim takes -/

/-- Nothing is picked only when no record is LINGERING. -/
theorem leastLingering_none (t : Table Record) (h : leastLingering t = none) : ∀ e ∈ t, e.2.lingerLeft = none := by
  induction t with
  | nil => simp
  | cons e rest ih =>
    obtain ⟨k, y⟩ := e
    unfold leastLingering at h
    split at h
    · rename_i hy
      intro e he
      rcases List.mem_cons.1 he with rfl | he
      · exact hy
      · exact ih h e he
    · simp at h
    · split at h <;> simp at h

/-- R5: what `leastLingering` picks is LINGERING, and no LINGERING record has less time left. -/
theorem leastLingering_least (t : Table Record) (n left : Nat) (h : leastLingering t = some (n, left)) :
    (∃ r, (n, r) ∈ t ∧ r.lingerLeft = some left) ∧ ∀ e ∈ t, ∀ d, e.2.lingerLeft = some d → left ≤ d := by
  induction t generalizing n left with
  | nil => simp [leastLingering] at h
  | cons e rest ih =>
    obtain ⟨m, r⟩ := e
    unfold leastLingering at h
    split at h
    · rename_i h1
      obtain ⟨⟨y, hy, hl⟩, hle⟩ := ih n left h
      refine ⟨⟨y, List.mem_cons_of_mem _ hy, hl⟩, fun e he d hd => ?_⟩
      rcases List.mem_cons.1 he with rfl | he
      · simp [h1] at hd
      · exact hle e he d hd
    · rename_i h1 h2
      obtain ⟨rfl, rfl⟩ := Prod.mk.inj (Option.some.inj h)
      refine ⟨⟨r, List.mem_cons_self .., h1⟩, fun e he d hd => ?_⟩
      rcases List.mem_cons.1 he with rfl | he
      · simp only [h1, Option.some.injEq] at hd; omega
      · simp [leastLingering_none rest h2 e he] at hd
    · rename_i k u h1 h2
      obtain ⟨⟨y, hy, hl⟩, hle⟩ := ih k u h2
      split at h
      · obtain ⟨rfl, rfl⟩ := Prod.mk.inj (Option.some.inj h)
        refine ⟨⟨r, List.mem_cons_self .., h1⟩, fun e he d hd => ?_⟩
        rcases List.mem_cons.1 he with rfl | he
        · simp only [h1, Option.some.injEq] at hd; omega
        · have := hle e he d hd; omega
      · obtain ⟨rfl, rfl⟩ := Prod.mk.inj (Option.some.inj h)
        refine ⟨⟨y, List.mem_cons_of_mem _ hy, hl⟩, fun e he d hd => ?_⟩
        rcases List.mem_cons.1 he with rfl | he
        · simp only [h1, Option.some.injEq] at hd; omega
        · exact hle e he d hd

/-! ### The Frame Store's slots and the Client Table's records keep the form -/

variable (s : State)

theorem State.freeSlot_slots_wf (k : Nat) (h : s.fs.slots.wf = true) : (s.freeSlot k).fs.slots.wf = true := by
  have hd := Table.del_wf s.fs.slots k h
  unfold State.freeSlot
  dsimp only
  split <;> simpa using hd

theorem State.addRef_slots_wf (k : Nat) (h : s.fs.slots.wf = true) : (s.addRef k).fs.slots.wf = true := by
  simpa [State.addRef] using Table.modify_wf s.fs.slots k _ h

theorem State.dropRef_slots_wf (k : Nat) (h : s.fs.slots.wf = true) : (s.dropRef k).fs.slots.wf = true := by
  unfold State.dropRef
  split
  · exact h
  · split
    · simpa using s.freeSlot_slots_wf k h
    · simpa using Table.put_wf _ _ _ h

theorem State.settle_slots_wf (k : Nat) (h : s.fs.slots.wf = true) : (s.settle k).fs.slots.wf = true := by
  unfold State.settle
  split
  · exact h
  · split
    · exact s.freeSlot_slots_wf k h
    · exact h

theorem State.lowWater_slots (n : Nat) : (s.lowWater n).fs.slots = s.fs.slots := by
  unfold State.lowWater
  split <;> simp

theorem State.claim_slots_wf {reserve : Nat} {origin : Origin} {reset : Bool} {frame : State → Bytes} {k : Nat} {t : State}
    (h : s.claim reserve origin reset frame = some (k, t)) (hw : s.fs.slots.wf = true) : t.fs.slots.wf = true := by
  unfold State.claim at h
  split at h
  · exact absurd h (by simp)
  · simp only [Option.some.injEq, Prod.mk.injEq] at h
    obtain ⟨_, rfl⟩ := h
    simpa [State.lowWater_slots] using Table.put_wf _ _ _ hw

theorem State.putRecord_records_wf (n : Nat) (r : Record) (h : s.ct.records.wf = true) :
    (s.putRecord n r).ct.records.wf = true := by simpa [State.putRecord] using Table.put_wf _ _ _ h

theorem State.delRecord_records_wf (n : Nat) (h : s.ct.records.wf = true) : (s.delRecord n).ct.records.wf = true := by
  simpa [State.delRecord] using Table.del_wf _ _ h

theorem State.onRecord_records_wf (n : Nat) (f : Record → Record) (h : s.ct.records.wf = true) :
    (s.onRecord n f).ct.records.wf = true := by simpa [State.onRecord] using Table.modify_wf _ _ _ h

theorem State.reset_tables_wf : State.reset.fs.slots.wf = true ∧ State.reset.ct.records.wf = true := ⟨rfl, rfl⟩

end Sys2Proof.Machine
end

