-- ==== Sys2Proof/Laws/Bytes.lean ====
section
/-! SUPPORT. Byte order, and the fold the checks are computed by. -/

namespace Sys2Proof.Machine

/-- `foldNat` is the left fold. -/
theorem foldNat_eq_foldl {α : Type} (f : Nat → α → Nat) (acc : Nat) (l : List α) : foldNat f acc l = l.foldl f acc := by
  induction l generalizing acc with
  | nil => rfl
  | cons x xs ih =>
    unfold foldNat
    split <;> rename_i h <;> rw [ih, List.foldl_cons, h]

theorem beBytes_length (n v : Nat) : (beBytes n v).length = n := by
  induction n with
  | zero => rfl
  | succ n ih => simp [beBytes, ih]

theorem beNat_cons (b : Byte) (bs : Bytes) : beNat (b :: bs) = b.toNat * 256 ^ bs.length + beNat bs := by
  have gen : ∀ (l : Bytes) (a : Nat), l.foldl (fun v c => v * 256 + c.toNat) a
      = a * 256 ^ l.length + l.foldl (fun v c => v * 256 + c.toNat) 0 := by
    intro l
    induction l with
    | nil => simp
    | cons c l ih =>
      intro a
      simp only [List.foldl_cons, List.length_cons]
      rw [ih (a * 256 + c.toNat), ih (0 * 256 + c.toNat)]
      ring
  simpa [beNat] using gen bs b.toNat

/-- Reading back a number written in `n` bytes gives its value modulo 256 ^ n. -/
theorem beNat_beBytes (n v : Nat) : beNat (beBytes n v) = v % 256 ^ n := by
  induction n with
  | zero => simp [beBytes, beNat, Nat.mod_one]
  | succ n ih =>
    rw [beBytes, beNat_cons, ih, beBytes_length, BitVec.toNat_ofNat, pow_succ 256 n, Nat.mod_mul]
    change v / 256 ^ n % 256 * 256 ^ n + v % 256 ^ n = v % 256 ^ n + 256 ^ n * (v / 256 ^ n % 256)
    rw [Nat.add_comm, Nat.mul_comm]

theorem beNat_wordBytes (x : Word) : beNat (wordBytes x) = x.toNat := by
  rw [wordBytes, beNat_beBytes]
  exact Nat.mod_eq_of_lt (by have := x.isLt; omega)

theorem beNat_halfBytes (x : Half) : beNat (halfBytes x) = x.toNat := by
  rw [halfBytes, beNat_beBytes]
  exact Nat.mod_eq_of_lt (by have := x.isLt; omega)

theorem beNat_addrBytes (x : Addr) : beNat (addrBytes x) = x.toNat := by
  rw [addrBytes, beNat_beBytes]
  exact Nat.mod_eq_of_lt (by have := x.isLt; omega)

/-- A frame closed by its check sequence passes the check. -/
theorem frameCheckOk_withCrc32 (bs : Bytes) : frameCheckOk (withCrc32 bs) = true := by
  simp [frameCheckOk, withCrc32, beBytes_length]

end Sys2Proof.Machine
end

