-- ==== Sys2Proof/Laws/Compose.lean ====
section
/-! SUPPORT. What leaves the part: what the statements about composed frames say of the first frame and of a port's room, and what the
control messages of a port put out. -/

namespace Sys2Proof.Machine

/-- A backbone port has room exactly when it takes an append (R35). -/
theorem State.backboneRoom_pos (s : State) (side : Side) :
    0 < s.backboneRoom side ↔ s.appendTest (.backbone side) false = none := by
  unfold State.backboneRoom State.appendTest
  simp only [State.inLoopback, State.transmits]
  by_cases h : s.coupled side = true <;> simp [h]

/-- The first of frames composed one after the other is lost exactly when no slot is free or its port has no room (R49). -/
theorem lossesAgree_first {free : Nat} {room : Side → Nat} {c : Composed} {rest : List Composed}
    (h : lossesAgree free room (c :: rest)) : c.isLost = (decide (free = 0) || decide (room c.side = 0)) := by
  simpa using h [] c rest rfl

/-- A control message that goes out puts out what it is on its port, and the blink cycle stands (R41). -/
theorem State.goOut_out (s : State) (port : Port) (m : Control) :
    (s.goOut port m).ev.out = s.ev.out ++ (controlOutput s.spb.blink port m).toList
      ∧ (s.goOut port m).spb.blink = s.spb.blink := by
  unfold State.goOut controlOutput
  split <;> simp [State.emit, State.countSide]
  rfl

/-- Messages that go out one after the other put out what each of them is, in their order. -/
theorem State.goOuts_out (port : Port) (ms : List Control) (s : State) :
    (ms.foldl (fun t m => t.goOut port m) s).ev.out = s.ev.out ++ ms.filterMap (controlOutput s.spb.blink port) := by
  induction ms generalizing s with
  | nil => simp
  | cons m rest ih =>
    obtain ⟨h1, h2⟩ := s.goOut_out port m
    rw [List.foldl_cons, ih, h1, h2, List.filterMap_cons]
    cases controlOutput s.spb.blink port m <;> simp

end Sys2Proof.Machine
end

