-- ==== Sys2Proof/Tests/Slice0.lean ====
section
/-! SUPPORT. Tests: ill-formed commands that the check refuses, check values of the codes, single steps on small states, and for
every statement with hypotheses a state and operands that meet them. -/

namespace Sys2Proof.Tests

set_option Elab.async false

open Sys2Proof Sys2Proof.Machine

/-! ### Ill-formed commands are refused, well-formed ones are not -/

theorem test_wf_assoc_multicast : (Instr.assoc 0 5 0x010000000001#48 9).wf = false := by decide
theorem test_wf_assoc_zero : (Instr.assoc 0 5 0 9).wf = false := by decide
theorem test_wf_assoc : (Instr.assoc 0 5 0x020000000001#48 9).wf = true := by decide
theorem test_wf_malformed_good_message : (Instr.malformedRadioMessage 0 (withCrc16 [0x03, 5])).wf = false := by decide +kernel
theorem test_wf_malformed_bad_number : (Instr.malformedRadioMessage 0 (withCrc16 [0x03, 64])).wf = true := by decide +kernel
theorem test_wf_malformed_bad_check : (Instr.malformedRadioMessage 0 [0x03, 5, 0, 0]).wf = true := by decide +kernel
theorem test_wf_status_cut : (Instr.ceilingStatusTick 0 (some ⟨true, false⟩) true).wf = false := by decide
theorem test_wf_status_lost : (Instr.ceilingStatusTick 0 none true).wf = true := by decide
theorem test_wf_trunk_cut : (Instr.trunkSignalLoss 0 9).wf = false ∧ (Instr.trunkSignalLoss 0 8).wf = true := by decide

/-- A request header from station A. -/
def stationA : Addr := 0x020000000a01#48
def hdr : ReqHeader := { side := .fore, dest := .cabinet, station := stationA, tag := 1, epoch := 1 }

theorem test_wf_causes : (Instr.clearCauses hdr (List.replicate 12 1)).wf = false ∧ (Instr.clearCauses hdr [1]).wf = true := by
  decide
theorem test_wf_levels : (Instr.setLevels hdr (List.replicate 12 (1, 1))).wf = false ∧ (Instr.setLevels hdr [(1, 1)]).wf = true := by
  decide
theorem test_wf_forces : (Instr.setLamp hdr 0 none none (some (List.replicate 256 (1, 1)))).wf = false
    ∧ (Instr.setLamp hdr 0 none none (some (List.replicate 255 (1, 1)))).wf = true := by decide +kernel

/-! ### Check values and formats -/

/-- The check values of R219 over the nine bytes "123456789". -/
def digits : Bytes := [0x31, 0x32, 0x33, 0x34, 0x35, 0x36, 0x37, 0x38, 0x39]

theorem test_crc32 : crc32 digits = 0xCBF43926#32 := by decide +kernel
theorem test_crc16 : crc16 digits = 0x29B1#16 := by decide +kernel
theorem test_crc8 : crc8 digits = 0xF4#8 := by decide +kernel
theorem test_image_length : factorySettings.bytes.length = 642 := by decide +kernel
theorem test_factory_image_is_read : readSettings factorySettings.bytes = some factorySettings := by decide +kernel
theorem test_entitle_arguments :
    (Request.entitle 0x020000000001#48 3 1440).args = [2, 0, 0, 0, 0, 1, 3, 5, 0xA0] := by decide +kernel
theorem test_bad_length : readRequest 0x11 [2, 0, 0, 0, 0, 1, 3, 5] = .badFormat := by decide +kernel
theorem test_unknown_code : readRequest 0x15 [] = .unknown := by decide +kernel
theorem test_lamp_command : lampBytes 11 { effect := .slow, duty := 12 } 999 = [3, 2, 12, 3, 0xE7, crc8 [3, 2, 12, 3, 0xE7]] := by
  decide +kernel
theorem test_admit_message : (RadioOut.admitted 7).bytes = withCrc16 [0x82, 7] := by decide +kernel
theorem test_cost : frameCost 64 = 1 ∧ frameCost 65 = 2 ∧ frameCost 2048 = 32 := by decide
theorem test_no_word_spells_a_command : decodeTableWord 8 0 = none := rfl

/-! ### Small states -/

def clientX : Addr := 0x020000000b01#48
def clientY : Addr := 0x020000000b02#48

def entryA : Station :=
  { addr := stationA, side := .fore, roles := { share := true, entitle := true, cabinet := true }, threshold := 3, pending := [],
    spacing := none, due := false, number := 0, epoch := 1 }

def liveSeat : Seat := { indication := some .mbit100, up := true }
def liveTrunk : Trunk := { state := .present, signal := true, wire := Vector.replicate 8 (some .mbit100) }
def newWindow : SurveyWindow := { length := 1000, left := 1000, busy := 0 }
def liveLink : Link := { state := .ready, statusIn := true, ready := true, window := some newWindow }
def coupledPort : Backbone :=
  { state := .coupled, pagingHeld := false, rx := some { vehicle := 9, fault := .none, mark := true }, matchCount := 3,
    matched := some 9, silence := some 50, page := some 10, errorWindow := some 100 }
def idlePort : Backbone := { pagingHeld := false, page := some 100, errorWindow := some 100 }

/-- A part that runs: FORE is COUPLED and AFT is silent, trunk 0 is PRESENT with its seats UP, links 0 and 1 are READY, and station
A, on FORE, holds every role. -/
def running : State :=
  { cu := { fore := coupledPort, aft := idlePort, epoch := 1, vehicle := 7, vehicleSetting := 7 }
    me := { stations := [entryA] }
    spb :=
      { seats := ⟨⟨List.replicate 8 liveSeat ++ List.replicate 56 {}⟩, rfl⟩
        trunks := ⟨⟨liveTrunk :: List.replicate 7 { state := .lost }⟩, rfl⟩
        blinkRunning := true }
    clb := { links := ⟨⟨liveLink :: liveLink :: List.replicate 6 { state := .down }⟩, rfl⟩ }
    sl := { unit := .idle, begun := true, access := 1, accessTimer := none, outcome := some .ok, source := some .stored }
    el := { minute := some 60000 } }

/-- AFT COUPLED too. -/
def bothCoupled : State := { running with cu := { running.cu with aft := coupledPort } }

def grant : Grant := { pool := 100, period := 10, basic := 20, standard := 30, premium := 40, gateway := .fore }
def granted : State := { running with sau := { state := .granted grant none, pool := 100, refill := some 10 } }

def recordX (st : RecordState) : Record :=
  { addr := clientX, cls := .basic, credit := 5, parked := [], charged := 0, overShare := 0, st := st }

def State.withRecord (s : State) (r : Record) : State := { s with ct := { s.ct with records := [(0, r)] } }
def atSeat : RecordState := .attached (.seat 3) (some 5)
def atLink : RecordState := .attached (.ceiling 0 5) (some 5)
def movingToSeat : RecordState := .moving (.seat 3) 0 5 (some 5) []

def slotOf (frame : Bytes) : Slot := { frame := frame, origin := .engine, refs := 1 }
/-- Slots in use from number 0 on. -/
def State.withSlots (s : State) (n : Nat) : State :=
  { s with fs := { s.fs with slots := (List.range n).map fun k => (k, slotOf []) } }
def State.withLink (s : State) (c : LinkNo) (x : Link) : State := s.onLink c fun _ => x
def State.withSeat (s : State) (p : SeatNo) (x : Seat) : State := s.onSeat p fun _ => x
def State.withFore (s : State) (b : Backbone) : State := { s with cu := { s.cu with fore := b } }
def State.withAft (s : State) (b : Backbone) : State := { s with cu := { s.cu with aft := b } }
def State.withUnit (s : State) (x : UnitState) : State := { s with sl := { s.sl with unit := x } }

/-- The invariant of the tables as a test. -/
def risingB : List Addr → Bool
  | [] => true
  | x :: rest => rest.all (fun y => decide (x.toNat < y.toNat)) && risingB rest

theorem rising_of_risingB (l : List Addr) (h : risingB l = true) : rising l := by
  induction l with
  | nil => trivial
  | cons x rest ih =>
    simp only [risingB, Bool.and_eq_true, List.all_eq_true, decide_eq_true_eq] at h
    exact ⟨h.1, ih h.2⟩

def invB (s : State) : Bool :=
  s.fs.slots.wf && s.fs.slots.all (fun e => decide (e.1 < 2048)) && s.ct.records.wf
    && s.ct.records.all (fun e => decide (e.1 < 512)) && risingB (s.el.entries.map Entitlement.addr)
    && decide (s.el.entries.length ≤ 256) && risingB (s.me.stations.map Station.addr) && decide (s.me.stations.length ≤ 4)
    && decide ((s.me.stations.countP fun st => st.roles.share) ≤ 1) && decide ((s.me.stations.countP fun st => st.roles.entitle) ≤ 1)
    && decide ((s.me.stations.countP fun st => st.roles.cabinet) ≤ 1) && s.me.stations.all (fun st => !st.roles.isEmpty)
    && decide (s.clb.deferrals.map Deferral.addr).Nodup && decide (s.clb.deferrals.length ≤ 32)

theorem inv_of_invB (s : State) (h : invB s = true) : Inv s := by
  simp only [invB, Bool.and_eq_true, List.all_eq_true, decide_eq_true_eq, Bool.not_eq_true'] at h
  obtain ⟨⟨⟨⟨⟨⟨⟨⟨⟨⟨⟨⟨⟨a, b⟩, c⟩, d⟩, e⟩, f⟩, g⟩, i⟩, j⟩, k⟩, l⟩, m⟩, n⟩, o⟩ := h
  exact ⟨a, b, c, d, rising_of_risingB _ e, f, rising_of_risingB _ g, i, ⟨j, k, l, m⟩, n, o⟩

/-- With no slot in use and no entry anywhere, the reference counts agree. -/
theorem refInv_of_empty (s : State) (hs : s.fs.slots = []) (hq : ∀ p ∈ allPorts, (s.queue p).entries = [])
    (hr : ∀ e ∈ s.ct.records, e.2.st.hold = [] ∧ e.2.parked = []) : RefInv s := by
  refine ⟨fun k => ?_, by simp [hs]⟩
  have h1 : (allPorts.map fun port => (s.queue port).entries.countP fun e => e.slot == k) = allPorts.map fun _ => 0 :=
    List.map_congr_left fun p hp => by rw [hq p hp]; rfl
  have h2 : (s.ct.records.map fun e => e.2.st.hold.count k + e.2.parked.count k) = s.ct.records.map fun _ => 0 :=
    List.map_congr_left fun e he => by rw [(hr e he).1, (hr e he).2]; rfl
  simp [State.references, State.refsOf, h1, h2, hs, Table.get]

theorem running_inv : Inv running := inv_of_invB _ (by decide +kernel)
theorem running_takes : running.takes hdr :=
  ⟨by decide, by decide, by decide, trivial, by decide⟩

/-- A frame of a length: destination, source, type, filling, and its check sequence. -/
def frameBody (dst src : Addr) (type : Half) (n : Nat) : Bytes :=
  addrBytes dst ++ addrBytes src ++ halfBytes type ++ List.replicate (n - 18) 0x55
def frameOf (dst src : Addr) (type : Half) (n : Nat) : Bytes := withCrc32 (frameBody dst src type n)

theorem frameOf_ok (dst src : Addr) (type : Half) (n : Nat) : frameCheckOk (frameOf dst src type n) = true :=
  frameCheckOk_withCrc32 _
theorem frameOf_length (dst src : Addr) (type : Half) (n : Nat) (h : 18 ≤ n) : (frameOf dst src type n).length = n := by
  simp [frameOf, withCrc32, frameBody, addrBytes, halfBytes, beBytes_length]; omega

/-- The state after a command. -/
def after (i : Instr) (s : State) : State :=
  match exec i s with
  | .next t => t
  | _ => s

/-- A part whose start-up load is in progress, and one whose reload is. -/
def loading : State := { sl := { begun := true, access := 1 } }
def details : Return := { station := stationA, side := .fore, code := 0x29, tag := 1 }
def reloadingState : State :=
  { running with sl := { running.sl with unit := .loading, lastOperation := .reload, pendingReturn := some details, accessTimer := some 500 } }
def storingState (stage : Stage) : State :=
  { running with sl := { running.sl with
      unit := .storing stage [1], lastOperation := .store, pendingReturn := some details, accessTimer := some 0 } }

/-- A settings memory that holds the factory settings as a valid image. -/
def factoryImage : Image := { items := factorySettings.bytes, check := some (crc32 factorySettings.bytes) }
theorem factoryImage_valid : factoryImage.settings = some factorySettings := by
  simp [Image.settings, factoryImage, test_factory_image_is_read]

/-! ### One step of each kind of command -/

theorem test_tick_after_power_on : (match step State.reset with | .next t => t.pending | _ => []) = [.startLoad] := by decide +kernel
theorem test_power_on : (after .powerOn running).me.stations = [] ∧ (after .powerOn running).sl.begun = false := by decide +kernel
theorem test_reset_line : (after .resetLineAsserted running).sl.resetCount = 1
    ∧ (after .resetLineReleased (after .resetLineAsserted running)).sl.begun = true := by decide +kernel
theorem test_start_load : (after .startLoad State.reset).sl.accessTimer = some 500 := by decide +kernel
theorem test_defaults_loaded : (after (.settingsReadComplete 1) loading).sl.outcome = some .badImage
    ∧ ((after (.settingsReadComplete 1) loading).trunk 0).state = .lost := by decide +kernel
theorem test_late_answer_ignored : (after (.settingsReadComplete 2) loading).sl.unit = .loading := by decide +kernel
theorem test_load_no_answer :
    (after .accessTimerExpiry { loading with sl := { loading.sl with accessTimer := some 0 } }).sl.outcome = some .noAnswer := by
  decide +kernel
theorem test_store_stage : (after (.storeStageComplete 1) (storingState .first)).sl.unit = .storing .second [1] := by decide +kernel
theorem test_write_failure : (after (.settingsWriteFailure 1) (storingState .second)).sl.outcome = some .writeFailed := by
  decide +kernel
theorem test_not_coupled : ((after (.backboneFrameArrival .aft []) running).queue (.backbone .aft)).counts.notCoupled = 1 := by
  decide +kernel
theorem test_transit : ((after (.backboneFrameArrival .fore (frameOf clientY clientX 0x0800 64)) bothCoupled).queue
    (.backbone .aft)).entries = [{ slot := 0 }] := by decide +kernel
theorem test_learned : (after (.seatFrameArrival 3 (frameOf clientY clientX 0x0800 64)) running).record 0 =
    some { recordX (.attached (.seat 3) (some 300000)) with credit := 0 } := by decide +kernel
theorem test_charged : (after (.seatFrameArrival 3 (frameOf clientY clientX 0x0800 64)) (State.withRecord granted (recordX atSeat))).sau.pool
    = 99 := by decide +kernel
theorem test_idle_expiry : (after (.idleTimerExpiry 0) (State.withRecord running (recordX (.attached (.seat 3) (some 0))))).record 0
    = some (recordX (.lingering (some 60000))) := by decide +kernel
theorem test_linger_expiry : (after (.lingerTimerExpiry 0) (State.withRecord running (recordX (.lingering (some 0))))).record 0 = none := by
  decide +kernel
theorem test_deadline : (after (.releaseDeadlineExpiry 0)
    (State.withRecord running (recordX (.moving (.seat 3) 0 5 (some 0) [])))).ev.out = [.radio 0 (RadioOut.drop 5).bytes,
      .lamp 0 (lampBytes 3 { effect := .steady, duty := 12 } 0)] := by decide +kernel
theorem test_ceiling_data_unknown : (after (.ceilingData 0 5 (frameOf clientY clientX 0x0800 64)) running).raised .unassociated = 1 := by
  decide +kernel
theorem test_data_from_former_place : (after (.ceilingData 0 5 (frameOf clientY clientX 0x0800 64))
    (State.withRecord granted (recordX movingToSeat))).record 0 = some { recordX movingToSeat with credit := 4, charged := 1 } := by
  decide +kernel
theorem test_assoc : (after (.assoc 0 5 clientX 9) running).record 0 = some
    { recordX (.attached (.ceiling 0 5) (some 120000)) with credit := 0 } := by decide +kernel
theorem test_assoc_message : (after (.assoc 0 5 clientX 9) running).ev.out = [.radio 0 (RadioOut.admitted 5).bytes] := by
  decide +kernel
theorem test_disassoc : (after (.disassoc 0 5) (State.withRecord running (recordX atLink))).record 0 =
    some (recordX (.lingering (some 60000))) := by decide +kernel
theorem test_released : (after (.released 0 5) (State.withRecord running (recordX movingToSeat))).record 0 =
    some (recordX (.attached (.seat 3) (some 300000))) := by decide +kernel
theorem test_stray_answer : ((after (.settingAnswer 0 1 2 3) running).link 0).counts.strayAnswers = 1 := by decide +kernel
def waitingRelay : Relay := { station := stationA, side := .fore, tag := 1, item := 4, write := true, timeout := some 0 }
theorem test_relay_timeout : ((after (.relayTimeout 0) (State.withLink running 0 { liveLink with relay := some waitingRelay })).link 0).relay
    = none := by decide +kernel
theorem test_status_lost : ((after (.ceilingStatusTick 0 none true) running).link 0).state = .down
    ∧ (after (.ceilingStatusTick 0 none true) running).raised .ceilingLinkLoss = 1 := by decide +kernel
theorem test_window_end : ((after (.surveyWindowEnd 0)
    (State.withLink running 0 { liveLink with window := some { length := 1000, left := 0, busy := 800 } })).link 0).survey
    = some { busy := 800, length := 1000 } := by decide +kernel
theorem test_crowded : ({ liveLink with survey := some { busy := 800, length := 1000 } } : Link).crowded = true
    ∧ ({ liveLink with survey := some { busy := 799, length := 1000 } } : Link).crowded = false := by decide
theorem test_deferral_expiry : (after (.deferralExpiry clientX)
    { running with clb := { running.clb with deferrals := [{ addr := clientX, left := 0 }] } }).clb.deferrals = [] := by decide +kernel
theorem test_trunk_loss : ((after (.trunkSignalLoss 0 1) running).seat 7).up = false := by decide +kernel
theorem test_trunk_return : ((after (.trunkSignalReturn 1 (Vector.replicate 8 (some .mbit10))) running).seat 15).up = true := by
  decide +kernel
theorem test_indication : ((after (.seatLinkIndicationChange 3 none) running).seat 3).counts.linkDowns = 1 := by decide +kernel
theorem test_speed : ((after (.seatSpeedChange 3 .mbit10) running).seat 3).indication = some .mbit10 := by decide +kernel
theorem test_activity : ((after (.activityTimerExpiry 3) (State.withSeat running 3 { liveSeat with activity := some 0 })).seat 3).activity
    = none := by decide +kernel
theorem test_mark : ((after (.barredFrameMarkExpiry 3) (State.withSeat running 3 { liveSeat with barredMark := some 0 })).seat 3).barredMark
    = none := by decide +kernel
theorem test_refill : (after .refill { granted with sau := { granted.sau with refill := some 0, pool := 3 } }).sau.pool = 100 := by
  decide +kernel
theorem test_minute : (after .minuteTimerExpiry { running with el :=
    { entries := [{ addr := clientX, kind := .premium, minutes := some 1, station := stationA }], minute := some 0 } }).el.entries = [] := by
  decide +kernel
theorem test_page_timer : ((after (.pageTimerExpiry .aft) (State.withAft running { idlePort with page := some 0 })).ev.out) =
    [.page .aft (pageBytes 7 .none false)] := by decide +kernel
theorem test_page : ((after (.pageArrival .aft (pageBytes 9 .none false)) running).side .aft).state = .paging := by decide +kernel
theorem test_page_own_number : ((after (.pageArrival .aft (pageBytes 7 .none false)) running).side .aft).ownFault = .couplingError := by
  decide +kernel
theorem test_silence : ((after (.silenceTimerExpiry .fore) (State.withFore running { coupledPort with silence := some 0 })).cu.epoch) = 2 := by
  decide +kernel
theorem test_error_window : ((after (.checkErrorWindowEnd .fore)
    (State.withFore running { coupledPort with errorWindow := some 0, errorCount := 9 })).side .fore).errorCount = 0 := by decide +kernel
theorem test_link_failure : ((after (.linkFailureTimerExpiry .aft)
    (State.withAft running { idlePort with ownFault := .linkFailure, linkFailure := some 0 })).side .aft).ownFault = .none := by
  decide +kernel
theorem test_spacing : (after (.spacingTimerExpiry stationA) { running with me := { stations :=
    [{ entryA with spacing := some 0, due := true, pending := [.tableFull] }] } }).me.counts.notices = 1 := by decide +kernel
theorem test_malformed : ((after (.malformedRadioMessage 0 [9]) running).link 0).counts.malformed = 1 := by decide +kernel

/-- The one response that a request's event composed: its status and arguments. -/
def replyTo (i : Instr) (s : State) : Option (Status × Bytes) :=
  match (after i s).ev.composed with
  | [.response r _ _] => some (r.status, r.args)
  | _ => none

def other : ReqHeader := { hdr with station := 0x020000000a02#48 }
theorem test_enrol_held : replyTo (.enrol other 1 3) running = some (.roleHeld, 1 :: addrBytes stationA) := by decide +kernel
theorem test_release_roles : replyTo (.releaseRoles hdr 3) running = some (.ok, [4]) := by decide +kernel
theorem test_clear_causes : replyTo (.clearCauses other [1]) running = some (.notHolder, []) := by decide +kernel
theorem test_grant : replyTo (.grantShare hdr 100 10 20 30 40 0) running = some (.ok, [0]) := by decide +kernel
theorem test_entitle : replyTo (.entitle hdr clientX 2 0) running = some (.ok, [0, 0, 0, 0, 0, 0, 0, 0, 0, 0, 0xFF, 0xFF, 0]) := by
  decide +kernel
theorem test_revoke : replyTo (.revoke hdr clientX) running = some (.notFound, []) := by decide +kernel
theorem test_journey_end : replyTo (.journeyEnd hdr) running = some (.ok, [0, 0]) := by decide +kernel
theorem test_evict : replyTo (.evict hdr clientX) (State.withRecord running (recordX atSeat)) = some (.ok, []) := by decide +kernel
theorem test_set_profile : replyTo (.setProfile hdr 64 (.seat ⟨1, 1522, 1, 0, 0, 300⟩)) running = some (.badArgument, []) := by
  decide +kernel
theorem test_set_lamp : replyTo (.setLamp hdr 0 none none (some [(3, 2), (9, 2)])) running = some (.ok, [1]) := by decide +kernel
theorem test_set_levels : replyTo (.setLevels hdr [(1, 8)]) running = some (.badArgument, [])
    ∧ replyTo (.setLevels hdr [(1, 7), (1, 2)]) running = some (.badArgument, []) := by decide +kernel
theorem test_set_timing : replyTo (.setTiming hdr 20 600 1000) running = some (.ok, []) := by decide +kernel
theorem test_set_addressing : replyTo (.setAddressing hdr 0x030000000001#48 1 0x030000000002#48 0) running
    = some (.badArgument, []) := by decide +kernel
theorem test_set_identity : replyTo (.setIdentity hdr 9) running = some (.conflict, [])
    ∧ replyTo (.setIdentity hdr 8) running = some (.ok, [0, 0, 0, 7]) := by decide +kernel
theorem test_port_offline : ((after (.portOffline hdr 1 1) running).side .aft).ownFault = .offline := by decide +kernel
theorem test_relay_setting : (after (.relaySetting hdr 0 4 9 1) running).ev.out = [.radio 0 (RadioOut.setting 4 9 true).bytes] := by
  decide +kernel
theorem test_reload_begins : (after (.reloadSettings hdr) running).sl.unit = .loading
    ∧ (after (.reloadSettings hdr) running).ev.composed = [] := by decide +kernel
theorem test_store_busy : replyTo (.storeSettings hdr) reloadingState = some (.busy, []) := by decide +kernel
theorem test_cabinet_reset : (after (.transmissionComplete (.backbone .fore)) (after (.cabinetReset hdr) running)).sl.resetCause
    = .cabinetRequest := by decide +kernel
theorem test_read_counters : replyTo (.readCounters hdr 10 0 0) running = some (.ok, [10, 0, 0, 0, 0, 0]) := by decide +kernel
theorem test_query_cabinet_length : ((replyTo (.queryCabinet hdr) running).map fun r => r.2.length) = some 127 := by decide +kernel
theorem test_query_client : replyTo (.queryClient hdr (.number 512)) running = some (.badArgument, []) := by decide +kernel
theorem test_list_clients : replyTo (.listClients hdr 0) running = some (.ok, [0, 0xFF, 0xFF]) := by decide +kernel
theorem test_query_port : ((replyTo (.queryPort hdr 1 0) running).map fun r => r.2.take 3) = some [2, 0, 0] := by decide +kernel
theorem test_query_link : ((replyTo (.queryLink hdr 0) running).map fun r => r.2.head?) = some (some 3) := by decide +kernel

/-! ### Witnesses: states and operands that meet the hypotheses of each statement, clause by clause -/

/-- AFT is not COUPLED but takes part in paging; the reset line is asserted; the response to a CABINET_RESET has just gone. -/
def lineHeld : State := { running with resetLine := true }
def resetOwed : State := { running with ev := { resetDue := true } }

theorem witness_StepTakesFrontCommand : ({ running with pending := [.refill, .powerOn] } : State).pending = .refill :: [.powerOn] := rfl
theorem witness_EmptyQueueStepIsATick :
    running.pending = [] ∧ running.resetLine = false ∧ running.loadAwaited = false := by decide +kernel
theorem witness_noResetComing : running.noResetComing := by unfold State.noResetComing; decide +kernel
/-- An event at whose end a response, a page and a lamp command are owed and a notice is due. -/
def owing : State :=
  { running with
    ev := { responses := [{ station := stationA, side := .fore, long := false, code := 0x31, tag := 1, status := .ok, args := [] }],
            pages := [.aft], relamp := [0] }
    me := { stations := [{ entryA with due := true, pending := [.tableFull] }] } }
theorem witness_owing : owing.noResetComing ∧ Inv owing ∧ owing.ev.responses ≠ [] ∧ Side.aft ∈ owing.ev.pages
    ∧ (owing.side .aft).pagingHeld = false ∧ trunkOf 3 ∈ owing.ev.relamp ∧ (owing.trunk (trunkOf 3)).state = .present
    ∧ ({ entryA with due := true, pending := [.tableFull] } : Station) ∈ owing.me.stations :=
  ⟨by unfold State.noResetComing; decide, inv_of_invB _ (by decide +kernel), by decide, by decide, by decide, by decide, by decide,
   by simp [owing]⟩
/-- The output of seat 3 changes at the end of this event, and no output of a seat of a LOST trunk is commanded. -/
theorem witness_lamp_changed : (State.withRecord running (recordX atSeat)).noResetComing
    ∧ ((State.withRecord running (recordX atSeat)).endEvent.seat 3).resolved ≠ ((State.withRecord running (recordX atSeat)).seat 3).resolved
    ∧ (running.trunk (trunkOf 63)).state ≠ .present := by unfold State.noResetComing; decide +kernel

theorem witness_CommandsWithoutEffect_asserted : lineHeld.resetLine = true ∧ takenInReset .refill = false := by decide +kernel
theorem witness_Resets : running.resetLine = false ∧ resetOwed.closeEvent.ev.resetDue = true := by decide +kernel
/-- A store of the factory settings whose image was valid before it, and the same with the response to a CABINET_RESET just gone. -/
def storingOver : State := { storingState .second with memory := factoryImage }
def storingReset : State := { storingOver with ev := { resetDue := true } }
theorem witness_Resets_of_a_store : storingOver.sl.unit = .storing .second [1] ∧ storingOver.resetLine = false
    ∧ storingReset.sl.unit = .storing .second [1] ∧ storingReset.closeEvent.ev.resetDue = true
    ∧ ∀ stage items, running.sl.unit ≠ .storing stage items :=
  ⟨rfl, rfl, rfl, by decide +kernel, fun _ _ h => UnitState.noConfusion h⟩
theorem test_reset_during_store : (after .resetLineAsserted storingOver).memory = { factoryImage with check := none }
    ∧ storingReset.endEvent.memory = { factoryImage with check := none } := by decide +kernel
theorem test_reset_keeps_the_image : (after .powerOn { running with memory := factoryImage }).memory = factoryImage := by
  decide +kernel
theorem witness_StartUpLoadBegins : lineHeld.resetLine = true ∧ State.reset.pending = [] ∧ State.reset.resetLine = false
    ∧ State.reset.loadAwaited = true := by decide +kernel
theorem witness_loadingAtStart : loadingAtStart loading 1 ∧ loading.memory.settings = none
    ∧ loadingAtStart { loading with memory := factoryImage } 1
    ∧ ({ loading with memory := factoryImage } : State).memory.settings = some factorySettings
    ∧ loadingAtStart { loading with sl := { loading.sl with accessTimer := some 0 } } 1
    ∧ (∀ c, (loading.link c).state = .held)
    ∧ ∀ c, (({ loading with sl := { loading.sl with accessTimer := some 0 } } : State).link c).state = .held := by
  refine ⟨by unfold loadingAtStart; decide, by decide, ?_, factoryImage_valid, ?_, by decide, by decide⟩ <;>
    (unfold loadingAtStart; decide)
theorem witness_reloading : reloading reloadingState 1 details ∧ reloadingState.memory.settings = none
    ∧ reloading { reloadingState with memory := factoryImage } 1 details
    ∧ reloading { reloadingState with sl := { reloadingState.sl with accessTimer := some 0 } } 1 details := by
  refine ⟨?_, by decide, ?_, ?_⟩ <;> (unfold reloading; decide)
/-- Settings that disable links 0 and 2, their image, and a reload of them with a client on link 0, one moving from link 0 to link
1, and one moving from link 0 to link 2. -/
def twoOff : Settings :=
  { factorySettings with links := [{ enabled := false }, { idleTime := 77 }, { enabled := false }] ++ List.replicate 5 {} }
theorem twoOff_is_read : readSettings twoOff.bytes = some twoOff := by decide +kernel
def twoOffReload : State :=
  { reloadingState with
    memory := { items := twoOff.bytes, check := some (crc32 twoOff.bytes) }
    clb := { links := ⟨⟨List.replicate 3 liveLink ++ List.replicate 5 { state := .down }⟩, rfl⟩ }
    ct := { records := [(0, recordX atLink), (1, { recordX (.moving (.ceiling 1 9) 0 6 (some 5) []) with addr := clientY }),
      (2, { recordX (.moving (.ceiling 2 9) 0 7 (some 5) []) with addr := stationA })] } }
theorem witness_reload_disables_links : reloading twoOffReload 1 details ∧ twoOffReload.memory.settings = some twoOff
    ∧ Inv twoOffReload ∧ (twoOffReload.link 0).state = .ready ∧ (twoOff.links.getD 0 {}).enabled = false
    ∧ (twoOffReload.link 2).state = .ready ∧ (twoOff.links.getD 2 {}).enabled = false ∧ (twoOff.links.getD 1 {}).enabled = true
    ∧ twoOffReload.record 0 = some (recordX atLink) ∧ (twoOffReload.record 1).isSome = true ∧ (twoOffReload.record 2).isSome = true :=
  ⟨by unfold reloading; decide, by simp [Image.settings, twoOffReload, twoOff_is_read], inv_of_invB _ (by decide +kernel), by decide,
   by decide, by decide, by decide, by decide, by decide +kernel, by decide, by decide⟩

/-- What was on links 0 and 2 lingers, and the move to link 1 completes with its new idle time. -/
theorem test_reload_disables_links : ((after (.settingsReadComplete 1) twoOffReload).ct.records.map fun e => e.2.st)
    = [.lingering (some 60000), .attached (.ceiling 1 9) (some 77000), .lingering (some 60000)] := by decide +kernel

theorem witness_request_of_cabinet_holder : running.takes hdr ∧ (running.rolesHeld hdr.station).cabinet = true
    ∧ (running.rolesHeld hdr.station).share = true ∧ (running.rolesHeld hdr.station).entitle = true ∧ running.sl.unit = .idle
    ∧ running.sl.unit ≠ .loading := ⟨running_takes, by decide, by decide, by decide, by decide, by decide⟩
theorem witness_takes_by_other_addresses :
    ({ running with me := { running.me with addressing := { groupEnable := true } } } : State).takes { hdr with dest := .group }
    ∧ running.takes { hdr with dest := .allCabinets } :=
  ⟨⟨by decide, by decide, by decide, ⟨by decide, by decide⟩, by decide⟩, ⟨by decide, by decide, by decide, rfl, by decide⟩⟩
theorem witness_storing : (storingState .first).resetLine = false ∧ (storingState .first).sl.unit = .storing .first [1]
    ∧ (storingState .second).sl.unit = .storing .second [1] ∧ (storingState .third).sl.unit = .storing .third [1]
    ∧ (storingState .third).sl.pendingReturn = some details ∧ (storingState .first).sl.accessTimer = some 0 := by decide
theorem witness_SettingsImageRoundTrip : factorySettings.inRange := by
  unfold Settings.inRange; decide +kernel
theorem witness_inFormat : (Request.setLevels (List.replicate 11 (1, 1))).inFormat = true
    ∧ (Request.clearCauses (List.replicate 11 1)).inFormat = true
    ∧ (Request.setLamp 0 none none (some (List.replicate 255 (1, 1)))).inFormat = true := by decide +kernel
theorem witness_CommandsWithoutEffect_not_due : running.resetLine = false ∧ running.expiryDue (.idleTimerExpiry 511) = some false
    ∧ running.expiryDue .minuteTimerExpiry = some false ∧ running.expiryDue (.surveyWindowEnd 0) = some false := by decide +kernel
theorem witness_CommandsWithoutEffect_trunks : (running.trunk 1).signal = false ∧ (running.trunk 0).signal = true
    ∧ running.resetLine = false ∧ ({ running with resetLine := true } : State).resetLine = true := by decide

/-! #### The Frame Store -/

theorem withSlots_free (s : State) (n : Nat) : (State.withSlots s n).freeSlots = 2048 - n := by
  simp [State.freeSlots, State.withSlots]

/-- FORE is COUPLED and one error short of a link failure. -/
def fifteenErrors : State := running.onSide .fore fun b => { b with errorCount := 15 }
theorem witness_BackboneFrameChecks_before_release_and_failing : State.reset.coupled .fore = false
    ∧ fifteenErrors.coupled .fore = true ∧ (fifteenErrors.side .fore).errorCount = 15
    ∧ (fifteenErrors.side .fore).ownFault = .none ∧ (fifteenErrors.side .fore).rx.isSome = true := by decide +kernel
theorem witness_BackboneFrameChecks : running.resetLine = false ∧ running.coupled .aft = false
    ∧ running.coupled .fore = true
    ∧ frameCheckOk [] = false ∧ (running.side .fore).errorCount ≠ 15
    ∧ frameCheckOk (frameOf clientX clientY 0x0800 63) = true ∧ (frameOf clientX clientY 0x0800 63).length < 64
    ∧ frameCheckOk (frameOf clientX clientY 0x0800 2049) = true ∧ 2048 < (frameOf clientX clientY 0x0800 2049).length
    ∧ (State.withSlots running 2032).coupled .fore = true ∧ 64 ≤ (frameOf clientX clientY 0x0800 64).length
    ∧ (frameOf clientX clientY 0x0800 2048).length ≤ 2048 ∧ (State.withSlots running 2032).freeSlots ≤ 16 :=
  ⟨by decide, by decide, by decide, by decide, by decide, frameOf_ok .., by rw [frameOf_length] <;> omega,
   frameOf_ok .., by rw [frameOf_length]; all_goals omega, by rfl, by rw [frameOf_length]; all_goals omega, by rw [frameOf_length]; all_goals omega,
   by rw [withSlots_free]⟩

/-- Any frame of an allowed length is accepted on FORE of a part with slots to spare. -/
theorem accepts_frame (s : State) (dst src : Addr) (type : Half) (n : Nat) (h : 64 ≤ n ∧ n ≤ 2048)
    (hs : s.resetLine = false ∧ s.coupled .fore = true) (hf : 16 < s.freeSlots) :
    s.acceptsFrame .fore (frameOf dst src type n) := by
  have := frameOf_length dst src type n (by omega)
  exact ⟨hs.1, hs.2, frameOf_ok .., by omega, by omega, hf⟩

theorem witness_acceptsFrame : running.acceptsFrame .fore (frameOf clientX clientY 0x0800 64)
    ∧ running.acceptsFrame .fore (frameOf clientX clientY 0x0800 2048)
    ∧ (State.withSlots running 2031).acceptsFrame .fore (frameOf clientX clientY 0x0800 64) :=
  ⟨accepts_frame _ _ _ _ _ (by omega) (by decide) (by decide), accepts_frame _ _ _ _ _ (by omega) (by decide) (by decide),
   accepts_frame _ _ _ _ _ (by omega) ⟨rfl, rfl⟩ (by rw [withSlots_free]; omega)⟩

def toX : Bytes := frameOf clientX clientY 0x0800 64
def toAll : Bytes := frameOf broadcast clientY 0x0800 64

/-- Seat 3's queue holds its 32 entries; a move's hold queue holds 32. -/
def fullSeat : State := State.onQueue (State.withRecord running (recordX atSeat)) (.seat 3) fun q => { q with entries := List.replicate 32 { slot := 0 } }
def fullHold : RecordState := .moving (.seat 3) 0 5 (some 5) (List.replicate 32 0)

theorem witness_Forwarding_to_a_client : frameDst toX = clientX ∧ running.notOwn clientX
    ∧ (State.withRecord running (recordX atSeat)).owns clientX 0 (recordX atSeat)
    ∧ (State.withRecord running (recordX atSeat)).appendTest (Place.seat 3).port false = none
    ∧ (State.withRecord running (recordX atLink)).appendTest (Place.ceiling 0 5).port false = none
    ∧ fullSeat.owns clientX 0 (recordX atSeat) ∧ fullSeat.appendTest (Place.seat 3).port false = some .full
    ∧ (State.withRecord running (recordX movingToSeat)).owns clientX 0 (recordX movingToSeat)
    ∧ (State.withRecord running (recordX fullHold)).owns clientX 0 (recordX fullHold)
    ∧ (State.withRecord running (recordX (.lingering (some 1)))).owns clientX 0 (recordX (.lingering (some 1))) := by
  unfold State.notOwn State.owns; decide +kernel

theorem witness_Forwarding_elsewhere : running.notOwn clientX ∧ running.byAddr clientX = none ∧ isMulticast clientX = false
    ∧ bothCoupled.appendTest (.backbone .aft) false = none ∧ running.coupled .aft = false
    ∧ frameDst (frameOf running.me.addressing.cabinet clientY 0x0800 64) = running.me.addressing.cabinet
    ∧ frameType (frameOf running.me.addressing.cabinet clientY 0x0800 64) ≠ managementType
    ∧ frameDst (frameOf allCabinets clientY 0x0800 64) = allCabinets ∧ ¬ bothCoupled.notOwn allCabinets
    ∧ allCabinets ≠ bothCoupled.me.addressing.cabinet ∧ ¬ bothCoupled.handsOver (frameOf allCabinets clientY 0x0800 64) := by
  unfold State.notOwn State.handsOver; decide +kernel

theorem witness_CopiesToAcceptingPorts : frameDst toAll = broadcast ∧ running.notOwn broadcast ∧ running.byAddr broadcast = none
    ∧ isMulticast broadcast = true ∧ running.offersCopy .fore broadcast (.seat 3) = true
    ∧ fullSeat.hasRoom (.seat 3) = false := by
  unfold State.notOwn; decide +kernel

def sending : State := State.onQueue running (.seat 3) fun q => { q with entries := [{ slot := 0 }, { slot := 1 }], tx := some { nanoseconds := 5120 } }
theorem witness_TransmissionCompletes : sending.resetLine = false ∧ (sending.queue (.seat 3)).tx = some { nanoseconds := 5120 }
    ∧ (sending.queue (.seat 3)).entries = { slot := 0 } :: [{ slot := 1 }] ∧ (running.queue (.seat 3)).tx = none := by decide +kernel

/-- A frame in transmission on link 0, with two messages to its radio waiting. -/
def linkSending : State := State.onQueue running (.ceiling 0) fun q =>
  { q with entries := [{ slot := 0, assoc := 5 }], tx := some { nanoseconds := 528 }, waiting := [.radio (.drop 3), .radio (.release 2)] }
theorem witness_TransmissionCompletes_waiting : (linkSending.queue (.ceiling 0)).tx = some { nanoseconds := 528 }
    ∧ linkSending.controlOpen (.ceiling 0) = true
    ∧ linkSending.waitingOutputs (.ceiling 0) = [.radio 0 (RadioOut.drop 3).bytes, .radio 0 (RadioOut.release 2).bytes] := by
  decide +kernel
theorem test_waiting_messages_go_out : (linkSending.completeTransmission (.ceiling 0)).ev.out =
    [.frame (.ceiling 0) (dataToRadio 5 []), .radio 0 (RadioOut.drop 3).bytes, .radio 0 (RadioOut.release 2).bytes] := by
  decide +kernel

/-- A claim that leaves 128 slots, one that leaves 129, and a release that leaves 257. -/
theorem witness_ControlMessagesAndLowWater : running.controlOpen (.backbone .fore) = true ∧ State.reset.controlOpen (.backbone .fore) = false
    ∧ (sending.queue (.seat 3)).tx.isSome = true ∧ sending.controlOpen (.seat 3) = true
    ∧ 0 < (State.withSlots running 1919).freeSlots ∧ (State.withSlots running 1919).freeSlots - 1 ≤ 128
    ∧ 128 < (State.withSlots running 1918).freeSlots - 1 ∧ (State.withSlots running 2048).freeSlots ≤ 0
    ∧ (State.withSlots running 2048).fs.mark = .armed ∧ running.takes hdr ∧ 130 < running.freeSlots :=
  ⟨by decide, by decide, by decide, by decide, by rw [withSlots_free]; omega, by rw [withSlots_free], by rw [withSlots_free]; omega,
   by rw [withSlots_free], rfl, running_takes, by decide⟩

/-! #### Clients -/

def fromX : Bytes := frameOf clientY clientX 0x0800 64

/-- Any frame of an allowed length from clientX is accepted from a live seat of a part with slots to spare. -/
theorem accepts_seat_frame (s : State) (n : Nat) (h : 64 ≤ n ∧ n ≤ 1522) (hf : 128 < s.freeSlots)
    (hs : s.resetLine = false ∧ (s.trunk (trunkOf 3)).state ≠ .held ∧ (s.seat 3).up = true ∧ (s.seat 3).profile.maxLength = 1522
      ∧ (s.seat 3).profile.loopback = false ∧ s.entitlement clientX ≠ some .barred ∧ s.badSource clientX = false)
    (hx : frameSrc (frameOf clientY clientX 0x0800 n) = clientX) :
    s.acceptsSeatFrame 3 (frameOf clientY clientX 0x0800 n) := by
  have := frameOf_length clientY clientX 0x0800 n (by omega)
  obtain ⟨a, b, c, d, e, f, g⟩ := hs
  exact ⟨a, b, c, frameOf_ok .., by omega, by omega, e, by rw [hx]; exact f, by rw [hx]; exact g, hf⟩

theorem fromX_src : frameSrc fromX = clientX := by decide +kernel
theorem witness_acceptsSeatFrame : running.acceptsSeatFrame 3 fromX ∧ granted.acceptsSeatFrame 3 fromX
    ∧ (State.withSlots running 1919).acceptsSeatFrame 3 fromX
    ∧ running.acceptsSeatFrame 3 (frameOf clientY clientX 0x0800 1522) :=
  ⟨accepts_seat_frame _ _ (by omega) (by decide) (by decide +kernel) fromX_src,
   accepts_seat_frame _ _ (by omega) (by decide) (by decide +kernel) fromX_src,
   accepts_seat_frame _ _ (by omega) (by rw [withSlots_free]; omega) (by decide +kernel) fromX_src,
   accepts_seat_frame _ _ (by omega) (by decide) (by decide +kernel) (by decide +kernel)⟩

def loopSeat : Seat := { liveSeat with profile := { loopback := true } }
def barX : State := { running with el := { entries := [{ addr := clientX, kind := .barred, minutes := none, station := stationA }] } }
theorem witness_SeatFrameChecks : (State.reset.trunk (trunkOf 3)).state = .held ∧ (running.trunk (trunkOf 8)).state ≠ .held
    ∧ (running.seat 8).up = false ∧ (running.seat 3).up = true ∧ frameCheckOk [] = false
    ∧ (frameOf clientY clientX 0x0800 63).length < 64 ∧ (running.seat 3).profile.maxLength < (frameOf clientY clientX 0x0800 1523).length
    ∧ barX.entitlement (frameSrc fromX) = some .barred ∧ running.entitlement (frameSrc fromX) ≠ some .barred
    ∧ running.badSource (frameSrc (frameOf clientY 0 0x0800 64)) = true ∧ (State.withSlots running 1920).freeSlots ≤ 128
    ∧ ((State.withSeat running 3 loopSeat).seat 3).profile.loopback = true
    ∧ ((State.withSeat running 3 loopSeat).queue (.seat 3)).entries.length < 32 ∧ Inv (State.withSeat running 3 loopSeat) :=
  ⟨by decide, by decide, by decide, by decide, by decide, by rw [frameOf_length] <;> omega,
   by rw [frameOf_length]; decide; omega, by decide +kernel, by decide +kernel, by decide +kernel, by rw [withSlots_free],
   by decide +kernel, by decide +kernel, inv_of_invB _ (by decide +kernel)⟩

def recordY : Record := { recordX atSeat with addr := clientY }
def occupied : State := State.withRecord running recordY
/-- Every record is in use at a seat or link that is not seat 3. -/
def fullTable : State :=
  { running with ct := { running.ct with
      records := (List.range 512).map fun k => (k, { recordX atLink with addr := BitVec.ofNat 48 (0x020000001000 + k) }) } }

theorem witness_NewClientIsLearned : Inv running ∧ running.byAddr (frameSrc fromX) = none ∧ running.sau.state = .held
    ∧ running.occupant 3 = none ∧ running.ct.records.firstFree 0 < 512 ∧ Inv occupied ∧ occupied.occupant 3 = some (0, recordY)
    ∧ recordY.st = .attached (.seat 3) (some 5) ∧ occupied.byAddr (frameSrc fromX) = none
    ∧ fullTable.byAddr (frameSrc fromX) = none ∧ fullTable.occupant 3 = none ∧ fullTable.obtain = none :=
  ⟨running_inv, by decide +kernel, by decide, by decide +kernel, by decide, inv_of_invB _ (by decide +kernel), by decide +kernel, rfl,
   by decide +kernel, by decide +kernel, by decide +kernel, by decide +kernel⟩
theorem witness_fullTable_inv : Inv fullTable := inv_of_invB _ (by decide +kernel)

/-- A MOVING occupant of seat 3; and a full table whose records 7 and 9 linger, with the same time left. -/
def movingOccupant : State := State.withRecord running { recordX movingToSeat with addr := clientY }
def reclaimable : State :=
  { fullTable with ct := { fullTable.ct with
      records := fullTable.ct.records.map fun e => if e.1 = 7 ∨ e.1 = 9 then (e.1, { e.2 with st := .lingering (some 2) }) else e } }
theorem witness_NewClientIsLearned_more : Inv movingOccupant ∧ movingOccupant.occupant 3 = some (0, { recordX movingToSeat with addr := clientY })
    ∧ movingOccupant.byAddr (frameSrc fromX) = none ∧ reclaimable.byAddr (frameSrc fromX) = none ∧ reclaimable.occupant 3 = none
    ∧ 512 ≤ reclaimable.ct.records.firstFree 0 ∧ reclaimable.sau.state = .held
    ∧ (reclaimable.record 7).map Record.st = some (.lingering (some 2))
    ∧ ∀ k z d, reclaimable.record k = some z → z.st = .lingering d → (some 2).getD 0 < d.getD 0 ∨ ((some 2).getD 0 = d.getD 0 ∧ 7 ≤ k) := by
  refine ⟨inv_of_invB _ (by decide +kernel), by decide +kernel, by decide +kernel, by decide +kernel, by decide +kernel,
    by decide +kernel, by decide, by decide +kernel, fun k z d hk hz => ?_⟩
  have h : ∀ e ∈ reclaimable.ct.records, e.2.st.isLingering = true → e.2.st = .lingering (some 2) ∧ 7 ≤ e.1 := by decide +kernel
  obtain ⟨h1, h2⟩ := h (k, z) (Table.get_mem _ _ _ hk) (by rw [hz]; rfl)
  rw [hz] at h1
  injection h1 with h1
  exact .inr ⟨by rw [h1], h2⟩
theorem witness_reclaimable_inv : Inv reclaimable := inv_of_invB _ (by decide +kernel)

/-- The record that a new client gets at an empty seat, at an occupied one, in a full table with LINGERING records, and in a full table
where the seat's own occupant is all there is to reclaim. -/
def crowdedSeat : State :=
  { fullTable with ct := { fullTable.ct with
      records := fullTable.ct.records.map fun e => if e.1 = 5 then (e.1, { e.2 with st := movingToSeat }) else e } }
theorem witness_NewClientIsLearned_obtained : (running.clearSeat 3 none).obtain = some (0, false)
    ∧ (occupied.clearSeat 3 none).obtain = some (1, false) ∧ (reclaimable.clearSeat 3 none).obtain = some (7, true)
    ∧ (crowdedSeat.clearSeat 3 none).obtain = some (5, true) ∧ crowdedSeat.byAddr (frameSrc fromX) = none := by decide +kernel
theorem witness_crowdedSeat_inv : Inv crowdedSeat := inv_of_invB _ (by decide +kernel)
theorem witness_NewClientIsLearned_references : RefInv running ∧ RefInv occupied ∧ RefInv movingOccupant ∧ RefInv fullTable
    ∧ RefInv reclaimable ∧ RefInv crowdedSeat ∧ RefInv granted := by
  refine ⟨?_, ?_, ?_, ?_, ?_, ?_, ?_⟩ <;> exact refInv_of_empty _ rfl (by decide +kernel) (by decide +kernel)
/-- Client Y at number 5 of link 0, which X then takes. -/
def numberTaken : State := State.withRecord running { recordX atLink with addr := clientY }
/-- The states that the statement about new records speaks of: an empty seat and an occupied one, a free number and a taken one, in
UPLINK_HELD and under a grant, and a record that is reclaimed. -/
theorem witness_NewRecordStarts : Inv occupied ∧ PlacesInv occupied ∧ occupied.byAddr clientX = none
    ∧ (occupied.occupant 4 = none ∧ (occupied.clearSeat 4 none).obtain = some (1, false))
    ∧ (occupied.occupant 3 = some (0, recordY) ∧ (occupied.clearSeat 3 none).obtain = some (1, false))
    ∧ Inv numberTaken ∧ PlacesInv numberTaken ∧ numberTaken.byAddr clientX = none
    ∧ (numberTaken.displaced clientX 0 6 = none ∧ numberTaken.obtain = some (1, false))
    ∧ (numberTaken.displaced clientX 0 5 = some 0 ∧ (numberTaken.enterLingering 0).obtain = some (1, false))
    ∧ Inv granted ∧ PlacesInv granted ∧ granted.byAddr clientX = none ∧ granted.sau.state = .granted grant none
    ∧ (granted.clearSeat 3 none).obtain = some (0, false) := by
  refine ⟨inv_of_invB _ (by decide +kernel), by unfold PlacesInv; decide +kernel, by decide +kernel, by decide +kernel,
    by decide +kernel, inv_of_invB _ (by decide +kernel), by unfold PlacesInv; decide +kernel, by decide +kernel, by decide +kernel,
    by decide +kernel, inv_of_invB _ (by decide +kernel), by unfold PlacesInv; decide +kernel, by decide +kernel, rfl,
    by decide +kernel⟩
/-- Every record LINGERING, record 7 with the least time left. -/
def allLingering : State :=
  { running with ct := { running.ct with records := fullTable.ct.records.map fun e =>
      (e.1, { e.2 with st := .lingering (some (if e.1 = 7 then 2 else 9)) }) } }
theorem allLingering_addrs_nodup : (allLingering.ct.records.map fun e => e.2.addr).Nodup := by
  have h : (allLingering.ct.records.map fun e => e.2.addr)
      = (List.range 512).map fun k => BitVec.ofNat 48 (0x020000001000 + k) := by
    simp only [allLingering, fullTable, recordX, List.map_map, Function.comp_def]
  rw [h]
  refine List.Nodup.map_on (fun a ha b hb hab => ?_) List.nodup_range
  have := congrArg BitVec.toNat hab
  simp only [List.mem_range, BitVec.toNat_ofNat] at *
  omega
theorem witness_NewRecordStarts_reclaimed : Inv allLingering ∧ PlacesInv allLingering ∧ allLingering.byAddr clientX = none
    ∧ (allLingering.clearSeat 3 none).obtain = some (7, true) :=
  ⟨inv_of_invB _ (by decide +kernel), ⟨allLingering_addrs_nodup, by decide +kernel, by decide +kernel⟩, by decide +kernel,
   by decide +kernel⟩
/-- R7 and R14: X takes number 5 of link 0, and Y, displaced from it, goes to LINGERING: one client is attached, as before. -/
theorem test_new_record_displaces : ((numberTaken.handOver clientX 0 5).record 1).map (fun r => (r.addr, r.cls, r.credit))
      = some (clientX, .basic, 0)
    ∧ (numberTaken.handOver clientX 0 5).attachedCount 0 = 1 := by decide +kernel

/-- Under a grant: a new BASIC client can pay for a short frame and not for a long one, a new SERVICE client need not. -/
theorem witness_NewClientIsLearned_share : granted.newCredit (granted.classOf clientX) = 20
    ∧ frameCost fromX.length ≤ 20 ∧ ¬ frameCost (frameOf clientY clientX 0x0800 1522).length ≤ 20
    ∧ ({ granted with el := { entries := [{ addr := clientX, kind := .service, minutes := none, station := stationA }] } } : State).classOf
        clientX = .service := by
  rw [show fromX.length = 64 from frameOf_length _ _ _ _ (by omega), frameOf_length _ _ _ _ (by omega)]
  decide +kernel
theorem test_occupant_leaves : ((after (.seatFrameArrival 3 fromX) movingOccupant).record 0).map Record.st = some (.lingering (some 60000))
    ∧ (after (.seatFrameArrival 3 fromX) movingOccupant).mc.counts.targetsLost = 1 := by decide +kernel

/-- A record with a credit and parked frames, at seat 3. -/
def payer (cls : Machine.Class) (credit : Nat) (parked : List Nat) : Record := { recordX atSeat with cls := cls, credit := credit, parked := parked }
def paying (r : Record) : State := State.withRecord granted r
def gatewayFull (r : Record) : State :=
  State.onQueue (paying r) (.backbone .fore) fun q => { q with entries := List.replicate 512 { slot := 0 } }
theorem witness_KnownClientIsCharged : Inv (paying (payer .basic 1 [])) ∧ (paying (payer .basic 1 [])).owns (frameSrc fromX) 0 (payer .basic 1 [])
    ∧ granted.sau.state = .granted grant none ∧ (paying (payer .service 0 [])).appendTest (.backbone grant.gateway) false = none
    ∧ frameCost fromX.length ≤ (payer .basic 1 []).credit ∧ frameCost fromX.length ≤ granted.sau.pool
    ∧ (gatewayFull (payer .basic 1 [])).appendTest (.backbone .fore) false = some .full
    ∧ ¬ frameCost fromX.length ≤ (payer .basic 0 []).credit ∧ (payer .basic 9 [1, 2, 3]).parked.length < 4
    ∧ 4 ≤ (payer .basic 9 [1, 2, 3, 4]).parked.length := by
  have h : fromX.length = 64 := frameOf_length _ _ _ _ (by omega)
  rw [h]
  exact ⟨inv_of_invB _ (by decide +kernel), by unfold State.owns; decide +kernel, rfl, by decide +kernel, by decide, by decide,
    by decide +kernel, by decide, by decide, by decide⟩

/-- Under a grant: clients MOVING to seat 3 and to number 5 of link 0, one whose move leaves that number, and one ATTACHED there. -/
theorem witness_KnownClientIsCharged_moving : Inv (State.withRecord granted (recordX movingToSeat))
    ∧ (State.withRecord granted (recordX movingToSeat)).owns (frameSrc fromX) 0 (recordX movingToSeat)
    ∧ (recordX movingToSeat).st.place = some (.seat 3) ∧ (recordX atSeat).st.place = some (.seat 3)
    ∧ (State.withRecord running (recordX atSeat)).sau.state = .held ∧ granted.sau.state = .granted grant none :=
  ⟨inv_of_invB _ (by decide +kernel), by unfold State.owns; decide +kernel, rfl, rfl, rfl, rfl⟩

def atOtherSeat : RecordState := .attached (.seat 4) (some 5)
def movingElsewhere : RecordState := .moving (.seat 4) 1 6 (some 5) []
def movingToLink : RecordState := .moving (.ceiling 0 5) 1 6 (some 5) []
theorem witness_ClientChangesPlace :
    (State.withRecord running (recordX atOtherSeat)).owns (frameSrc fromX) 0 (recordX atOtherSeat)
    ∧ (State.withRecord running (recordX atOtherSeat)).occupant 3 = none
    ∧ (State.withRecord running (recordX atLink)).owns (frameSrc fromX) 0 (recordX atLink)
    ∧ (State.withRecord running (recordX atLink)).byFormer 0 5 = none ∧ ((State.withRecord running (recordX atLink)).link 0).state = .ready
    ∧ (State.withRecord running (recordX movingElsewhere)).owns (frameSrc fromX) 0 (recordX movingElsewhere)
    ∧ (State.withRecord running (recordX movingElsewhere)).occupant 3 = none
    ∧ (State.withRecord running (recordX movingToLink)).owns (frameSrc fromX) 0 (recordX movingToLink)
    ∧ (State.withRecord running (recordX (.lingering (some 0)))).owns (frameSrc fromX) 0 (recordX (.lingering (some 0))) := by
  unfold State.owns; decide +kernel

theorem witness_RecordTimersExpire :
    (State.withRecord running (recordX (.attached (.seat 3) (some 0)))).record (0 : RecordNo).val
      = some (recordX (.attached (.seat 3) (some 0)))
    ∧ (State.withRecord running (recordX (.attached (.ceiling 0 5) (some 0)))).record (0 : RecordNo).val
      = some (recordX (.attached (.ceiling 0 5) (some 0)))
    ∧ (State.withRecord running (recordX (.lingering (some 0)))).record (0 : RecordNo).val = some (recordX (.lingering (some 0)))
    ∧ (State.withRecord running (recordX (.moving (.seat 3) 0 5 (some 0) [1]))).takesFrames (.seat 3)
    ∧ (running.link 0).state = .ready := by
  unfold State.takesFrames; decide +kernel

/-! #### Ceiling links -/

theorem witness_RadioMessageNotTaken : radioMessage (.disassoc 0 0) = some (0, some (.disassoc 0)) ∧ (State.reset.link 0).state = .held
    ∧ (running.link 0).state ≠ .held ∧ (some (RadioMessage.disassoc 0)).all RadioMessage.badNumber = true
    ∧ (some (RadioMessage.disassoc 64)).all RadioMessage.badNumber = true
    ∧ (some (RadioMessage.disassoc 63)).all RadioMessage.badNumber = false
    ∧ radioMessage (.malformedRadioMessage 0 [9]) = some (0, none) ∧ (running.link 2).state ≠ .held
    ∧ (running.link 2).state ≠ .ready := by decide +kernel
theorem witness_hears : running.hears 0 ∧ goodNumber 1 ∧ goodNumber 63 := by unfold State.hears goodNumber; decide +kernel
theorem witness_CeilingDataIsChecked : frameCheckOk [] = false ∧ (frameOf clientY clientX 0x0800 63).length < 64
    ∧ (running.link 0).profile.maxLength < (frameOf clientY clientX 0x0800 1523).length
    ∧ running.atPlace (.ceiling 0 (assocNo 5)) = none ∧ running.byFormer 0 (assocNo 5) = none
    ∧ (State.withRecord running (recordX atLink)).atPlace (.ceiling 0 (assocNo 5)) = some (0, recordX atLink)
    ∧ (recordX atLink).addr ≠ frameSrc (frameOf clientX clientY 0x0800 64) ∧ (recordX atLink).addr = frameSrc fromX
    ∧ (State.withRecord running (recordX atLink)).byFormer 0 (assocNo 5) = none ∧ Inv (State.withRecord running (recordX atLink)) :=
  ⟨by decide, by rw [frameOf_length] <;> omega, by rw [frameOf_length]; decide; omega, by decide +kernel, by decide +kernel,
   by decide +kernel, by decide +kernel, by decide +kernel, by decide +kernel, inv_of_invB _ (by decide +kernel)⟩

def movingToFive : RecordState := .moving (.ceiling 0 5) 1 6 (some 5) []
theorem witness_CeilingDataIsChecked_owners :
    (State.withRecord granted (recordX atLink)).dataFrom 0 (assocNo 5) (frameSrc fromX) 0 (recordX atLink)
    ∧ (State.withRecord granted (recordX movingToFive)).dataFrom 0 (assocNo 5) (frameSrc fromX) 0 (recordX movingToFive)
    ∧ (State.withRecord granted (recordX movingToSeat)).dataFrom 0 (assocNo 5) (frameSrc fromX) 0 (recordX movingToSeat)
    ∧ Inv (State.withRecord granted (recordX movingToFive)) ∧ (State.withRecord granted (recordX movingToFive)).hears 0
    ∧ ((State.withRecord running { recordX movingToSeat with addr := clientY }).byFormer 0 (assocNo 5)).isSome = true
    ∧ ((State.withRecord running { recordX movingToSeat with addr := clientY }).byFormer 0 (assocNo 5)).all
        (fun e => e.2.addr != frameSrc fromX) = true :=
  ⟨by unfold State.dataFrom; decide +kernel, by unfold State.dataFrom; decide +kernel, by unfold State.dataFrom; decide +kernel,
   inv_of_invB _ (by decide +kernel), by unfold State.hears; decide +kernel, by decide +kernel, by decide +kernel⟩

/-- Link 0 at its client limit of 1, and link 0 crowded with link 1 quiet. -/
def limitOne : Link := { liveLink with profile := { clientLimit := 1 } }
def crowdedLink : Link := { liveLink with survey := some { busy := 800, length := 1000 } }
def linkFull : State := State.withLink (State.withRecord running { recordX atLink with addr := clientY }) 0 limitOne
theorem witness_AssocIsAnswered : barX.entitlement clientX = some .barred ∧ running.entitlement clientX ≠ some .barred
    ∧ badClientAddr clientX = false ∧ running.displaced clientX 0 (assocNo 5) = none
    ∧ (State.withRecord running (recordX atLink)).owns clientX 0 (recordX atLink)
    ∧ (State.withRecord running (recordX atSeat)).owns clientX 0 (recordX atSeat)
    ∧ (linkFull.link 0).profile.clientLimit ≤ linkFull.attachedCount 0 ∧ linkFull.isService clientX = false
    ∧ linkFull.byAddr clientX = none ∧ linkFull.displaced clientX 0 (assocNo 6) = none
    ∧ running.attachedCount 0 < (running.link 0).profile.clientLimit
    ∧ ((State.withLink running 0 crowdedLink).link 0).crowded = true ∧ (State.withLink running 0 crowdedLink).quieterLink 0 = true
    ∧ (State.withLink running 0 crowdedLink).isDeferred clientX = false ∧ running.obtain = some (0, false)
    ∧ (State.withRecord running (recordX (.lingering (some 1)))).owns clientX 0 (recordX (.lingering (some 1))) := by
  unfold State.owns; decide +kernel
/-- Link 1 with no record to be had. -/
theorem witness_AssocIsAnswered_table_full : fullTable.obtain = none ∧ fullTable.byAddr clientX = none
    ∧ fullTable.displaced clientX 1 (assocNo 5) = none ∧ fullTable.attachedCount 1 < (fullTable.link 1).profile.clientLimit := by
  decide +kernel

/-- Clients elsewhere that associate with link 0: one on link 1 whose number another move still holds as its former place, one moving
from link 0, one moving to it, and one moving past it; and clients moving to the number that another client asks for. -/
def onLinkOne : RecordState := .attached (.ceiling 1 6) (some 5)
def superseding : State :=
  { running with ct := { running.ct with records := [(0, recordX onLinkOne), (1, { recordX movingElsewhere with addr := clientY })] } }
def linkFullElsewhere : State :=
  State.withLink { running with ct := { running.ct with
    records := [(0, recordX onLinkOne), (1, { recordX atLink with addr := clientY })] } } 0 limitOne
def linkFullMoving : State :=
  State.withLink { running with ct := { running.ct with
    records := [(0, recordX movingElsewhere), (1, { recordX atLink with addr := clientY })] } } 0 limitOne
def displacing : State := State.withRecord running { recordX movingToLink with addr := clientY }
theorem witness_AssocIsAnswered_moves : (State.withRecord running (recordX onLinkOne)).owns clientX 0 (recordX onLinkOne)
    ∧ (running.link 1).state = .ready ∧ (State.withRecord running (recordX onLinkOne)).byFormer 1 6 = none
    ∧ superseding.owns clientX 0 (recordX onLinkOne)
    ∧ superseding.byFormer 1 6 = some (1, { recordX movingElsewhere with addr := clientY }) ∧ superseding.takesFrames (.seat 4)
    ∧ linkFullElsewhere.owns clientX 0 (recordX onLinkOne)
    ∧ (linkFullElsewhere.link 0).profile.clientLimit ≤ linkFullElsewhere.attachedCount 0
    ∧ linkFullMoving.owns clientX 0 (recordX movingElsewhere)
    ∧ (linkFullMoving.link 0).profile.clientLimit ≤ linkFullMoving.attachedCount 0
    ∧ (State.withRecord running (recordX movingToLink)).owns clientX 0 (recordX movingToLink)
    ∧ movingToLink.targetOn 0 = true ∧ movingToSeat.targetOn 0 = false ∧ movingElsewhere.targetOn 0 = false
    ∧ (State.withRecord running (recordX movingToSeat)).owns clientX 0 (recordX movingToSeat)
    ∧ (State.withRecord running (recordX movingElsewhere)).owns clientX 0 (recordX movingElsewhere)
    ∧ running.reachable (.seat 3) ∧ running.reachable (.ceiling 1 6) := by
  unfold State.owns State.takesFrames State.reachable; decide +kernel
theorem witness_AssocIsAnswered_displaced : displacing.displaced clientX 0 (assocNo 5) = some 0
    ∧ displacing.record 0 = some { recordX movingToLink with addr := clientY } ∧ displacing.byAddr clientX = none
    ∧ displacing.obtain = some (1, false) ∧ displacing.attachedCount 0 - 1 < (displacing.link 0).profile.clientLimit := by
  decide +kernel
theorem witness_AssocIsAnswered_inv : Inv superseding ∧ Inv linkFullElsewhere ∧ Inv linkFullMoving ∧ Inv displacing :=
  ⟨inv_of_invB _ (by decide +kernel), inv_of_invB _ (by decide +kernel), inv_of_invB _ (by decide +kernel),
   inv_of_invB _ (by decide +kernel)⟩

theorem witness_DisassociationAndRelease :
    (State.withRecord running (recordX atLink)).atPlace (.ceiling 0 (assocNo 5)) = some (0, recordX atLink)
    ∧ (State.withRecord running (recordX atLink)).byFormer 0 (assocNo 5) = none
    ∧ (State.withRecord running (recordX movingToSeat)).atPlace (.ceiling 0 (assocNo 5)) = none
    ∧ (State.withRecord running (recordX movingToSeat)).byFormer 0 (assocNo 5) = some (0, recordX movingToSeat)
    ∧ (State.withRecord running (recordX movingToSeat)).takesFrames (.seat 3)
    ∧ running.atPlace (.ceiling 0 (assocNo 63)) = none ∧ running.byFormer 0 (assocNo 63) = none := by
  unfold State.takesFrames; decide +kernel

/-- A client at number 5 of link 0, and another whose move leaves that number. -/
def bothAtFive : State :=
  { running with ct := { running.ct with records := [(0, recordX atLink), (1, { recordX movingToSeat with addr := clientY })] } }
theorem witness_DisassociationAndRelease_more : Inv displacing
    ∧ displacing.atPlace (.ceiling 0 (assocNo 5)) = some (0, { recordX movingToLink with addr := clientY })
    ∧ displacing.byFormer 0 (assocNo 5) = none ∧ Inv bothAtFive
    ∧ bothAtFive.atPlace (.ceiling 0 (assocNo 5)) = some (0, recordX atLink)
    ∧ bothAtFive.byFormer 0 (assocNo 5) = some (1, { recordX movingToSeat with addr := clientY })
    ∧ bothAtFive.takesFrames (.seat 3) :=
  ⟨inv_of_invB _ (by decide +kernel), by decide +kernel, by decide +kernel, inv_of_invB _ (by decide +kernel), by decide +kernel,
   by decide +kernel, by unfold State.takesFrames; decide +kernel⟩

theorem witness_SettingRelayRuns : linkOf 7 = some 7 ∧ linkOf 0 = some 0 ∧ boolOf 1 = some true ∧ (running.link 0).relay = none
    ∧ (running.link 0).state = .ready ∧ (running.link 7).state ≠ .ready
    ∧ ((State.withLink running 0 { liveLink with relay := some waitingRelay }).link 0).relay = some waitingRelay
    ∧ (State.withLink running 0 { liveLink with relay := some waitingRelay }).hears 0 ∧ waitingRelay.timeout = some 0 := by
  unfold State.hears; decide +kernel

theorem witness_LinkStatusTable : (State.reset.link 0).state = .held ∧ (running.link 7).state = .down
    ∧ ((State.withLink running 0 { liveLink with state := .unready, window := none }).link 0).state = .unready
    ∧ (running.link 0).state = .ready ∧ (running.link 0).window = some newWindow ∧ 0 < newWindow.left := by decide +kernel

theorem witness_LinkStatusTable_moves : movingToLink.targetOn 0 = true ∧ movingToSeat.leaves 0 = true
    ∧ (State.withRecord running (recordX movingToLink)).record 0 = some (recordX movingToLink)
    ∧ running.transmits (.seat 3) = true ∧ running.inLoopback (.seat 3) = false
    ∧ (State.withRecord running (recordX fullHold)).flushedFrom 0 (.seat 3) ≠ [] := by decide +kernel

theorem witness_SurveyAndDeferralEnd :
    ((State.withLink running 0 { liveLink with window := some { newWindow with left := 0 } }).link 0).window
      = some { newWindow with left := 0 }
    ∧ ({ addr := clientX, left := 0 } : Deferral) ∈ [({ addr := clientX, left := 0 } : Deferral)] := by decide +kernel

/-! #### Seats -/

theorem witness_TrunkSignalLossAndReturn : (running.trunk 0).signal = true ∧ (running.trunk 0).state = .present
    ∧ (running.trunk 7).signal = false ∧ (running.trunk 7).state = .lost ∧ (∀ p, trunkOf p = 7 → (running.seat p).up = false)
    ∧ (State.reset.onTrunk 0 fun x => { x with signal := true }).trunk 0 = { signal := true } ∧ lineHeld.resetLine = true
    ∧ (({ resetLine := true } : State).trunk 0).state = .held ∧ (({ resetLine := true } : State).trunk 0).signal = false := by
  decide +kernel

theorem witness_SeatStatusAndMarks : (running.trunk (trunkOf 3)).signal = true ∧ (running.trunk (trunkOf 3)).state = .present
    ∧ (running.seat 3).up = running.seatShouldBeUp 3 ∧ (running.seat 3).up = true
    ∧ ((State.withSeat running 3 {}).seat 3).up = (State.withSeat running 3 {}).seatShouldBeUp 3
    ∧ ((State.withSeat running 3 {}).seat 3).up = false
    ∧ (running.seat 3).indication = some .mbit100 ∧ (running.trunk (trunkOf 3)).wire[positionOf 3] = some .mbit100
    ∧ ((State.withSeat running 3 { liveSeat with activity := some 0 }).seat 3).activity = some 0
    ∧ ((State.withSeat running 3 { liveSeat with barredMark := some 0 }).seat 3).barredMark = some 0 := by decide +kernel

/-- An ATTACHED and a MOVING occupant of a seat of trunk 0. -/
theorem witness_occupants : Inv occupied ∧ occupied.occupant 3 = some (0, recordY) ∧ (occupied.seat 3).up = true
    ∧ movingOccupant.occupant 3 = some (0, { recordX movingToSeat with addr := clientY }) ∧ (movingOccupant.seat 3).up = true
    ∧ trunkOf 3 = 0 ∧ (movingOccupant.trunk 0).state = .present ∧ (movingOccupant.seat 3).up = movingOccupant.seatShouldBeUp 3 :=
  ⟨inv_of_invB _ (by decide +kernel), by decide +kernel, by decide +kernel, by decide +kernel, by decide +kernel, by decide,
   by decide +kernel, by decide +kernel⟩
theorem test_occupant_lingers_when_its_seat_goes_down :
    ((after (.seatLinkIndicationChange 3 none) movingOccupant).record 0).map Record.st = some (.lingering (some 60000))
    ∧ (after (.trunkSignalLoss 0 0) movingOccupant).mc.counts.targetsLost = 1
    ∧ ((after (.setProfile hdr 3 (.seat ⟨0, 1522, 1, 0, 0, 300⟩)) occupied).record 0).map Record.st = some (.lingering (some 60000)) := by
  decide +kernel

theorem witness_LampEffectIsTheStrongest : (running.seat 3).force = .auto
    ∧ ((State.withSeat running 3 { liveSeat with force := .off }).seat 3).force = .off
    ∧ ((State.withSeat running 3 { liveSeat with force := .fast }).seat 3).force = .fast := by decide +kernel

/-! #### Share and entitlements -/

/-- A refill that is due, with nothing waiting, and with one frame of one record waiting. -/
def refillDue : State := { granted with sau := { granted.sau with refill := some 0, overShareMark := true } }
def oneWaits : State :=
  { State.withRecord refillDue (payer .premium 0 [0]) with
    sau := { refillDue.sau with waiting := [0] }
    fs := { refillDue.fs with slots := [(0, { slotOf (List.replicate 64 0) with refs := 1 })] } }
theorem witness_RefillGivesAllowances : refillDue.resetLine = false ∧ refillDue.sau.state = .granted grant none
    ∧ refillDue.sau.refill = some 0 ∧ refillDue.sau.waiting = [] ∧ oneWaits.sau.waiting = [0]
    ∧ oneWaits.record 0 = some (payer .premium 0 [0]) ∧ frameCost (oneWaits.slotLength 0) ≤ grant.allowance .premium
    ∧ frameCost (oneWaits.slotLength 0) ≤ grant.pool ∧ oneWaits.appendTest (.backbone grant.gateway) false = none := by
  decide +kernel

/-- Two records wait, the one that came first of the lower class; the second can pay for one of its frames only. -/
def twoWait : State :=
  { refillDue with
    ct := { refillDue.ct with records :=
      [(0, payer .premium 0 [0, 1]), (1, { payer .basic 0 [2] with addr := clientY, st := atOtherSeat })] }
    sau := { refillDue.sau with waiting := [1, 0] }
    fs := { refillDue.fs with slots := [(0, slotOf (List.replicate 64 0)), (1, slotOf (List.replicate 2048 0)), (2, slotOf [])] } }
theorem twoWait_turns : twoWait.turnOrder = [0, 1]
    ∧ (twoWait.refillTurns { grant with pool := 30 }).map (fun e => (e.1, e.2.released, e.2.kept)) = [(0, [0], [1]), (1, [2], [])] := by
  decide +kernel
theorem twoWait_queues_empty : ∀ p ∈ allPorts, (twoWait.queue p).entries = [] := by decide +kernel
theorem twoWait_references (k : Nat) : twoWait.refsOf k = twoWait.references k := by
  have h : (allPorts.map fun port => (twoWait.queue port).entries.countP fun e => e.slot == k) = allPorts.map fun _ => 0 :=
    List.map_congr_left fun p hp => by rw [twoWait_queues_empty p hp]; rfl
  unfold State.references
  rw [h]
  rcases k with _ | _ | _ | k <;> rfl
theorem witness_release_pass : Inv twoWait ∧ WaitingInv twoWait ∧ RefInv twoWait :=
  ⟨inv_of_invB _ (by decide +kernel),
   ⟨by decide, fun n => by
      rcases n with _ | _ | n
      · exact ⟨fun _ => ⟨_, rfl, by decide⟩, fun _ => by decide⟩
      · exact ⟨fun _ => ⟨_, rfl, by decide⟩, fun _ => by decide⟩
      · refine ⟨fun h => ?_, fun ⟨r, hr, _⟩ => ?_⟩
        · rcases List.mem_cons.1 (show n + 2 ∈ [1, 0] from h) with h | h
          · omega
          · exact absurd (List.mem_singleton.1 h) (by omega)
        · exact absurd (show none = some r from hr) (by simp),
    by decide⟩,
   ⟨twoWait_references, by decide⟩⟩

theorem witness_GrantAppliedOrPended : sideOf 0 = some .fore ∧ sideOf 1 = some .aft ∧ running.coupled .fore = true
    ∧ running.coupled .aft = false ∧ (1048575#32).toNat ≤ 1048575 ∧ 1048575 < (1048576#32).toNat ∧ (1000#16).toNat ≤ 1000
    ∧ 1000 < (1001#16).toNat ∧ running.sau.state = .held ∧ granted.sau.state = .granted grant none := by decide +kernel

def premiumX : Entitlement := { addr := clientX, kind := .premium, minutes := some 1, station := stationA }
def listed : State := { State.withRecord running (recordX atLink) with el := { entries := [premiumX], minute := some 0 } }
def fullList : State :=
  { running with el := { entries := (List.range 256).map fun k => { premiumX with addr := BitVec.ofNat 48 (0x020000002000 + k) } } }
theorem witness_EntitleWritesTheList : kindOf 4 = some .barred ∧ kindOf 2 = some .premium ∧ (1440#16).toNat ≤ 1440
    ∧ badClientAddr clientX = false ∧ running.el.entries.length < 256 ∧ (listed.entryOf clientX).isSome = true
    ∧ listed.owns clientX 0 (recordX atLink) ∧ running.byAddr clientX = none ∧ fullList.entryOf clientX = none
    ∧ 256 ≤ fullList.el.entries.length ∧ badClientAddr 0 = true ∧ kindOf 5 = none ∧ 1440 < (1441#16).toNat
    ∧ (recordX atLink).st.place = some (.ceiling 0 5) ∧ (listed.link 0).state = .ready := by unfold State.owns; decide +kernel
theorem test_entitle_bars_an_attached_client : (after (.entitle hdr clientX 4 0) listed).record 0 = none
    ∧ Output.radio 0 (RadioOut.drop 5).bytes ∈ (after (.entitle hdr clientX 4 0) listed).ev.out := by decide +kernel
/-- Records that become SERVICE with frames parked and with none, and one that is SERVICE no longer. -/
theorem witness_EntitleWritesTheList_class : Inv twoWait ∧ twoWait.takes hdr ∧ (twoWait.rolesHeld hdr.station).entitle = true
    ∧ twoWait.owns clientX 0 (payer .premium 0 [0, 1]) ∧ kindOf 3 = some .service ∧ twoWait.sau.state = .granted grant none
    ∧ (paying (payer .service 7 [])).owns clientX 0 (payer .service 7 []) ∧ (paying (payer .premium 7 [])).owns clientX 0 (payer .premium 7 [])
    ∧ hdr.dest = .cabinet :=
  ⟨inv_of_invB _ (by decide +kernel), ⟨by decide, by decide, by decide, trivial, by decide⟩, by decide,
   by unfold State.owns; decide +kernel, by decide, rfl, by unfold State.owns; decide +kernel, by unfold State.owns; decide +kernel, rfl⟩
theorem test_entitle_service_releases_parked_frames : (after (.entitle hdr clientX 3 0) twoWait).sau.waiting = [1]
    ∧ (after (.entitle hdr clientX 3 0) twoWait).sau.counts.framesUncharged = 2
    ∧ (after (.entitle hdr clientX 3 0) twoWait).record 0 = some { payer .service 0 [] with st := .attached (.seat 3) none } := by
  decide +kernel
theorem test_entitle_from_service_starts_the_idle_timer : (after (.entitle hdr clientX 1 0) (paying (payer .service 7 []))).record 0
    = some { payer .standard 7 [] with st := .attached (.seat 3) (some 300000) } := by decide +kernel
theorem witness_lists_inv : Inv listed ∧ Inv fullList :=
  ⟨inv_of_invB _ (by decide +kernel), inv_of_invB _ (by decide +kernel)⟩
theorem witness_RevokeJourneyEndAndEvict : listed.entryOf clientX = some premiumX ∧ listed.owns clientX 0 (recordX atLink)
    ∧ premiumX ∈ listed.el.entries ∧ running.entryOf clientX = none ∧ running.byAddr clientX = none
    ∧ (recordX atLink).st.place = some (.ceiling 0 5) := by unfold State.owns; decide +kernel
/-- The station holds CABINET alone. -/
def cabinetOnly : State := { listed with me := { stations := [{ entryA with roles := { cabinet := true } }] } }
theorem witness_Evict_by_the_cabinet_holder : Inv cabinetOnly ∧ cabinetOnly.takes hdr
    ∧ (cabinetOnly.rolesHeld hdr.station).entitle = false ∧ (cabinetOnly.rolesHeld hdr.station).cabinet = true
    ∧ cabinetOnly.owns clientX 0 (recordX atLink) :=
  ⟨inv_of_invB _ (by decide +kernel), ⟨by decide, by decide, by decide, trivial, by decide⟩, by decide, by decide,
   by unfold State.owns; decide +kernel⟩
theorem test_evict_by_the_cabinet_holder : replyTo (.evict hdr clientX) cabinetOnly = some (.ok, []) := by decide +kernel
theorem witness_MinuteTimerExpires : listed.resetLine = false ∧ listed.el.minute = some 0 ∧ premiumX.minutes = some 1 := by
  decide +kernel

/-! #### Coupling -/

theorem witness_PagesAreReadAndMade : (running.side .aft).pagingHeld = false ∧ (pageBytes 9 .none true).length = 9
    ∧ field (pageBytes 9 .none true) 5 4 = beBytes 4 (crc32 ((pageBytes 9 .none true).take 5)).toNat
    ∧ faultOf (byteAt (pageBytes 9 .none true) 3) = some .none ∧ (byteAt (pageBytes 9 .none true) 4).toNat ≤ 1
    ∧ field (List.replicate 9 0) 5 4 ≠ beBytes 4 (crc32 ((List.replicate 9 0 : Bytes).take 5)).toNat
    ∧ field (withCrc32 [0, 0, 9, 4, 0]) 5 4 = beBytes 4 (crc32 ((withCrc32 [0, 0, 9, 4, 0]).take 5)).toNat
    ∧ 3 < (byteAt (withCrc32 [0, 0, 9, 4, 0]) 3).toNat ∧ 1 < (byteAt (withCrc32 [0, 0, 9, 3, 2]) 4).toNat
    ∧ (pageBytes 9 .none true ++ [0]).length ≠ 9 := by decide +kernel

def pagingPort : Backbone := { coupledPort with state := .paging, matchCount := 2 }
theorem witness_PagesCouple : (running.side .aft).state = .decoupled ∧ (running.side .aft).ownFault = .none
    ∧ (running.side .aft).matchCount = 0 ∧ (running.side .aft).matched = none ∧ (9 : Nat) ≠ running.cu.vehicle
    ∧ ((State.withAft running pagingPort).side .aft).state = .paging ∧ ((State.withAft running pagingPort).side .aft).matchCount = 2
    ∧ ((State.withAft running pagingPort).side .aft).matched = some 9 ∧ (running.side .fore).state = .coupled
    ∧ (running.side .fore).matchCount = 3 ∧ (running.side .fore).matched = some 9 := by decide +kernel

def silent : State := State.withFore bothCoupled { coupledPort with silence := some 0 }
def silentWithAft : State := { silent with me := { stations := [{ entryA with side := .aft, pending := [.tableFull] }] } }
theorem witness_CoupledSetChange : Inv silentWithAft ∧ (silentWithAft.side .fore).state = .coupled
    ∧ (silentWithAft.side .fore).silence = some 0 ∧ silentWithAft.me.stations.any (fun st => st.side == .aft) = true
    ∧ silentWithAft.coupled .aft = true :=
  ⟨inv_of_invB _ (by decide +kernel), by decide, by decide, by decide, by decide⟩

def faultedPort : Backbone :=
  { coupledPort with state := .faulted, ownFault := .linkFailure, linkFailure := some 0, matchCount := 0, matched := none }
def offlinePort : Backbone := { faultedPort with ownFault := .offline, offline := true, linkFailure := none }
theorem witness_BackboneTimersAndOffline : ((State.withAft running { idlePort with page := some 0 }).side .aft).page = some 0
    ∧ ((State.withAft running { pagingPort with silence := some 0 }).side .aft).silence = some 0
    ∧ ((State.withAft running { idlePort with errorWindow := some 0 }).side .aft).errorWindow = some 0
    ∧ ((State.withAft running faultedPort).side .aft).linkFailure = some 0
    ∧ ((State.withAft running faultedPort).side .aft).matchCount = 0 ∧ (running.side .aft).state = (running.side .aft).derive
    ∧ (running.side .aft).state ≠ .coupled ∧ (running.side .aft).offline = false
    ∧ ((State.withAft running offlinePort).side .aft).state = ((State.withAft running offlinePort).side .aft).derive
    ∧ ((State.withAft running offlinePort).side .aft).ownFault = .offline := by decide +kernel

/-! #### Stations and settings -/

def fourStations : State :=
  { running with me := { stations :=
      [{ entryA with addr := 1, roles := {} }, { entryA with addr := 2, roles := {} }, { entryA with addr := 3, roles := {} },
       { entryA with addr := 4, roles := {} }] } }
def noStation : State := { running with me := { running.me with stations := [] } }
theorem witness_StationsEnrolReleaseAndClear : rolesOf 7 = some { share := true, entitle := true, cabinet := true }
    ∧ rolesOf 0 = some {} ∧ rolesOf 8 = none ∧ noStation.stationAt stationA = none ∧ noStation.heldByOthers stationA { share := true } = []
    ∧ noStation.me.stations.length < 4 ∧ ({ share := true } : Roles).isEmpty = false ∧ ({} : Roles).isEmpty = true
    ∧ running.heldByOthers 9 { share := true } ≠ [] ∧ running.stationAt stationA = some entryA
    ∧ running.heldByOthers stationA { share := true } = [] ∧ causesOf [1, 11] = some [.tableFull, .unassociated] := by decide +kernel
/-- R194 and R204: a role outside the three; no cause, a code outside the eleven, a cause named twice. -/
theorem test_release_and_clear_bad_arguments : replyTo (.releaseRoles hdr 8) running = some (.badArgument, [])
    ∧ replyTo (.clearCauses hdr []) running = some (.badArgument, []) ∧ replyTo (.clearCauses hdr [12]) running = some (.badArgument, [])
    ∧ replyTo (.clearCauses hdr [1, 1]) running = some (.badArgument, []) := by decide +kernel
theorem witness_clear_bad_arguments : (running.stationAt hdr.station).isSome = true ∧ 8 ≤ (8#8).toNat ∧ 11 < (12#8).toNat
    ∧ ¬ ([1, 1] : List Byte).Nodup ∧ ([1, 1] : List Byte).length ≤ 11 := by decide
theorem witness_station_table_full : fourStations.takes hdr ∧ (Request.enrol 2 7).inFormat = true
    ∧ rolesOf 2 = some { entitle := true } ∧ fourStations.stationAt stationA = none
    ∧ fourStations.heldByOthers stationA { entitle := true } = [] ∧ 4 ≤ fourStations.me.stations.length :=
  ⟨⟨by decide, by decide, by decide, trivial, by decide⟩, by decide, by decide, by decide, by decide, by decide⟩
theorem witness_RequestsRefused : (running.rolesHeld other.station).isEmpty = true ∧ (running.stationAt other.station).isSome = false
    ∧ (Request.readCounters 1 0 1).inFormat = true ∧ (Request.clearCauses [1]).inFormat = true
    ∧ (reloadingState.rolesHeld stationA).cabinet = true ∧ reloadingState.sl.unit = .loading ∧ reloadingState.sl.unit ≠ .idle
    ∧ running.takes other ∧ reloadingState.takes hdr :=
  ⟨by decide, by decide, by decide, by decide, by decide, by decide, by decide, ⟨by decide, by decide, by decide, trivial, by decide⟩,
   ⟨by decide, by decide, by decide, trivial, by decide⟩⟩
/-- Management frames to the cabinet address: a RESPONSE, an unknown code, and a JOURNEY_END with a status, with a length beyond its
data, and with a byte of arguments. -/
def aResponse : Bytes := managementFrame 0x020000000000#48 stationA responseKind 0x13 0 0 1 1 []
def unknownCode : Bytes := managementFrame 0x020000000000#48 stationA requestKind 0x15 0 0 1 1 []
def withStatus : Bytes := managementFrame 0x020000000000#48 stationA requestKind 0x13 1 0 1 1 []
def tooLong : Bytes :=
  withCrc32 (managementHeader 0x020000000000#48 stationA requestKind 0x13 0 0 1 1 40 ++ List.replicate 35 0)
def oneByte : Bytes := managementFrame 0x020000000000#48 stationA requestKind 0x13 0 0 1 1 [0]
theorem witness_frames_handed_over : ∀ f ∈ [aResponse, unknownCode, withStatus, tooLong, oneByte],
    running.acceptsFrame .fore f ∧ running.handsOver f := by
  unfold State.acceptsFrame State.handsOver; decide +kernel
theorem witness_RequestsRefused_frames : ¬ running.isRequest aResponse ∧ running.isRequest unknownCode ∧ running.isRequest withStatus
    ∧ running.isRequest tooLong ∧ running.isRequest oneByte := by unfold State.isRequest; decide +kernel
theorem witness_unknown_code : ¬ ∃ q : Request, q.code = byteAt unknownCode 16 := by
  rw [show byteAt unknownCode 16 = 0x15 by decide +kernel]
  rintro ⟨q, h⟩
  cases q <;> exact absurd h (by simp [Request.code, relayCode])
theorem witness_badArguments : badArguments withStatus ∧ badArguments tooLong ∧ badArguments oneByte
    ∧ Request.journeyEnd.code = byteAt oneByte 16 := by
  refine ⟨.inl (by decide +kernel), .inr (.inl (by decide +kernel)), .inr (.inr ?_), by decide +kernel⟩
  rw [show byteAt oneByte 16 = 0x13 by decide +kernel, show field oneByte 25 (halfAt oneByte 23).toNat = [0] by decide +kernel]
  intro q _ h
  cases q <;> simp [Request.code, Request.args, relayCode] at h ⊢
theorem test_bad_format : (after (.backboneFrameArrival .fore oneByte) running).me.counts.badFormat = 1
    ∧ (after (.backboneFrameArrival .fore unknownCode) running).me.counts.unknown = 1
    ∧ (after (.backboneFrameArrival .fore aResponse) running).me.counts.discarded = 1 := by decide +kernel
theorem witness_NoticesGoOut : ({ entryA with spacing := some 0 } : Station)
      ∈ ({ running with me := { stations := [{ entryA with spacing := some 0 }] } } : State).me.stations
    ∧ Inv { running with me := { stations := [{ entryA with spacing := some 0 }] } } :=
  ⟨by simp, inv_of_invB _ (by decide +kernel)⟩
theorem witness_ProfilesAreReplaced : seatOf 63 = some 63 ∧ seatOf 64 = none ∧ linkOf 8 = none
    ∧ (seatProfileOf ⟨0, 64, 1, 0, 1, 3600⟩).isSome = true ∧ seatProfileOf ⟨1, 63, 1, 0, 0, 300⟩ = none
    ∧ (ceilingProfileOf ⟨1, 63, 2048, 1, 0, 10, 100, 100⟩).isSome = true ∧ ceilingProfileOf ⟨1, 64, 2048, 1, 0, 10, 100, 100⟩ = none
    ∧ (running.seat 3).up = running.seatShouldBeUp 3
    ∧ (ceilingProfileOf ⟨0, 63, 2048, 1, 0, 10, 100, 100⟩).map CeilingProfile.enabled = some false
    ∧ (running.link 0).state = .ready ∧ (running.link 7).state ≠ .ready
    ∧ (State.withRecord running (recordX atLink)).record 0 = some (recordX atLink)
    ∧ (recordX atLink).st.place.any (Place.onLink 0) = true := by decide +kernel
/-- A READY link with an exchange outstanding and a survey, disabled. -/
def busyLink : State := State.withLink running 0 { liveLink with relay := some waitingRelay, survey := some { busy := 1, length := 100 } }
theorem witness_ProfilesAreReplaced_link : busyLink.takes hdr ∧ (busyLink.rolesHeld hdr.station).cabinet = true
    ∧ busyLink.sl.unit ≠ .loading ∧ (busyLink.link 0).state = .ready ∧ (busyLink.link 0).relay = some waitingRelay :=
  ⟨⟨by decide, by decide, by decide, trivial, by decide⟩, by decide, by decide, by decide, by decide⟩
theorem test_disabled_link_ends_its_exchange :
    ((after (.setProfile hdr 0 (.ceiling ⟨0, 63, 2048, 1, 0, 10, 100, 100⟩)) busyLink).link 0).survey = none
    ∧ (after (.setProfile hdr 0 (.ceiling ⟨0, 63, 2048, 1, 0, 10, 100, 100⟩)) busyLink).raised .ceilingLinkLoss = 1
    ∧ ((after (.setProfile hdr 0 (.ceiling ⟨0, 63, 2048, 1, 0, 10, 100, 100⟩)) busyLink).link 0).counts.relaysLinkDown = 1 := by
  decide +kernel
theorem witness_LampSettings : readPart rulesOf (some ⟨0, 1, 2, 3, 0, 1⟩) ≠ none ∧ readPart rulesOf (some ⟨0, 1, 2, 4, 0, 1⟩) = none
    ∧ readPart brightnessOf (some 16) = some (some 16) ∧ readPart brightnessOf (some 17) = none
    ∧ readPart forcesOf (some [(63, 4), (0, 0)]) = some (some [(63, .fast), (0, .auto)])
    ∧ readPart forcesOf (some [(64, 4)]) = none ∧ readPart forcesOf none = some none
    ∧ (Request.setLamp 0 none (some 16) (some [(63, 4), (0, 0)])).inFormat = true := by decide +kernel
theorem witness_CarriageSettings : levelsOf [(1, 7), (11, 0)] = some [(.tableFull, 7), (.unassociated, 0)] ∧ levelsOf [(12, 1)] = none
    ∧ 11 < (12#8).toNat ∧ 7 < (8#8).toNat ∧ ¬ (([(1, 7), (1, 2)] : List (Byte × Byte)).map Prod.fst).Nodup
    ∧ isMulticast 0x020000000001#48 = false ∧ isMulticast 0x030000000001#48 = true ∧ (0x030000000001#48 : Addr) ≠ broadcast
    ∧ (0x030000000001#48 : Addr) ≠ allCabinets ∧ (1#8).toNat ≤ 1 ∧ running.isNeighbour 16777215 = false ∧ running.isNeighbour 9 = true := by decide +kernel
theorem witness_CabinetResetFollowsItsResponse : Table.get [(0, ({ slotOf [] with resetResponse := true } : Slot))] 0
    = some ({ slotOf [] with resetResponse := true } : Slot) ∧ (slotOf []).refs ≤ 1 := by decide
theorem witness_QueriesAnswer : (State.withRecord running (recordX atLink)).record (0#16).toNat = some (recordX atLink)
    ∧ running.record (511#16).toNat = none ∧ 511 < (512#16).toNat ∧ sideOf 1 = some .aft ∧ running.counterGroup 13 0 = none
    ∧ running.counterGroup 1 1 = none ∧ (running.counterGroup 12 0).isSome = true ∧ linkOf 8 = none
    ∧ (running.counterGroup 5 0).isSome = true ∧ (running.counterGroup 9 0).isSome = true ∧ (running.counterGroup 11 0).isSome = true
    ∧ hdr.dest = .cabinet ∧ 129 < running.freeSlots ∧ 63 < (64#8).toNat ∧ 1 < (2#8).toNat
    ∧ 32 < (fullTable.ct.records.filter fun e => decide (480 - 1 ≤ e.1)).length
    ∧ (fullTable.ct.records.filter fun e => decide (480 ≤ e.1)).length ≤ 32 := by decide +kernel
theorem witness_Invariants : Inv running ∧ WaitingInv running ∧ RefInv running ∧ PlacesInv running
    ∧ step running = .next running.tick :=
  ⟨inv_of_invB _ (by decide +kernel), ⟨by decide, fun n => ⟨fun h => absurd h (by simp [show running.sau.waiting = [] from rfl]),
      fun h => by obtain ⟨r, hr, _⟩ := h; simp [show running.record n = none from rfl] at hr⟩, by decide⟩,
   refInv_of_empty _ rfl (by decide +kernel) (by decide), ⟨by decide, by decide, by decide⟩, rfl⟩

end Sys2Proof.Tests
end

section
/-! SUPPORT and PROOFS. The Client Table: what is found in it after a write, what a reset leaves of it (R29), and how a new record
starts (R7). -/

namespace Sys2Proof.Machine

/-! ### Lookups in a sparse table -/

section Tables

variable {α : Type}

/-- In canonical form a listed pair is what stands at its number. -/
theorem Table.get_of_mem {t : Table α} (hw : t.wf = true) {k : Nat} {v : α} (h : (k, v) ∈ t) : t.get k = some v := by
  rw [Table.wf_iff] at hw
  induction t with
  | nil => simp at h
  | cons d t ih =>
    obtain ⟨j, w⟩ := d
    simp only [List.map_cons, List.pairwise_cons] at hw
    rcases List.mem_cons.1 h with h | h
    · obtain ⟨rfl, rfl⟩ := Prod.mk.inj h
      simp [Table.get]
    · have hj : j < k := hw.1 k (List.mem_map_of_mem h)
      simp [Table.get, hj.ne, ih hw.2 h]

/-- The number found free is not below the one the count begins at. -/
theorem Table.le_firstFree (t : Table α) (k : Nat) : k ≤ t.firstFree k := by
  induction t generalizing k with
  | nil => exact le_rfl
  | cons d t ih =>
    obtain ⟨j, w⟩ := d
    unfold Table.firstFree
    split
    · exact (Nat.le_succ k).trans (ih (k + 1))
    · split
      · exact ih k
      · exact le_rfl

/-- Nothing stands at a number below all those listed. -/
theorem Table.get_eq_none_of_lt {t : Table α} {k : Nat} (h : ∀ j ∈ t.map Prod.fst, k < j) : t.get k = none := by
  induction t with
  | nil => rfl
  | cons d t ih =>
    obtain ⟨j, w⟩ := d
    simp only [List.map_cons, List.mem_cons, forall_eq_or_imp] at h
    simp [Table.get, h.1.ne', ih h.2]

/-- Nothing stands at the number found free. -/
theorem Table.get_firstFree {t : Table α} (hw : t.wf = true) (k : Nat) : t.get (t.firstFree k) = none := by
  rw [Table.wf_iff] at hw
  induction t generalizing k with
  | nil => rfl
  | cons d t ih =>
    obtain ⟨j, w⟩ := d
    simp only [List.map_cons, List.pairwise_cons] at hw
    unfold Table.firstFree
    split
    · next hjk =>
      have hle := Table.le_firstFree t (k + 1)
      simp [Table.get, show j ≠ Table.firstFree t (k + 1) by omega, ih hw.2]
    · next hne =>
      split
      · next hlt =>
        have hle := Table.le_firstFree t k
        simp [Table.get, show j ≠ Table.firstFree t k by omega, ih hw.2]
      · next hge =>
        apply Table.get_eq_none_of_lt
        simp only [List.map_cons, List.mem_cons, forall_eq_or_imp]
        exact ⟨by omega, fun i hi => lt_trans (by omega) (hw.1 i hi)⟩

/-- What stands at a number after a change there. -/
theorem Table.get_modify_self (t : Table α) (k : Nat) (f : α → α) : (t.modify k f).get k = (t.get k).map f := by
  unfold Table.modify
  split
  · next h => simp [h]
  · next v h => simp [h, Table.get_put_self]

theorem Table.get_modify_of_ne (t : Table α) {k m : Nat} (f : α → α) (hm : m ≠ k) : (t.modify k f).get m = t.get m := by
  unfold Table.modify
  split
  · rfl
  · exact Table.get_put_of_ne _ _ _ _ hm

/-- A search passes over what is written when neither it nor what it replaces fits. -/
theorem Table.find?_put_of_not {q : α → Bool} {t : Table α} {k : Nat} {v : α} (hv : q v = false)
    (hold : ∀ w, t.get k = some w → q w = false) :
    (t.put k v).find? (fun e => q e.2) = t.find? fun e => q e.2 := by
  induction t with
  | nil => simp [Table.put, hv]
  | cons d t ih =>
    obtain ⟨j, w⟩ := d
    unfold Table.put
    split
    · simp [hv]
    · split
      · next hkj => simp [hv, hold w (by simp [Table.get, hkj])]
      · next hne =>
        have hrest := ih fun u hu => hold u (by simpa [Table.get, Ne.symm hne] using hu)
        cases hw : q w <;> simp [hw, hrest]

/-- A search that found nothing finds what is written when it fits. -/
theorem Table.find?_put_of_none {q : α → Bool} {t : Table α} {k : Nat} {v : α} (hv : q v = true)
    (hnone : t.find? (fun e => q e.2) = none) : (t.put k v).find? (fun e => q e.2) = some (k, v) := by
  induction t with
  | nil => simp [Table.put, hv]
  | cons d t ih =>
    obtain ⟨j, w⟩ := d
    simp only [List.find?_cons] at hnone
    cases hw : q w with
    | true => simp [hw] at hnone
    | false =>
      unfold Table.put
      split
      · simp [hv]
      · split
        · simp [hv]
        · simpa [hw] using ih (by simpa [hw] using hnone)

/-- The count of what fits rises by what is written when what it replaces did not fit. -/
theorem Table.countP_put {q : α → Bool} {t : Table α} {k : Nat} {v : α} (hold : ∀ w, t.get k = some w → q w = false) :
    (t.put k v).countP (fun e => q e.2) = t.countP (fun e => q e.2) + if q v = true then 1 else 0 := by
  induction t with
  | nil => simp [Table.put, List.countP_cons]
  | cons d t ih =>
    obtain ⟨j, w⟩ := d
    unfold Table.put
    split
    · simp [List.countP_cons]
    · split
      · next hkj => simp [List.countP_cons, hold w (by simp [Table.get, hkj])]
      · next hne =>
        have hrest := ih fun u hu => hold u (by simpa [Table.get, Ne.symm hne] using hu)
        simp only [List.countP_cons, hrest]
        omega

end Tables

/-! ### The records of the Client Table -/

/-- Values read from a list are distinct only when no two elements give the same. -/
theorem eq_of_nodup_filterMap {α β : Type} {f : α → Option β} {l : List α} (h : (l.filterMap f).Nodup) {a b : α} {c : β}
    (ha : a ∈ l) (hb : b ∈ l) (hfa : f a = some c) (hfb : f b = some c) : a = b := by
  have hdiff := List.pairwise_filterMap.1 h
  have : Std.Symm fun x y : α => ∀ u, f x = some u → ∀ v, f y = some v → u ≠ v :=
    ⟨fun x y hxy u hu v hv => (hxy v hv u hu).symm⟩
  by_contra hne
  exact hdiff.forall ha hb hne c hfa c hfb rfl

/-- What a search finds stands at its number and fits. -/
theorem State.findRecord_some {s : State} (hw : s.ct.records.wf = true) {q : Record → Bool} {n : Nat} {r : Record}
    (h : s.findRecord q = some (n, r)) : s.record n = some r ∧ q r = true := by
  unfold State.findRecord at h
  exact ⟨Table.get_of_mem hw (List.mem_of_find?_eq_some h), List.find?_some (p := fun e : Nat × Record => q e.2) h⟩

/-- A search fails exactly when no record fits. -/
theorem State.findRecord_eq_none_iff {s : State} (hw : s.ct.records.wf = true) (q : Record → Bool) :
    s.findRecord q = none ↔ ∀ n r, s.record n = some r → q r = false := by
  simp only [State.findRecord, List.find?_eq_none, Prod.forall, Bool.not_eq_true]
  exact ⟨fun h n r hr => h n r (Table.get_mem _ _ _ hr), fun h n r hr => h n r (Table.get_of_mem hw hr)⟩

theorem State.byAddr_eq_none_iff {s : State} (hw : s.ct.records.wf = true) (x : Addr) :
    s.byAddr x = none ↔ ∀ n r, s.record n = some r → r.addr ≠ x := by
  simp [State.byAddr, s.findRecord_eq_none_iff hw]

theorem State.atPlace_eq_none_iff {s : State} (hw : s.ct.records.wf = true) (pl : Place) :
    s.atPlace pl = none ↔ ∀ n r, s.record n = some r → r.st.place ≠ some pl := by
  simp [State.atPlace, s.findRecord_eq_none_iff hw]

theorem State.atPlace_some {s : State} (hw : s.ct.records.wf = true) {pl : Place} {n : Nat} {r : Record}
    (h : s.atPlace pl = some (n, r)) : s.record n = some r ∧ r.st.place = some pl := by
  simpa using State.findRecord_some hw h

/-- R3, R8: no two records have the same place. -/
theorem PlacesInv.record_unique {s : State} (hp : PlacesInv s) {pl : Place} {m n : Nat} {r x : Record}
    (hr : s.record m = some r) (hx : s.record n = some x) (hrp : r.st.place = some pl) (hxp : x.st.place = some pl) :
    m = n := by
  obtain ⟨_, hplaces, _⟩ := hp
  exact congrArg Prod.fst (eq_of_nodup_filterMap hplaces (Table.get_mem _ _ _ hr) (Table.get_mem _ _ _ hx) hrp hxp)

/-! ### A record that goes to LINGERING (R21) -/

theorem State.clearParked_records (s : State) (n : Nat) :
    (s.clearParked n).ct.records = s.ct.records.modify n fun x => { x with parked := [] } := by
  unfold State.clearParked
  split
  · next h => simp [Table.modify, show s.ct.records.get n = none from h]
  · simp [State.onRecord, State.leaveWaiting]

/-- The record as LINGERING leaves it, `ms` its linger time. -/
def Record.lingering (ms : Nat) (r : Record) : Record := { r with st := .lingering (some ms), parked := [] }

/-- R21: what an ATTACHED or MOVING record that goes to LINGERING writes of the Client Table. -/
theorem State.enterLingering_records {s : State} {n : Nat} {r : Record} {pl : Place} (hr : s.record n = some r)
    (hpl : r.st.place = some pl) : (s.enterLingering n).ct.records = ((s.ct.records.modify n fun x =>
      { x with st := .lingering (some (s.ct.lingerTime * 1000)) }).modify n fun x => { x with parked := [] }) := by
  unfold State.enterLingering
  rw [hr]
  cases hst : r.st with
  | lingering t => simp [hst, RecordState.place] at hpl
  | attached place idle => simp [hst, State.clearParked_records, State.onRecord]
  | moving target c a deadline hold => simp [hst, State.clearParked_records, State.onRecord]

/-- R21: an ATTACHED or MOVING record goes to LINGERING, and no other record changes. -/
theorem State.record_enterLingering {s : State} {n : Nat} {r : Record} {pl : Place} (hr : s.record n = some r)
    (hpl : r.st.place = some pl) (m : Nat) :
    (s.enterLingering n).record m = if m = n then some (r.lingering (s.ct.lingerTime * 1000)) else s.record m := by
  have hget : s.ct.records.get n = some r := hr
  unfold State.record
  rw [State.enterLingering_records hr hpl]
  split
  · next h => simp [h, Table.get_modify_self, hget, Record.lingering]
  · next h => rw [Table.get_modify_of_ne _ _ h, Table.get_modify_of_ne _ _ h]

theorem State.enterLingering_records_wf {s : State} (hw : s.ct.records.wf = true) {pl : Place} {n : Nat} {r : Record}
    (h : s.atPlace pl = some (n, r)) : (s.enterLingering n).ct.records.wf = true := by
  obtain ⟨hr, hpl⟩ := State.atPlace_some hw h
  rw [State.enterLingering_records hr hpl]
  exact Table.modify_wf _ _ _ (Table.modify_wf _ _ _ hw)

/-- The place of a record that goes to LINGERING is nobody's (R21, R3). -/
theorem State.atPlace_enterLingering {s : State} (hw : s.ct.records.wf = true) (hp : PlacesInv s) {pl : Place} {n : Nat}
    {r : Record} (h : s.atPlace pl = some (n, r)) : (s.enterLingering n).atPlace pl = none := by
  obtain ⟨hr, hpl⟩ := State.atPlace_some hw h
  rw [State.atPlace_eq_none_iff (State.enterLingering_records_wf hw h)]
  intro m y hy hym
  rw [State.record_enterLingering hr hpl] at hy
  split at hy
  · obtain rfl := Option.some.inj hy
    simp [Record.lingering, RecordState.place] at hym
  · next hne => exact hne (hp.record_unique hy hr hym hpl)

/-- A record that goes to LINGERING keeps its address, so a client without a record stays without one (R21). -/
theorem State.byAddr_enterLingering_eq_none {s : State} (hw : s.ct.records.wf = true) {pl : Place} {n : Nat} {r : Record}
    (h : s.atPlace pl = some (n, r)) {x : Addr} (hx : s.byAddr x = none) : (s.enterLingering n).byAddr x = none := by
  obtain ⟨hr, hpl⟩ := State.atPlace_some hw h
  rw [State.byAddr_eq_none_iff hw] at hx
  rw [State.byAddr_eq_none_iff (State.enterLingering_records_wf hw h)]
  intro m y hy
  rw [State.record_enterLingering hr hpl] at hy
  split at hy
  · obtain rfl := Option.some.inj hy
    exact hx n r hr
  · exact hx m y hy

/-! ### The seat or number a new client takes (R8, R14) -/

theorem State.clearSeat_records_wf {s : State} (hw : s.ct.records.wf = true) (p : SeatNo) :
    (s.clearSeat p none).ct.records.wf = true := by
  unfold State.clearSeat
  split
  · exact hw
  · next m r h => simpa using State.enterLingering_records_wf hw h

/-- R8: a seat cleared for a new client has no occupant. -/
theorem State.occupant_clearSeat {s : State} (hw : s.ct.records.wf = true) (hp : PlacesInv s) (p : SeatNo) :
    (s.clearSeat p none).occupant p = none := by
  unfold State.clearSeat
  split
  · next h => exact h
  · next m r h => simpa [State.occupant] using State.atPlace_enterLingering hw hp h

/-- R14: the part once the record displaced from a number, if any, has gone to LINGERING. -/
def State.clearNumber (s : State) (x : Addr) (c : LinkNo) (a : AssocNo) : State :=
  ((s.displaced x c a).map s.enterLingering).getD s

/-- A displaced record is the one placed at the number (R14). -/
theorem State.displaced_some {s : State} {x : Addr} {c : LinkNo} {a : AssocNo} {m : Nat} (h : s.displaced x c a = some m) :
    ∃ r, s.atPlace (.ceiling c a) = some (m, r) := by
  unfold State.displaced at h
  split at h
  · next k r hat =>
    split at h
    · simp at h
    · obtain rfl := Option.some.inj h
      exact ⟨r, hat⟩
  · simp at h

theorem State.clearNumber_records_wf {s : State} (hw : s.ct.records.wf = true) (x : Addr) (c : LinkNo) (a : AssocNo) :
    (s.clearNumber x c a).ct.records.wf = true := by
  unfold State.clearNumber
  cases h : s.displaced x c a with
  | none => exact hw
  | some m =>
    obtain ⟨r, hat⟩ := State.displaced_some h
    exact State.enterLingering_records_wf hw hat

/-- R14: the number cleared for a client without a record is nobody's. -/
theorem State.atPlace_clearNumber {s : State} (hw : s.ct.records.wf = true) (hp : PlacesInv s) {x : Addr} (hx : s.byAddr x = none)
    (c : LinkNo) (a : AssocNo) : (s.clearNumber x c a).atPlace (.ceiling c a) = none := by
  unfold State.clearNumber State.displaced
  cases h : s.atPlace (.ceiling c a) with
  | none => simpa using h
  | some e =>
    obtain ⟨m, r⟩ := e
    have hne : r.addr ≠ x := (State.byAddr_eq_none_iff hw x).1 hx m r (State.atPlace_some hw h).1
    simpa [hne] using State.atPlace_enterLingering hw hp h

theorem State.byAddr_clearNumber_eq_none {s : State} (hw : s.ct.records.wf = true) {x : Addr} (hx : s.byAddr x = none)
    (c : LinkNo) (a : AssocNo) : (s.clearNumber x c a).byAddr x = none := by
  unfold State.clearNumber
  cases h : s.displaced x c a with
  | none => exact hx
  | some m =>
    obtain ⟨r, hat⟩ := State.displaced_some h
    exact State.byAddr_enterLingering_eq_none hw hat hx

/-! ### The record obtained and set up (R4 to R7) -/

/-- R4: the record obtained for a new client has no place: it is VACANT, or LINGERING and reclaimed. -/
theorem State.place_of_obtain {s : State} (hw : s.ct.records.wf = true) {n : Nat} {reclaimed : Bool}
    (h : s.obtain = some (n, reclaimed)) {r : Record} (hr : s.record n = some r) : r.st.place = none := by
  unfold State.obtain at h
  dsimp only at h
  split at h
  · obtain ⟨rfl, _⟩ := Prod.mk.inj (Option.some.inj h)
    exact absurd ((Table.get_firstFree hw 0).symm.trans hr) (by simp)
  · obtain ⟨⟨m, left⟩, hleast, heq⟩ := Option.map_eq_some_iff.1 h
    obtain ⟨rfl, _⟩ := Prod.mk.inj heq
    obtain ⟨⟨y, hy, hleft⟩, _⟩ := leastLingering_least _ _ _ hleast
    obtain rfl : r = y := Option.some.inj (hr.symm.trans (Table.get_of_mem hw hy))
    unfold Record.lingerLeft at hleft
    split at hleft
    · next hst => simp [hst, RecordState.place]
    · simp at hleft

/-- R7: the class of an address with an entry is the one its kind gives. -/
theorem State.classOf_of_entitlement {s : State} {x : Addr} {k : Kind} (h : s.entitlement x = some k) : s.classOf x = k.cls := by
  simp [State.classOf, h]

/-- R7: an address without an entry is BASIC. -/
theorem State.classOf_of_no_entitlement {s : State} {x : Addr} (h : s.entitlement x = none) : s.classOf x = .basic := by
  simp [State.classOf, h]

theorem State.newCredit_of_held {s : State} (h : s.sau.state = .held) (cls : Class) : s.newCredit cls = 0 := by
  simp [State.newCredit, h]

theorem State.newCredit_of_granted {s : State} {g : Grant} {pend : Option Grant} (h : s.sau.state = .granted g pend) (cls : Class) :
    s.newCredit cls = g.allowance cls := by
  simp [State.newCredit, h]

/-- R7, R77: a SERVICE record starts without credit, under a grant too. -/
theorem State.newCredit_service (s : State) : s.newCredit .service = 0 := by
  cases h : s.sau.state with
  | held => exact State.newCredit_of_held h .service
  | granted g pend => exact State.newCredit_of_granted h .service

/-- R22: a SERVICE record has no idle timer. -/
theorem State.idleFor_service (s : State) (pl : Place) : s.idleFor .service pl = none := rfl

theorem State.idleFor_of_ne_service (s : State) {cls : Class} (h : cls ≠ .service) (pl : Place) :
    s.idleFor cls pl = some (s.idleMs pl) := if_neg h

/-- The record that a client without one is given at a place (R7). -/
def State.newRecord (s : State) (x : Addr) (pl : Place) : Record :=
  { addr := x, cls := s.classOf x, credit := s.newCredit (s.classOf x), parked := [], charged := 0, overShare := 0,
    st := .attached pl (s.idleFor (s.classOf x) pl) }

theorem State.setUp_records (s : State) (n : Nat) (reclaimed : Bool) (x : Addr) (pl : Place) :
    (s.setUp n reclaimed x pl).ct.records = s.ct.records.put n (s.newRecord x pl) := rfl

theorem State.setUp_created (s : State) (n : Nat) (reclaimed : Bool) (x : Addr) (pl : Place) :
    (s.setUp n reclaimed x pl).ct.counts.created = bump s.ct.counts.created := rfl

theorem State.record_setUp (s : State) (n : Nat) (reclaimed : Bool) (x : Addr) (pl : Place) :
    (s.setUp n reclaimed x pl).record n = some (s.newRecord x pl) := by
  rw [State.record, State.setUp_records, Table.get_put_self]

/-- R7, R8: the new record is the occupant of the free seat it is placed at; every other seat keeps its occupant. -/
theorem State.occupant_setUp {s : State} (hw : s.ct.records.wf = true) {n : Nat} {reclaimed : Bool} {pl : Place}
    (hobtain : s.obtain = some (n, reclaimed)) (hfree : s.atPlace pl = none) (x : Addr) (p : SeatNo) :
    (s.setUp n reclaimed x pl).occupant p = if pl = .seat p then some (n, s.newRecord x pl) else s.occupant p := by
  unfold State.occupant State.atPlace State.findRecord
  rw [State.setUp_records]
  split
  · next hpl =>
    subst hpl
    exact Table.find?_put_of_none (q := fun r : Record => r.st.place == some (.seat p))
      (by simp [State.newRecord, RecordState.place]) hfree
  · next hpl =>
    exact Table.find?_put_of_not (q := fun r : Record => r.st.place == some (.seat p))
      (by simpa [State.newRecord, RecordState.place] using hpl)
      fun w hold => by simp [State.place_of_obtain hw hobtain hold]

/-- R7, R9: the attached count of the new record's link rises by 1; those of the others stay. -/
theorem State.attachedCount_setUp {s : State} (hw : s.ct.records.wf = true) {n : Nat} {reclaimed : Bool}
    (hobtain : s.obtain = some (n, reclaimed)) (x : Addr) (pl : Place) (c : LinkNo) :
    (s.setUp n reclaimed x pl).attachedCount c = s.attachedCount c + if pl.onLink c then 1 else 0 := by
  unfold State.attachedCount
  rw [State.setUp_records, Table.countP_put (q := fun r : Record => (r.st.place.map (Place.onLink c)).getD false)
    fun w hold => by simp [State.place_of_obtain hw hobtain hold]]
  rfl

/-- R7: the record obtained for a client at a place that is nobody's starts as R7 gives. -/
theorem State.setUp_newRecordStarts {s : State} (hw : s.ct.records.wf = true) {n : Nat} {reclaimed : Bool} {pl : Place}
    (hobtain : s.obtain = some (n, reclaimed)) (hfree : s.atPlace pl = none) (x : Addr) :
    newRecordStarts s (s.setUp n reclaimed x pl) n x pl := by
  refine ⟨⟨s.newRecord x pl, s.idleFor (s.classOf x) pl, s.record_setUp n reclaimed x pl, rfl, rfl, ?basic, ?standard, ?premium,
    ?service, ?held, ?serviceCredit, ?granted, rfl, rfl, rfl, ?serviceIdle, ?idle, s.occupant_setUp hw hobtain hfree x⟩,
    s.attachedCount_setUp hw hobtain x pl, s.setUp_created n reclaimed x pl⟩
  case basic => exact State.classOf_of_no_entitlement
  case standard => exact State.classOf_of_entitlement
  case premium => exact State.classOf_of_entitlement
  case service => exact State.classOf_of_entitlement
  case held => exact fun h => State.newCredit_of_held h (s.classOf x)
  case serviceCredit => exact fun h => (congrArg s.newCredit h).trans s.newCredit_service
  case granted =>
    intro g pend hstate
    have hcredit (cls : Class) (h : s.classOf x = cls) : (s.newRecord x pl).credit = g.allowance cls :=
      (State.newCredit_of_granted hstate (s.classOf x)).trans (congrArg g.allowance h)
    exact ⟨hcredit .basic, hcredit .standard, hcredit .premium⟩
  case serviceIdle => exact fun h => (congrArg (s.idleFor · pl) h).trans (s.idleFor_service pl)
  case idle =>
    intro h
    refine ⟨?_, ?_⟩
    · rintro p rfl
      exact s.idleFor_of_ne_service h (.seat p)
    · rintro c a rfl
      exact s.idleFor_of_ne_service h (.ceiling c a)

/-! ### The two operations that create a record -/

/-- R4, R10: a frame at a seat from a client without a record, one being obtained. -/
theorem State.learnSeat_new {s : State} {x : Addr} (hx : s.byAddr x = none) {p : SeatNo} {n : Nat} {reclaimed : Bool}
    (hobtain : (s.clearSeat p none).obtain = some (n, reclaimed)) :
    s.learnSeat p x = ((s.clearSeat p none).setUp n reclaimed x (.seat p), some n) := by
  simp [State.learnSeat, hx, State.create, hobtain]

/-- R14, R17: the hand-over of an admitted association of a client without a record, one being obtained. -/
theorem State.handOver_new {s : State} (hw : s.ct.records.wf = true) {x : Addr} (hx : s.byAddr x = none) {c : LinkNo} {a : AssocNo}
    {n : Nat} {reclaimed : Bool} (hobtain : (s.clearNumber x c a).obtain = some (n, reclaimed)) :
    s.handOver x c a = (s.clearNumber x c a).setUp n reclaimed x (.ceiling c a) := by
  have hnone := State.byAddr_clearNumber_eq_none hw hx c a
  unfold State.handOver
  unfold State.clearNumber at hobtain hnone ⊢
  cases h : s.displaced x c a <;> simp_all [State.create]

/-! ### The Client Table after a reset (R29) -/

theorem State.link_onLink_self (s : State) (c : LinkNo) (f : Link → Link) : (s.onLink c f).link c = f (s.link c) := by
  simp [State.link, State.onLink]

/-- R141: a link released from HELD is UNREADY or DOWN. -/
theorem State.releaseLink_state (s : State) (c : LinkNo) :
    ((s.releaseLink c).link c).state = .down ∨ ((s.releaseLink c).link c).state = .unready := by
  rw [State.releaseLink, State.link_onLink_self]
  cases (s.link c).statusIn <;> simp

/-- Every link is HELD after a reset (R211). -/
theorem State.afterReset_link (s : State) (cause : ResetCause) (count : Nat) (c : LinkNo) :
    (s.afterReset cause count).link c = { statusIn := (s.link c).statusIn } := by
  simp [State.afterReset, State.link, mapVector]

/-- A part whose Client Table stands at its reset values, every link HELD, is as R29 gives. -/
theorem emptyClientTable_of_reset_values {t : State} (hct : t.ct = {}) (hheld : ∀ c, (t.link c).state = .held) :
    emptyClientTable t t.ev.out := by
  refine ⟨?records, ?occupants, ?attached, ?counts, rfl, ?obtain, fun c => ⟨hheld c, t.releaseLink_state c⟩⟩
  case records => intro n; simp [State.record, hct, Table.get]
  case occupants => intro p; simp [State.occupant, State.atPlace, State.findRecord, hct]
  case attached => intro c; simp [State.attachedCount, hct]
  case counts => simp [hct]
  case obtain => simp [State.obtain, hct, Table.firstFree]

/-- R29 for every reset: what has been sent stays, and nothing is sent for the records. -/
theorem State.afterReset_emptyClientTable (s : State) (cause : ResetCause) (count : Nat) :
    emptyClientTable (s.afterReset cause count) s.ev.out :=
  emptyClientTable_of_reset_values rfl fun c => by rw [State.afterReset_link]

/-- The reset line's assertion is a reset with the line held. -/
theorem State.lineAsserted_emptyClientTable {s : State} (h : s.resetLine = false) : emptyClientTable s.lineAsserted s.ev.out := by
  rw [State.lineAsserted, if_neg (by simp [h])]
  exact s.afterReset_emptyClientTable .resetLine s.nextResetCount

/-- The start-up load that begins with a cabinet reset writes nothing of the Client Table. -/
theorem State.cabinetReset_emptyClientTable (s : State) : emptyClientTable s.cabinetReset s.ev.out :=
  s.afterReset_emptyClientTable .cabinetRequest s.nextResetCount

end Sys2Proof.Machine

namespace Sys2Proof.Proofs

open Sys2Proof.Machine

/-- Settles O7: each of the three is a reset of every block (R211), after which the Client Table is empty. -/
theorem resetEmptiesClientTable : Obligations.ResetEmptiesClientTable := by
  refine ⟨?powerOn, ?line, ?cabinet⟩
  case powerOn =>
    intro s
    exact ⟨s.beginEvent.powerOn, rfl, s.beginEvent.afterReset_emptyClientTable .powerOn 0⟩
  case line =>
    intro s h
    exact ⟨s.beginEvent.lineAsserted, rfl, State.lineAsserted_emptyClientTable (s := s.beginEvent) h⟩
  case cabinet =>
    intro u hdue
    rw [State.endEvent, if_pos hdue]
    exact u.closeEvent.cabinetReset_emptyClientTable

/-- Settles O17: once the seat or the number is nobody's, the record obtained has no place, so setting it up is all that R7 says. -/
theorem newRecordStarts : Obligations.NewRecordStarts := by
  intro s x hinv hplaces hx
  obtain ⟨_, _, hw, _⟩ := hinv
  refine ⟨?seat, ?link⟩
  case seat =>
    intro p n reclaimed b hobtain
    exact ⟨_, State.learnSeat_new hx hobtain, State.setUp_newRecordStarts (State.clearSeat_records_wf hw p) hobtain
      (State.occupant_clearSeat hw hplaces p) x⟩
  case link =>
    intro c a n reclaimed b hobtain
    rw [State.handOver_new hw hx hobtain]
    exact State.setUp_newRecordStarts (State.clearNumber_records_wf hw x c a) hobtain
      (State.atPlace_clearNumber hw hplaces hx c a) x

end Sys2Proof.Proofs
end

section
/-! SUPPORT and PROOFS. What a step can do: one list of the effects that commands have within their events, and the induction
every invariant of the part is proved by. -/

namespace Sys2Proof.Machine

/-! ### What a command does within its event -/

/-- What an event of a pin makes of a state (log entry 17). -/
inductive PinEffect : State → State → Prop
  | statusTick (s : State) (c : LinkNo) (status : Option RadioStatus) (cut : Bool) : PinEffect s (s.statusTick c status cut)
  | trunkLoss (s : State) (t : TrunkNo) (cut : Nat) : PinEffect s (s.trunkLoss t cut)
  | trunkReturn (s : State) (t : TrunkNo) (status : TrunkStatus) : PinEffect s (s.trunkReturn t status)
  | seatStatus (s : State) (p : SeatNo) (indication : Option Speed) : PinEffect s (s.seatStatus p indication)
  | nothing (s : State) : PinEffect s s

/-- What a command that is no reset makes of a state within its event. -/
inductive EventEffect : State → State → Prop
  | pin {s t : State} (h : PinEffect s t) : EventEffect s t
  | startLoad (s : State) : EventEffect s s.startLoad
  | readComplete (s : State) (access : Nat) : EventEffect s (s.readComplete access)
  | accessExpiry (s : State) : EventEffect s s.accessExpiry
  | stageComplete (s : State) (access : Nat) : EventEffect s (s.stageComplete access)
  | writeFailure (s : State) (access : Nat) : EventEffect s (s.writeFailure access)
  | backboneFrame (s : State) (side : Side) (frame : Bytes) : EventEffect s (s.backboneFrame side frame)
  | completeTransmission (s : State) (port : Port) : EventEffect s (s.completeTransmission port)
  | seatFrame (s : State) (p : SeatNo) (frame : Bytes) : EventEffect s (s.seatFrame p frame)
  | idleExpiry (s : State) (n : Nat) : EventEffect s (s.idleExpiry n)
  | lingerExpiry (s : State) (n : Nat) : EventEffect s (s.lingerExpiry n)
  | deadlineExpiry (s : State) (n : Nat) : EventEffect s (s.deadlineExpiry n)
  | fromRadio (s : State) (c : LinkNo) (m : Option RadioMessage) : EventEffect s (s.fromRadio c m)
  | relayExpiry (s : State) (c : LinkNo) : EventEffect s (s.relayExpiry c)
  | windowEnd (s : State) (c : LinkNo) : EventEffect s (s.windowEnd c)
  | deferralOver (s : State) (x : Addr) : EventEffect s (s.deferralOver x)
  | activityOver (s : State) (p : SeatNo) : EventEffect s (s.onSeat p fun x => { x with activity := none })
  | markOver (s : State) (p : SeatNo) : EventEffect s (s.onSeat p fun x => { x with barredMark := none })
  | refillExpiry (s : State) : EventEffect s s.refillExpiry
  | minuteExpiry (s : State) : EventEffect s s.minuteExpiry
  | pageExpiry (s : State) (side : Side) : EventEffect s (s.pageExpiry side)
  | takePage (s : State) (side : Side) (page : Bytes) : EventEffect s (s.takePage side page)
  | silenceExpiry (s : State) (side : Side) : EventEffect s (s.silenceExpiry side)
  | errorWindowEnd (s : State) (side : Side) : EventEffect s (s.errorWindowEnd side)
  | linkFailureExpiry (s : State) (side : Side) : EventEffect s (s.linkFailureExpiry side)
  | spacingExpiry (s : State) (x : Addr) : EventEffect s (s.spacingExpiry x)
  | requestArrival (s : State) (h : ReqHeader) (q : Request) : EventEffect s (s.requestArrival h q)

/-! ### Events -/

/-- What a command brings: a reset, nothing while the reset line is asserted, or an event with its effect and its end. -/
inductive StepTo (s : State) : State → Prop
  | powerOn : StepTo s s.beginEvent.powerOn
  | asserted : StepTo s s.beginEvent.lineAsserted
  | released : StepTo s s.beginEvent.lineReleased
  | held : StepTo s s.beginEvent
  | heldPin {u : State} (h : PinEffect s.beginEvent u) : StepTo s u
  | event {u : State} (h : EventEffect s.beginEvent u) : StepTo s u.endEvent

theorem StepTo.of_event {s : State} {f : State → State} (h : EventEffect s.beginEvent (f s.beginEvent)) : StepTo s (s.event f) := by
  unfold State.event
  dsimp only
  split
  · exact .held
  · exact .event h

theorem StepTo.of_eventWhen {s : State} {due : Bool} {f : State → State} (h : EventEffect s.beginEvent (f s.beginEvent)) :
    StepTo s (s.eventWhen due f) := by
  refine .of_event ?_
  split
  · exact h
  · exact .pin (.nothing _)

theorem StepTo.of_pinEvent {s : State} {f : State → State} (h : PinEffect s.beginEvent (f s.beginEvent)) :
    StepTo s (s.pinEvent f) := by
  unfold State.pinEvent
  dsimp only
  split
  · exact .heldPin h
  · exact .event (.pin h)

/-- R120 tells a speed change as a seat's status. -/
theorem PinEffect.speedChange (s : State) (p : SeatNo) (speed : Speed) : PinEffect s (s.speedChange p speed) := by
  unfold State.speedChange
  split
  · exact .seatStatus s p _
  · exact .nothing s

/-- Every command brings a reset, an event with one of the listed effects, or nothing. -/
theorem exec_stepTo (i : Instr) (s : State) : ∃ t, exec i s = .next t ∧ StepTo s t := by
  cases i with
  | powerOn => exact ⟨_, rfl, .powerOn⟩
  | resetLineAsserted => exact ⟨_, rfl, .asserted⟩
  | resetLineReleased => exact ⟨_, rfl, .released⟩
  | startLoad => exact ⟨_, rfl, .of_event (.startLoad _)⟩
  | settingsReadComplete access => exact ⟨_, rfl, .of_event (.readComplete _ access)⟩
  | accessTimerExpiry => exact ⟨_, rfl, .of_eventWhen (.accessExpiry _)⟩
  | storeStageComplete access => exact ⟨_, rfl, .of_event (.stageComplete _ access)⟩
  | settingsWriteFailure access => exact ⟨_, rfl, .of_event (.writeFailure _ access)⟩
  | backboneFrameArrival side frame => exact ⟨_, rfl, .of_event (.backboneFrame _ side frame)⟩
  | transmissionComplete port => exact ⟨_, rfl, .of_event (.completeTransmission _ port)⟩
  | seatFrameArrival p frame => exact ⟨_, rfl, .of_event (.seatFrame _ p frame)⟩
  | idleTimerExpiry r => exact ⟨_, rfl, .of_event (.idleExpiry _ r.val)⟩
  | lingerTimerExpiry r => exact ⟨_, rfl, .of_event (.lingerExpiry _ r.val)⟩
  | releaseDeadlineExpiry r => exact ⟨_, rfl, .of_event (.deadlineExpiry _ r.val)⟩
  | ceilingData c a frame => exact ⟨_, rfl, .of_event (.fromRadio _ c _)⟩
  | assoc c a x signal => exact ⟨_, rfl, .of_event (.fromRadio _ c _)⟩
  | disassoc c a => exact ⟨_, rfl, .of_event (.fromRadio _ c _)⟩
  | released c a => exact ⟨_, rfl, .of_event (.fromRadio _ c _)⟩
  | settingAnswer c item value result => exact ⟨_, rfl, .of_event (.fromRadio _ c _)⟩
  | malformedRadioMessage c message => exact ⟨_, rfl, .of_event (.fromRadio _ c _)⟩
  | relayTimeout c => exact ⟨_, rfl, .of_eventWhen (.relayExpiry _ c)⟩
  | ceilingStatusTick c status cut => exact ⟨_, rfl, .of_pinEvent (.statusTick _ c status cut)⟩
  | surveyWindowEnd c => exact ⟨_, rfl, .of_eventWhen (.windowEnd _ c)⟩
  | deferralExpiry x => exact ⟨_, rfl, .of_eventWhen (.deferralOver _ x)⟩
  | trunkSignalLoss t cut => exact ⟨_, rfl, .of_pinEvent (.trunkLoss _ t cut)⟩
  | trunkSignalReturn t status => exact ⟨_, rfl, .of_pinEvent (.trunkReturn _ t status)⟩
  | seatLinkIndicationChange p indication => exact ⟨_, rfl, .of_pinEvent (.seatStatus _ p indication)⟩
  | seatSpeedChange p speed => exact ⟨_, rfl, .of_pinEvent (.speedChange _ p speed)⟩
  | activityTimerExpiry p => exact ⟨_, rfl, .of_eventWhen (.activityOver _ p)⟩
  | barredFrameMarkExpiry p => exact ⟨_, rfl, .of_eventWhen (.markOver _ p)⟩
  | refill => exact ⟨_, rfl, .of_eventWhen (.refillExpiry _)⟩
  | minuteTimerExpiry => exact ⟨_, rfl, .of_eventWhen (.minuteExpiry _)⟩
  | pageTimerExpiry side => exact ⟨_, rfl, .of_eventWhen (.pageExpiry _ side)⟩
  | pageArrival side page => exact ⟨_, rfl, .of_event (.takePage _ side page)⟩
  | silenceTimerExpiry side => exact ⟨_, rfl, .of_eventWhen (.silenceExpiry _ side)⟩
  | checkErrorWindowEnd side => exact ⟨_, rfl, .of_eventWhen (.errorWindowEnd _ side)⟩
  | linkFailureTimerExpiry side => exact ⟨_, rfl, .of_eventWhen (.linkFailureExpiry _ side)⟩
  | spacingTimerExpiry station => exact ⟨_, rfl, .of_eventWhen (.spacingExpiry _ station)⟩
  | enrol h roles threshold => exact ⟨_, rfl, .of_event (.requestArrival _ h _)⟩
  | releaseRoles h roles => exact ⟨_, rfl, .of_event (.requestArrival _ h _)⟩
  | clearCauses h causes => exact ⟨_, rfl, .of_event (.requestArrival _ h _)⟩
  | grantShare h pool period basic standard premium gateway => exact ⟨_, rfl, .of_event (.requestArrival _ h _)⟩
  | entitle h x kind minutes => exact ⟨_, rfl, .of_event (.requestArrival _ h _)⟩
  | revoke h x => exact ⟨_, rfl, .of_event (.requestArrival _ h _)⟩
  | journeyEnd h => exact ⟨_, rfl, .of_event (.requestArrival _ h _)⟩
  | evict h x => exact ⟨_, rfl, .of_event (.requestArrival _ h _)⟩
  | setProfile h port profile => exact ⟨_, rfl, .of_event (.requestArrival _ h _)⟩
  | setLamp h otherParts rules brightness forces => exact ⟨_, rfl, .of_event (.requestArrival _ h _)⟩
  | setLevels h pairs => exact ⟨_, rfl, .of_event (.requestArrival _ h _)⟩
  | setTiming h release linger defer => exact ⟨_, rfl, .of_event (.requestArrival _ h _)⟩
  | setAddressing h cabinet allEnable group groupEnable => exact ⟨_, rfl, .of_event (.requestArrival _ h _)⟩
  | setIdentity h vehicle => exact ⟨_, rfl, .of_event (.requestArrival _ h _)⟩
  | portOffline h port setting => exact ⟨_, rfl, .of_event (.requestArrival _ h _)⟩
  | relaySetting h link item value direction => exact ⟨_, rfl, .of_event (.requestArrival _ h _)⟩
  | storeSettings h => exact ⟨_, rfl, .of_event (.requestArrival _ h _)⟩
  | reloadSettings h => exact ⟨_, rfl, .of_event (.requestArrival _ h _)⟩
  | cabinetReset h => exact ⟨_, rfl, .of_event (.requestArrival _ h _)⟩
  | readCounters h group port clear => exact ⟨_, rfl, .of_event (.requestArrival _ h _)⟩
  | queryCabinet h => exact ⟨_, rfl, .of_event (.requestArrival _ h _)⟩
  | queryClient h client => exact ⟨_, rfl, .of_event (.requestArrival _ h _)⟩
  | listClients h start => exact ⟨_, rfl, .of_event (.requestArrival _ h _)⟩
  | queryPort h kind port => exact ⟨_, rfl, .of_event (.requestArrival _ h _)⟩
  | queryLink h link => exact ⟨_, rfl, .of_event (.requestArrival _ h _)⟩

/-! ### The induction every invariant is proved by -/

/-- What must be shown of a predicate `P`, with the form `Q` that it takes within an event, for every step to keep it: the tables
and lists of a reset meet it, a tick keeps it, and every effect and every end of an event keeps it. -/
structure KeptBySteps (P Q : State → Prop) : Prop where
  queue : ∀ s rest, P s → P { s with pending := rest }
  reset : ∀ (s : State) cause count line, P { s.afterReset cause count with resetLine := line }
  line : ∀ (s : State) line, P s → P { s with resetLine := line }
  load : ∀ s : State, P s → P s.beginLoad
  tick : ∀ s : State, P s → P s.countDown
  start : ∀ s : State, P s → P s.beginEvent
  pin : ∀ {s t}, P s → PinEffect s t → P t
  effect : ∀ {s t}, P s → s.ev.inHand = none → EventEffect s t → Q t
  close : ∀ s : State, Q s → s.closeEvent.ev.resetDue = false → P s.closeEvent

/-- A reset leaves the reset line as it is. -/
theorem State.afterReset_line (s : State) (cause : ResetCause) (count : Nat) :
    { s.afterReset cause count with resetLine := s.resetLine } = s.afterReset cause count := rfl

theorem KeptBySteps.stepTo {P Q : State → Prop} (k : KeptBySteps P Q) {s t : State} (hs : P s) (h : StepTo s t) : P t := by
  have hb : P s.beginEvent := k.start s hs
  cases h with
  | powerOn => exact k.reset s.beginEvent .powerOn 0 s.resetLine
  | asserted =>
    unfold State.lineAsserted
    split
    · exact hb
    · exact k.reset s.beginEvent .resetLine s.beginEvent.nextResetCount true
  | released =>
    unfold State.lineReleased
    split
    · exact k.load _ (k.line _ false hb)
    · exact hb
  | held => exact hb
  | heldPin h => exact k.pin hb h
  | event h =>
    rename_i u
    have hq : Q u := k.effect hb rfl h
    unfold State.endEvent
    dsimp only
    split
    · exact k.load _ (State.afterReset_line u.closeEvent _ _ ▸ k.reset u.closeEvent .cabinetRequest _ _)
    · next hd => exact k.close _ hq (by simpa using hd)

/-- A predicate that resets, ticks, effects and ends of events keep is kept by every step. -/
theorem KeptBySteps.step {P Q : State → Prop} (k : KeptBySteps P Q) {s t : State} (hs : P s) (h : step s = .next t) : P t := by
  unfold Machine.step at h
  split at h
  · obtain rfl := Host.Outcome.next.inj h
    unfold State.tick
    split
    · exact hs
    · split
      · exact k.queue s _ hs
      · exact k.queue s.countDown _ (k.tick s hs)
  · next c rest _ =>
    obtain ⟨u, hu, hto⟩ := exec_stepTo c { s with pending := rest }
    obtain rfl := Host.Outcome.next.inj (hu.symm.trans h)
    exact k.stepTo (k.queue s rest hs) hto

end Sys2Proof.Machine
end

section
/-! SUPPORT. Reading the state after an elementary update, and the outline of the state: the part of it that the invariants speak
of. An operation that keeps the outline is quiet: it keeps every invariant. -/

namespace Sys2Proof.Machine

/-! ### Reading after a write -/

section Reading

variable (s : State)

theorem State.queue_eq_of_fs {s t : State} (h : t.fs = s.fs) : t.queue = s.queue := by
  funext port
  unfold State.queue
  rw [h]

@[simp] theorem State.queue_setQueue_self (port : Port) (q : Egress) : (s.setQueue port q).queue port = q := by
  rcases port with p | c | (_ | _) <;> simp [State.setQueue, State.queue]

theorem State.queue_setQueue_of_ne {port other : Port} (q : Egress) (h : other ≠ port) :
    (s.setQueue port q).queue other = s.queue other := by
  rcases port with p | c | (_ | _) <;> rcases other with p' | c' | (_ | _) <;>
    simp_all [State.setQueue, State.queue, Fin.ext_iff, eq_comm]

theorem State.queue_setQueue (port other : Port) (q : Egress) :
    (s.setQueue port q).queue other = if other = port then q else s.queue other := by
  split
  · next h => rw [h, State.queue_setQueue_self]
  · next h => exact s.queue_setQueue_of_ne q h

@[simp] theorem State.setQueue_slots (port : Port) (q : Egress) : (s.setQueue port q).fs.slots = s.fs.slots := by
  rcases port with p | c | (_ | _) <;> rfl

@[simp] theorem State.setQueue_mark (port : Port) (q : Egress) : (s.setQueue port q).fs.mark = s.fs.mark := by
  rcases port with p | c | (_ | _) <;> rfl

@[simp] theorem State.setQueue_fsCounts (port : Port) (q : Egress) : (s.setQueue port q).fs.counts = s.fs.counts := by
  rcases port with p | c | (_ | _) <;> rfl

theorem State.side_onSide (side other : Side) (f : Backbone → Backbone) :
    (s.onSide side f).side other = if other = side then f (s.side other) else s.side other := by
  cases side <;> cases other <;> rfl

@[simp] theorem State.side_onSide_self (side : Side) (f : Backbone → Backbone) : (s.onSide side f).side side = f (s.side side) := by
  cases side <;> rfl

theorem State.side_eq_of_cu {s t : State} (h : t.cu = s.cu) : t.side = s.side := by
  funext side
  unfold State.side
  rw [h]

@[simp] theorem otherSide_ne (side : Side) : otherSide side ≠ side := by cases side <;> decide

@[simp] theorem State.side_onSide_other (side : Side) (f : Backbone → Backbone) :
    (s.onSide side f).side (otherSide side) = s.side (otherSide side) := by
  cases side <;> rfl

end Reading

/-! ### The outline -/

/-- What the invariants read of a record. -/
structure RecordOutline where
  addr : Addr
  place : Option Place
  former : Option (LinkNo × AssocNo)
  hold : List Nat
  parked : List Nat
  lingering : Bool

def Record.outline (r : Record) : RecordOutline :=
  { addr := r.addr, place := r.st.place, former := r.st.former, hold := r.st.hold, parked := r.parked, lingering := r.st.isLingering }

/-- What R174 reads and writes of a backbone port: its state, and the state its items give. -/
def Backbone.items (b : Backbone) : CouplingState × CouplingState := (b.state, b.derive)

/-- What the invariants read of the state. -/
structure Outline where
  slots : Table Slot
  entries : Port → List Entry
  records : Table RecordOutline
  waiting : List Nat
  entitled : List Addr
  stations : List (Addr × Roles)
  deferred : List Addr
  inHand : Option Nat
  items : Side → CouplingState × CouplingState

def State.outline (s : State) : Outline :=
  { slots := s.fs.slots
    entries := fun port => (s.queue port).entries
    records := s.ct.records.map fun e => (e.1, e.2.outline)
    waiting := s.sau.waiting
    entitled := s.el.entries.map Entitlement.addr
    stations := s.me.stations.map fun st => (st.addr, st.roles)
    deferred := s.clb.deferrals.map Deferral.addr
    inHand := s.ev.inHand
    items := fun side => (s.side side).items }

theorem State.outline_eq_iff {s t : State} : t.outline = s.outline ↔
    t.fs.slots = s.fs.slots ∧ (∀ port, (t.queue port).entries = (s.queue port).entries)
    ∧ (t.ct.records.map fun e => (e.1, e.2.outline)) = (s.ct.records.map fun e => (e.1, e.2.outline))
    ∧ t.sau.waiting = s.sau.waiting ∧ t.el.entries.map Entitlement.addr = s.el.entries.map Entitlement.addr
    ∧ (t.me.stations.map fun st => (st.addr, st.roles)) = (s.me.stations.map fun st => (st.addr, st.roles))
    ∧ t.clb.deferrals.map Deferral.addr = s.clb.deferrals.map Deferral.addr ∧ t.ev.inHand = s.ev.inHand
    ∧ ∀ side, (t.side side).items = (s.side side).items := by
  simp [State.outline, funext_iff]

/-! ### Elementary updates that keep it -/

section Elementary

variable (s : State)

@[simp] theorem State.onEv_outline (f : EventLog → EventLog) (h : ∀ e, (f e).inHand = e.inHand) :
    (s.onEv f).outline = s.outline := by
  rw [State.outline_eq_iff]; exact ⟨rfl, fun _ => rfl, rfl, rfl, rfl, rfl, rfl, h s.ev, fun _ => rfl⟩

@[simp] theorem State.onMc_outline (f : MoveController → MoveController) : (s.onMc f).outline = s.outline := rfl

@[simp] theorem State.onSau_outline (f : ShareUnit → ShareUnit) (h : ∀ b, (f b).waiting = b.waiting) :
    (s.onSau f).outline = s.outline := by
  rw [State.outline_eq_iff]; exact ⟨rfl, fun _ => rfl, rfl, h s.sau, rfl, rfl, rfl, rfl, fun _ => rfl⟩

@[simp] theorem State.onEl_outline (f : EntitlementList → EntitlementList)
    (h : (f s.el).entries.map Entitlement.addr = s.el.entries.map Entitlement.addr) : (s.onEl f).outline = s.outline := by
  rw [State.outline_eq_iff]; exact ⟨rfl, fun _ => rfl, rfl, rfl, h, rfl, rfl, rfl, fun _ => rfl⟩

@[simp] theorem State.onSpb_outline (f : SeatPortBlock → SeatPortBlock) : (s.onSpb f).outline = s.outline := rfl

@[simp] theorem State.onClb_outline (f : CeilingBlock → CeilingBlock) (h : ∀ b, (f b).deferrals = b.deferrals) :
    (s.onClb f).outline = s.outline := by
  rw [State.outline_eq_iff]
  exact ⟨rfl, fun _ => rfl, rfl, rfl, rfl, rfl, congrArg _ (h s.clb), rfl, fun _ => rfl⟩

@[simp] theorem State.onMe_outline (f : Engine → Engine)
    (h : (f s.me).stations.map (fun st => (st.addr, st.roles)) = s.me.stations.map fun st => (st.addr, st.roles)) :
    (s.onMe f).outline = s.outline := by
  rw [State.outline_eq_iff]; exact ⟨rfl, fun _ => rfl, rfl, rfl, rfl, h, rfl, rfl, fun _ => rfl⟩

@[simp] theorem State.onSl_outline (f : Loader → Loader) : (s.onSl f).outline = s.outline := rfl

@[simp] theorem State.onCt_outline (f : ClientTable → ClientTable) (h : ∀ b, (f b).records = b.records) :
    (s.onCt f).outline = s.outline := by
  rw [State.outline_eq_iff]
  exact ⟨rfl, fun _ => rfl, congrArg _ (h s.ct), rfl, rfl, rfl, rfl, rfl, fun _ => rfl⟩

@[simp] theorem State.countCt_outline (f : CtCounters → CtCounters) : (s.countCt f).outline = s.outline := rfl
@[simp] theorem State.countMc_outline (f : McCounters → McCounters) : (s.countMc f).outline = s.outline := rfl
@[simp] theorem State.countSau_outline (f : SauCounters → SauCounters) : (s.countSau f).outline = s.outline := rfl
@[simp] theorem State.countEl_outline (f : ElCounters → ElCounters) : (s.countEl f).outline = s.outline := rfl
@[simp] theorem State.countMe_outline (f : MeCounters → MeCounters) : (s.countMe f).outline = s.outline := rfl
@[simp] theorem State.countSl_outline (f : SlCounters → SlCounters) : (s.countSl f).outline = s.outline := rfl
@[simp] theorem State.countFs_outline (f : FsCounters → FsCounters) : (s.countFs f).outline = s.outline := by
  rw [State.outline_eq_iff]
  exact ⟨rfl, fun port => by rcases port with p | c | (_ | _) <;> rfl, rfl, rfl, rfl, rfl, rfl, rfl, fun _ => rfl⟩
@[simp] theorem State.onSeat_outline (p : SeatNo) (f : Seat → Seat) : (s.onSeat p f).outline = s.outline := rfl
@[simp] theorem State.countSeat_outline (p : SeatNo) (f : SeatCounters → SeatCounters) :
    (s.countSeat p f).outline = s.outline := rfl
@[simp] theorem State.onTrunk_outline (t : TrunkNo) (f : Trunk → Trunk) : (s.onTrunk t f).outline = s.outline := rfl
@[simp] theorem State.onLink_outline (c : LinkNo) (f : Link → Link) : (s.onLink c f).outline = s.outline := rfl
@[simp] theorem State.countLink_outline (c : LinkNo) (f : LinkCounters → LinkCounters) :
    (s.countLink c f).outline = s.outline := rfl
@[simp] theorem State.emit_outline (o : Output) : (s.emit o).outline = s.outline := rfl
@[simp] theorem State.pushResponse_outline (r : Response) : (s.pushResponse r).outline = s.outline := rfl

@[simp] theorem State.memory_outline (m : Image) : ({ s with memory := m } : State).outline = s.outline := rfl

@[simp] theorem State.onSide_outline (side : Side) (f : Backbone → Backbone) (h : (f (s.side side)).items = (s.side side).items) :
    (s.onSide side f).outline = s.outline := by
  rw [State.outline_eq_iff]
  refine ⟨rfl, fun _ => rfl, rfl, rfl, rfl, rfl, rfl, rfl, fun other => ?_⟩
  rw [State.side_onSide]
  split
  · next h' => rw [h', h]
  · rfl

@[simp] theorem State.countSide_outline (side : Side) (f : CuCounters → CuCounters) : (s.countSide side f).outline = s.outline :=
  s.onSide_outline side _ rfl

@[simp] theorem State.onCu_outline (f : CouplingUnit → CouplingUnit) (hf : ∀ b, (f b).fore = b.fore) (ha : ∀ b, (f b).aft = b.aft) :
    (s.onCu f).outline = s.outline := by
  rw [State.outline_eq_iff]
  refine ⟨rfl, fun _ => rfl, rfl, rfl, rfl, rfl, rfl, rfl, fun side => ?_⟩
  cases side
  · exact congrArg _ (hf s.cu)
  · exact congrArg _ (ha s.cu)

@[simp] theorem State.setQueue_outline (port : Port) (q : Egress) (h : q.entries = (s.queue port).entries) :
    (s.setQueue port q).outline = s.outline := by
  rw [State.outline_eq_iff]
  refine ⟨s.setQueue_slots port q, fun other => ?_, rfl, rfl, rfl, rfl, rfl, rfl, fun _ => rfl⟩
  rw [State.queue_setQueue]
  split
  · next h' => rw [h', h]
  · rfl

@[simp] theorem State.onQueue_outline (port : Port) (f : Egress → Egress) (h : ∀ q, (f q).entries = q.entries) :
    (s.onQueue port f).outline = s.outline := s.setQueue_outline port _ (h _)

@[simp] theorem State.countPort_outline (port : Port) (f : PortCounters → PortCounters) : (s.countPort port f).outline = s.outline :=
  s.onQueue_outline port _ fun _ => rfl

@[simp] theorem State.raise_outline (c : Cause) : (s.raise c).outline = s.outline := by
  apply State.onMe_outline
  simp only [List.map_map]
  apply List.map_congr_left
  intro st _
  simp only [Function.comp_apply, Station.enter]
  split <;> rfl

theorem State.onStation_outline (x : Addr) (f : Station → Station) (h : ∀ st, (f st).addr = st.addr ∧ (f st).roles = st.roles) :
    (s.onStation x f).outline = s.outline := by
  apply State.onMe_outline
  simp only [List.map_map]
  apply List.map_congr_left
  intro st _
  simp only [Function.comp_apply]
  split
  · rw [(h st).1, (h st).2]
  · rfl

/-- A table of records whose every record keeps its outline has the same outlines. -/
theorem Table.map_outline_put {t : Table Record} {n : Nat} {r x : Record} (hr : t.get n = some r) (hx : x.outline = r.outline)
    (hw : t.wf = true) : (t.put n x).map (fun e => (e.1, e.2.outline)) = t.map fun e => (e.1, e.2.outline) := by
  rw [Table.wf_iff] at hw
  induction t with
  | nil => simp [Table.get] at hr
  | cons d t ih =>
    obtain ⟨j, w⟩ := d
    simp only [List.map_cons, List.pairwise_cons] at hw
    simp only [Table.get] at hr
    split at hr
    · next hj =>
      obtain rfl := Option.some.inj hr
      simp [Table.put, hj, hx]
    · next hj =>
      have hlt : j < n := hw.1 n (List.mem_map_of_mem (f := Prod.fst) (Table.get_mem _ _ _ hr))
      simp [Table.put, Nat.not_lt.2 hlt.le, Ne.symm hj, ih hr hw.2]

theorem State.onRecord_outline (hw : s.ct.records.wf = true) (n : Nat) (f : Record → Record)
    (h : ∀ r, s.record n = some r → (f r).outline = r.outline) : (s.onRecord n f).outline = s.outline := by
  rw [State.outline_eq_iff]
  refine ⟨rfl, fun _ => rfl, ?_, rfl, rfl, rfl, rfl, rfl, fun _ => rfl⟩
  simp only [State.onRecord, State.onCt, Table.modify]
  split
  · rfl
  · next r hr => exact Table.map_outline_put hr (h r hr) hw

theorem State.mapRecords_outline (f : Record → Record) (h : ∀ r, (f r).outline = r.outline) :
    (s.onCt fun b => { b with records := b.records.map fun e => (e.1, f e.2) }).outline = s.outline := by
  rw [State.outline_eq_iff]
  refine ⟨rfl, fun _ => rfl, ?_, rfl, rfl, rfl, rfl, rfl, fun _ => rfl⟩
  simp [State.onCt, h]

@[simp] theorem State.setCredits_outline (credit : Class → Nat) : (s.setCredits credit).outline = s.outline :=
  s.mapRecords_outline (fun r => { r with credit := credit r.cls }) fun _ => rfl

end Elementary

/-! ### Folds and branches -/

/-- A fold of quiet steps is quiet. -/
theorem foldl_outline {α : Type} {f : State → α → State} (h : ∀ t a, (f t a).outline = t.outline) (l : List α) (s : State) :
    (l.foldl f s).outline = s.outline := foldl_keeps State.outline h l rfl

/-! ### Operations that are quiet -/

section Quiet

variable (s : State)

@[simp] theorem State.lowWater_outline (free : Nat) : (s.lowWater free).outline = s.outline := by
  unfold State.lowWater
  split
  · rw [State.raise_outline, State.outline_eq_iff]
    exact ⟨rfl, fun port => by rcases port with p | c | (_ | _) <;> rfl, rfl, rfl, rfl, rfl, rfl, rfl, fun _ => rfl⟩
  · rfl

@[simp] theorem State.beginTransmission_outline (port : Port) : (s.beginTransmission port).outline = s.outline := by
  unfold State.beginTransmission
  dsimp only
  (repeat' split) <;> simp [*]

@[simp] theorem State.goOut_outline (port : Port) (m : Control) : (s.goOut port m).outline = s.outline := by
  unfold State.goOut
  split <;> simp

@[simp] theorem State.sendControl_outline (port : Port) (m : Control) : (s.sendControl port m).outline = s.outline := by
  unfold State.sendControl
  (repeat' split) <;> simp

@[simp] theorem State.releaseWaiting_outline (port : Port) : (s.releaseWaiting port).outline = s.outline := by
  unfold State.releaseWaiting
  dsimp only
  split
  · rw [foldl_outline (fun t m => t.goOut_outline port m)]
    simp
  · simp

@[simp] theorem State.sendRadio_outline (c : LinkNo) (m : RadioOut) : (s.sendRadio c m).outline = s.outline := by
  simp [State.sendRadio]

@[simp] theorem State.sweepLamp_outline (p : SeatNo) : (s.sweepLamp p).outline = s.outline := by
  unfold State.sweepLamp
  dsimp only
  (repeat' split) <;> simp

@[simp] theorem State.sweepLamps_outline : s.sweepLamps.outline = s.outline := by
  unfold State.sweepLamps
  rw [State.onEv_outline _ _ (by exact fun _ => rfl), foldl_outline fun t p => t.sweepLamp_outline p]

@[simp] theorem State.endRelay_outline (c : LinkNo) (status : Status) (args : Bytes) (count : LinkCounters → LinkCounters) :
    (s.endRelay c status args count).outline = s.outline := by
  unfold State.endRelay
  split <;> simp

@[simp] theorem State.relayExpiry_outline (c : LinkNo) : (s.relayExpiry c).outline = s.outline := by
  simp [State.relayExpiry]

@[simp] theorem State.takeSettingAnswer_outline (c : LinkNo) (item : Byte) (value : Word) (result : Byte) :
    (s.takeSettingAnswer c item value result).outline = s.outline := by
  unfold State.takeSettingAnswer
  dsimp only
  (repeat' split) <;> simp

@[simp] theorem State.windowEnd_outline (c : LinkNo) : (s.windowEnd c).outline = s.outline := by
  simp [State.windowEnd]

@[simp] theorem State.surveyTick_outline (c : LinkNo) (busy : Bool) : (s.surveyTick c busy).outline = s.outline := by
  unfold State.surveyTick
  dsimp only
  split <;> simp

@[simp] theorem State.enterReady_outline (c : LinkNo) : (s.enterReady c).outline = s.outline := by
  simp [State.enterReady]

@[simp] theorem State.releaseLink_outline (c : LinkNo) : (s.releaseLink c).outline = s.outline := by
  simp [State.releaseLink]

@[simp] theorem State.barredFrame_outline (p : SeatNo) : (s.barredFrame p).outline = s.outline := by
  simp [State.barredFrame]

@[simp] theorem State.makePage_outline (side : Side) : (s.makePage side).outline = s.outline := by
  simp [State.makePage]

@[simp] theorem State.duePages_outline : s.duePages.outline = s.outline := by
  unfold State.duePages
  rw [foldl_outline fun t side => t.makePage_outline side]
  simp

@[simp] theorem State.pageExpiry_outline (side : Side) : (s.pageExpiry side).outline = s.outline := by
  unfold State.pageExpiry
  rw [State.onSide_outline _ _ _ rfl, State.makePage_outline]

@[simp] theorem State.errorWindowEnd_outline (side : Side) : (s.errorWindowEnd side).outline = s.outline :=
  s.onSide_outline side _ rfl

@[simp] theorem State.releaseBackbone_outline (side : Side) : (s.releaseBackbone side).outline = s.outline :=
  s.onSide_outline side _ rfl

@[simp] theorem State.takeVehicle_outline : s.takeVehicle.outline = s.outline := by
  unfold State.takeVehicle
  split <;> simp

@[simp] theorem State.giveVehicle_outline (v : Nat) : (s.giveVehicle v).outline = s.outline := by
  unfold State.giveVehicle
  split <;> simp

@[simp] theorem State.loseComposed_outline (reset : Bool) : (s.loseComposed reset).outline = s.outline := by
  simp [State.loseComposed]

@[simp] theorem State.clientNoSlot_outline : s.clientNoSlot.outline = s.outline := by simp [State.clientNoSlot]

@[simp] theorem State.spacingExpiry_outline (x : Addr) : (s.spacingExpiry x).outline = s.outline := by
  unfold State.spacingExpiry
  split
  · rfl
  · exact s.onStation_outline x _ fun _ => ⟨rfl, rfl⟩

@[simp] theorem State.noticed_outline (x : Addr) (hold : Bool) : (s.onStation x (Station.noticed hold)).outline = s.outline :=
  s.onStation_outline x _ fun st => by unfold Station.noticed; split <;> exact ⟨rfl, rfl⟩

@[simp] theorem State.applyGrant_outline (g : Grant) : (s.applyGrant g).outline = s.outline := by
  simp [State.applyGrant]

@[simp] theorem State.pendGrant_outline (inForce : Grant) (earlier : Option Grant) (g : Grant) :
    (s.pendGrant inForce earlier g).outline = s.outline := by
  simp [State.pendGrant]

@[simp] theorem State.beginEvent_outline : s.beginEvent.outline = { s.outline with inHand := none } := rfl

theorem State.beginLoad_outline : s.beginLoad.outline = s.outline := by simp [State.beginLoad]

@[simp] theorem State.startLoad_outline : s.startLoad.outline = s.outline := by
  unfold State.startLoad
  split
  · exact s.beginLoad_outline
  · rfl

@[simp] theorem State.unitIdle_outline (outcome : LoadOutcome) : (s.unitIdle outcome).outline = s.outline := by
  simp [State.unitIdle]

@[simp] theorem State.respondLong_outline (r : Option Return) (status : Status) (args : Bytes) :
    (s.respondLong r status args).outline = s.outline := by
  unfold State.respondLong
  split <;> simp

@[simp] theorem State.respond_outline (r : Return) (status : Status) (args : Bytes) (reset : Bool) :
    (s.respond r status args reset).outline = s.outline := by
  simp [State.respond]

theorem State.storeFailed_outline (stage : Stage) : (s.storeFailed stage).outline = s.outline := by
  simp [State.storeFailed]

theorem State.storeStage_outline (stage : Stage) (items : Bytes) : (s.storeStage stage items).outline = s.outline := by
  unfold State.storeStage
  split <;> simp

@[simp] theorem State.stageComplete_outline (access : Nat) : (s.stageComplete access).outline = s.outline := by
  unfold State.stageComplete
  (repeat' split) <;> simp [State.storeStage_outline]

@[simp] theorem State.writeFailure_outline (access : Nat) : (s.writeFailure access).outline = s.outline := by
  unfold State.writeFailure
  (repeat' split) <;> simp [State.storeFailed_outline]

@[simp] theorem State.applyLamp_outline (rules : Option LampRules) (brightness : Option Nat) (forces : List (SeatNo × Force)) :
    (s.applyLamp rules brightness forces).outline = s.outline := by
  unfold State.applyLamp
  dsimp only
  rw [foldl_outline fun t (e : SeatNo × Force) => t.onSeat_outline e.1 fun x => { x with force := e.2 }]
  simp

@[simp] theorem mapVector_get {α β : Type} {n : Nat} (v : Vector α n) (f : α → β) (i : Nat) (h : i < n) :
    (mapVector v f)[i] = f v[i] := by
  simp [mapVector]

@[simp] theorem State.clearCounters_outline : s.clearCounters.outline = s.outline := by
  rw [State.outline_eq_iff]
  refine ⟨rfl, fun port => ?_, ?_, rfl, rfl, rfl, rfl, rfl, fun side => by cases side <;> rfl⟩
  · rcases port with p | c | (_ | _)
    · simp [State.queue, State.clearCounters]
    · simp [State.queue, State.clearCounters]
    · rfl
    · rfl
  · simp [State.clearCounters, Record.outline]

theorem Backbone.tick_items (b : Backbone) : b.tick.items = b.items := rfl

theorem RecordState.tick_outline (st : RecordState) : st.tick.place = st.place ∧ st.tick.former = st.former
    ∧ st.tick.hold = st.hold ∧ st.tick.isLingering = st.isLingering := by
  cases st <;> exact ⟨rfl, rfl, rfl, rfl⟩

@[simp] theorem State.countDown_outline : s.countDown.outline = s.outline := by
  rw [State.outline_eq_iff]
  refine ⟨rfl, fun _ => rfl, ?_, rfl, rfl, ?_, ?_, rfl, fun side => by cases side <;> rfl⟩
  · simp [State.countDown, Record.outline, RecordState.tick_outline]
  · simp [State.countDown]
  · simp [State.countDown]

end Quiet

end Sys2Proof.Machine
end

section
/-! SUPPORT. Every command's effect is made of quiet updates and a short list of operations that change the outline. A relation
between states that is closed under these relates every state to what an event makes of it. -/

namespace Sys2Proof.Machine

/-- A relation between a state and what an operation makes of it: transitive, and holding of every quiet operation and of each
operation that changes the outline, as the model calls it. -/
structure Closed (R : State → State → Prop) : Prop where
  trans : ∀ {s t u}, R s t → R t u → R s u
  quiet : ∀ {s t}, t.outline = s.outline → R s t
  discardQueue : ∀ s port, R s (s.discardQueue port)
  completeTransmission : ∀ s port, R s (s.completeTransmission port)
  enterLingering : ∀ s n, R s (s.enterLingering n)
  vacate : ∀ s n, R s (s.vacate n)
  completeMove : ∀ s n count, R s (s.completeMove n count)
  setClass : ∀ s n new, R s (s.setClass n new)
  releasePass : ∀ s g, R s (s.releasePass g)
  enterHold : ∀ s, R s s.enterHold
  compose : ∀ s side reset frame, R s (s.compose side reset frame).1
  loopFrame : ∀ s p frame, R s (s.loopFrame p frame)
  learnAndSubmit : ∀ s p frame, R s (s.learnAndSubmit p frame)
  acceptData : ∀ s c n attached a x frame, s.dataOwner c a x = .record n attached →
    R s (s.acceptData c n attached (.ceiling c a) frame)
  handOver : ∀ s x c a, R s (s.handOver x c a)
  insertDeferral : ∀ s x, s.isDeferred x = false → R s (s.insertDeferral x)
  removeDeferral : ∀ s x, R s (s.removeDeferral x)
  filterEntitlements : ∀ s (p : Entitlement → Bool), R s (s.onEl fun b => { b with entries := b.entries.filter p })
  putEntitlement : ∀ s e, s.entryOf e.addr ≠ none ∨ s.el.entries.length < 256 →
    R s (s.onEl fun b => { b with entries := putEntitlement e b.entries })
  filterStations : ∀ s (p : Station → Bool), R s (s.onMe fun m => { m with stations := m.stations.filter p })
  enrol : ∀ s r wanted threshold, ¬ (wanted.isEmpty = true ∧ s.stationAt r.station = none) → s.heldByOthers r.station wanted = [] →
    s.stationAt r.station ≠ none ∨ s.me.stations.length < 4 →
    R s (s.onMe fun m => { m with stations := putStation (s.enrolled r wanted threshold) m.stations })
  reduceRoles : ∀ s x named, ((s.rolesHeld x).minus named).isEmpty = false →
    R s (s.onStation x fun st => { st with roles := (s.rolesHeld x).minus named })
  append : ∀ s port e, s.fs.slots.get e.slot ≠ none → R s (s.append port e false).1
  holdFrame : ∀ s n k, s.fs.slots.get k ≠ none → R s (s.holdFrame n k)
  rederive : ∀ s side f, R s ((s.onSide side f).rederive side)

/-- Two relations closed under every effect are so together. -/
theorem Closed.and {R S : State → State → Prop} (C : Closed R) (D : Closed S) : Closed fun s t => R s t ∧ S s t where
  trans h1 h2 := ⟨C.trans h1.1 h2.1, D.trans h1.2 h2.2⟩
  quiet ho := ⟨C.quiet ho, D.quiet ho⟩
  discardQueue s port := ⟨C.discardQueue s port, D.discardQueue s port⟩
  completeTransmission s port := ⟨C.completeTransmission s port, D.completeTransmission s port⟩
  enterLingering s n := ⟨C.enterLingering s n, D.enterLingering s n⟩
  vacate s n := ⟨C.vacate s n, D.vacate s n⟩
  completeMove s n count := ⟨C.completeMove s n count, D.completeMove s n count⟩
  setClass s n new := ⟨C.setClass s n new, D.setClass s n new⟩
  releasePass s g := ⟨C.releasePass s g, D.releasePass s g⟩
  enterHold s := ⟨C.enterHold s, D.enterHold s⟩
  compose s side reset frame := ⟨C.compose s side reset frame, D.compose s side reset frame⟩
  loopFrame s p frame := ⟨C.loopFrame s p frame, D.loopFrame s p frame⟩
  learnAndSubmit s p frame := ⟨C.learnAndSubmit s p frame, D.learnAndSubmit s p frame⟩
  acceptData s c n attached a x frame h := ⟨C.acceptData s c n attached a x frame h, D.acceptData s c n attached a x frame h⟩
  handOver s x c a := ⟨C.handOver s x c a, D.handOver s x c a⟩
  insertDeferral s x h := ⟨C.insertDeferral s x h, D.insertDeferral s x h⟩
  removeDeferral s x := ⟨C.removeDeferral s x, D.removeDeferral s x⟩
  filterEntitlements s p := ⟨C.filterEntitlements s p, D.filterEntitlements s p⟩
  putEntitlement s e h := ⟨C.putEntitlement s e h, D.putEntitlement s e h⟩
  filterStations s p := ⟨C.filterStations s p, D.filterStations s p⟩
  enrol s r wanted threshold h1 h2 h3 := ⟨C.enrol s r wanted threshold h1 h2 h3, D.enrol s r wanted threshold h1 h2 h3⟩
  reduceRoles s x named h := ⟨C.reduceRoles s x named h, D.reduceRoles s x named h⟩
  append s port e h := ⟨C.append s port e h, D.append s port e h⟩
  holdFrame s n k h := ⟨C.holdFrame s n k h, D.holdFrame s n k h⟩
  rederive s side f := ⟨C.rederive s side f, D.rederive s side f⟩

namespace Closed

variable {R : State → State → Prop} (C : Closed R)

include C

theorem refl (s : State) : R s s := C.quiet rfl

/-- A quiet operation after what is related. -/
theorem after {s t u : State} (h : R s t) (hq : u.outline = t.outline) : R s u := C.trans h (C.quiet hq)

/-- A quiet operation before what is related. -/
theorem before {s t u : State} (h : R t u) (hq : t.outline = s.outline) : R s u := C.trans (C.quiet hq) h

theorem foldl {α : Type} {f : State → α → State} (h : ∀ t a, R t (f t a)) (l : List α) (s : State) : R s (l.foldl f s) := by
  induction l generalizing s with
  | nil => exact C.refl s
  | cons a l ih => exact C.trans (h s a) (ih (f s a))

/-! ### Links and seats -/

theorem linksLost (s : State) (cs : List LinkNo) : R s (s.linksLost cs) :=
  C.trans (C.foldl C.enterLingering _ s) (C.foldl (fun t n => C.completeMove t n _) _ _)

theorem linkClosed (s : State) (c : LinkNo) : R s (s.linkClosed c) :=
  C.after (C.discardQueue s (.ceiling c)) (by simp [State.linkClosed])

theorem leaveReady (s : State) (cs : List LinkNo) (new : LinkState) : R s (s.leaveReady cs new) :=
  C.trans (C.trans (C.foldl (fun t c => C.quiet (t.onLink_outline c fun x => { x with state := new })) cs s) (C.linksLost _ cs))
    (C.foldl C.linkClosed cs _)

theorem statusTick (s : State) (c : LinkNo) (status : Option RadioStatus) (cut : Bool) : R s (s.statusTick c status cut) := by
  unfold State.statusTick
  dsimp only
  split
  · exact C.quiet rfl
  · split
    · exact C.before (C.leaveReady _ _ _) rfl
    · exact C.quiet rfl
  · split
    · split
      · exact C.quiet (by simp)
      · exact C.before (C.leaveReady _ _ _) rfl
    · split
      · exact C.quiet (by simp)
      · exact C.quiet rfl
    · exact C.quiet rfl

theorem seatLost (s : State) (p : SeatNo) : R s (s.seatLost p) := by
  unfold State.seatLost
  split
  · exact C.refl s
  · exact C.enterLingering s _

theorem seatDown (s : State) (p : SeatNo) : R s (s.seatDown p) := by
  unfold State.seatDown
  refine C.trans ?_ (C.discardQueue _ _)
  exact C.before (C.seatLost _ p) (s.onSeat_outline p _)

theorem seatUpdate (s : State) (p : SeatNo) : R s (s.seatUpdate p) := by
  unfold State.seatUpdate
  (repeat' split)
  · exact C.refl s
  · exact C.quiet rfl
  · exact C.seatDown s p
  · exact C.refl s

theorem setSeatProfile (s : State) (p : SeatNo) (profile : SeatProfile) : R s (s.setSeatProfile p profile) := by
  unfold State.setSeatProfile
  dsimp only
  have h : R s (((s.onSeat p fun x =>
      { x with profile := { profile with loopback := (s.seat p).profile.loopback } }).seatUpdate p).onSeat p fun x =>
      { x with profile := profile }) := by
    refine C.trans ?_ (C.quiet (State.onSeat_outline _ p _))
    exact C.before (C.seatUpdate _ p) rfl
  split
  · exact C.trans h (C.discardQueue _ _)
  · exact h

theorem applyIndications (s : State) (t : TrunkNo) : R s (s.applyIndications t) := by
  unfold State.applyIndications
  refine C.foldl (fun u i => ?_) _ s
  exact C.before (C.seatUpdate _ _) (u.onSeat_outline _ _)

theorem trunkPresent (s : State) (t : TrunkNo) : R s (s.trunkPresent t) := by
  unfold State.trunkPresent
  refine C.trans ?_ (C.quiet (State.onEv_outline _ _ (by exact fun _ => rfl)))
  exact C.before (C.applyIndications _ t) (s.onTrunk_outline t _)

theorem trunkLoss (s : State) (t : TrunkNo) (cut : Nat) : R s (s.trunkLoss t cut) := by
  unfold State.trunkLoss
  dsimp only
  (repeat' split)
  · exact C.refl s
  · refine C.trans ?_ (C.quiet (State.raise_outline _ _))
    exact C.before (C.applyIndications _ t) (by simp)
  · exact C.quiet (s.onTrunk_outline t _)

theorem trunkReturn (s : State) (t : TrunkNo) (status : TrunkStatus) : R s (s.trunkReturn t status) := by
  unfold State.trunkReturn
  dsimp only
  (repeat' split)
  · exact C.refl s
  · exact C.before (C.trunkPresent _ t) rfl
  · exact C.quiet rfl

theorem seatStatus (s : State) (p : SeatNo) (indication : Option Speed) : R s (s.seatStatus p indication) := by
  unfold State.seatStatus
  dsimp only
  (repeat' split)
  · exact C.refl s
  · exact C.before (C.seatUpdate _ p) rfl
  · exact C.quiet rfl

/-- Whatever a pin's event does is related. -/
theorem pinEffect {s t : State} (h : PinEffect s t) : R s t := by
  cases h with
  | statusTick c status cut => exact C.statusTick s c status cut
  | trunkLoss t cut => exact C.trunkLoss s t cut
  | trunkReturn t status => exact C.trunkReturn s t status
  | seatStatus p indication => exact C.seatStatus s p indication
  | nothing => exact C.refl s

/-! ### Settings -/

theorem setCeilingProfiles (s : State) (profiles : List (LinkNo × CeilingProfile)) : R s (s.setCeilingProfiles profiles) :=
  C.trans (C.foldl (fun t (e : LinkNo × CeilingProfile) => C.quiet (t.onLink_outline e.1 fun x => { x with profile := e.2 })) profiles s)
    (C.leaveReady _ _ _)

theorem giveSettings (s : State) (x : Settings) : R s (s.giveSettings x) := by
  have hseats := C.foldl (fun t p => C.setSeatProfile t p (x.seats.getD p.val {})) allSeats s
  have hlinks := C.trans (C.after hseats (State.onSpb_outline _ fun b => { b with rules := x.rules, brightness := x.brightness }))
    (C.setCeilingProfiles _ (allLinks.map fun c => (c, x.links.getD c.val {})))
  unfold State.giveSettings
  exact C.after hlinks (by simp)

theorem releaseTrunk (s : State) (t : TrunkNo) : R s (s.releaseTrunk t) := by
  unfold State.releaseTrunk
  split
  · exact C.trunkPresent s t
  · exact C.quiet rfl

theorem releasePorts (s : State) : R s s.releasePorts := by
  have htrunks := C.foldl C.releaseTrunk allTrunks s
  have hlinks := C.trans htrunks (C.foldl (fun t c => C.quiet (t.releaseLink_outline c)) allLinks _)
  have hsides := C.trans hlinks (C.foldl (fun t side => C.quiet (t.releaseBackbone_outline side)) allSides _)
  unfold State.releasePorts
  exact C.after hsides (by simp)

theorem startUpEnd (s : State) (found : Option Settings) (outcome : LoadOutcome) : R s (s.startUpEnd found outcome) := by
  unfold State.startUpEnd
  dsimp only
  have h := C.after (C.giveSettings s (found.getD factorySettings))
    (State.giveVehicle_outline _ (found.getD factorySettings).vehicle)
  refine C.trans ?_ (C.quiet (State.unitIdle_outline _ _))
  refine C.trans ?_ (C.releasePorts _)
  split
  · exact C.after h (by simp)
  · exact C.after h (by simp)

theorem reloadEnd (s : State) (found : Option Settings) (outcome : LoadOutcome) : R s (s.reloadEnd found outcome) := by
  unfold State.reloadEnd
  dsimp only
  split
  · next x => exact C.after (C.giveSettings s x) (by simp)
  · exact C.quiet (by simp)

theorem loadEnd (s : State) (found : Option Settings) (outcome : LoadOutcome) : R s (s.loadEnd found outcome) := by
  unfold State.loadEnd
  split
  · exact C.startUpEnd s _ _
  · exact C.reloadEnd s _ _

theorem readComplete (s : State) (access : Nat) : R s (s.readComplete access) := by
  unfold State.readComplete
  split
  · exact C.loadEnd s _ _
  · exact C.refl s

theorem accessExpiry (s : State) : R s s.accessExpiry := by
  unfold State.accessExpiry
  split
  · exact C.loadEnd s _ _
  · exact C.quiet (s.storeFailed_outline _)
  · exact C.refl s

/-! ### Clients -/

theorem seatFrame (s : State) (p : SeatNo) (frame : Bytes) : R s (s.seatFrame p frame) := by
  unfold State.seatFrame
  dsimp only
  split
  · exact C.refl s
  · split
    · exact C.quiet rfl
    · split
      · exact C.quiet rfl
      · split
        · exact C.before (C.loopFrame _ p frame) rfl
        · split
          · exact C.quiet (by simp)
          · exact C.quiet rfl
          · exact C.before (C.learnAndSubmit _ p frame) rfl

theorem idleExpiry (s : State) (n : Nat) : R s (s.idleExpiry n) := by
  unfold State.idleExpiry State.idleOver
  dsimp only
  (repeat' split)
  all_goals first
    | exact C.refl s
    | exact C.after (C.enterLingering s n) (by simp)

theorem lingerExpiry (s : State) (n : Nat) : R s (s.lingerExpiry n) := by
  unfold State.lingerExpiry
  (repeat' split)
  all_goals first
    | exact C.refl s
    | exact C.after (C.vacate s n) rfl

theorem deadlineExpiry (s : State) (n : Nat) : R s (s.deadlineExpiry n) := by
  unfold State.deadlineExpiry State.deadlineOver
  (repeat' split)
  all_goals first
    | exact C.refl s
    | exact C.after (C.completeMove s n fun k => { k with timeouts := bump k.timeouts }) (by simp)

theorem disassociate (s : State) (c : LinkNo) (a : AssocNo) : R s (s.disassociate c a) := by
  unfold State.disassociate
  cases s.atPlace (.ceiling c a) with
  | none =>
    cases s.byFormer c a with
    | none => exact C.quiet rfl
    | some e => exact C.completeMove s e.1 _
  | some d =>
    cases s.byFormer c a with
    | none => exact C.enterLingering s d.1
    | some e => exact C.trans (C.enterLingering s d.1) (C.completeMove _ e.1 _)

theorem releasedBy (s : State) (c : LinkNo) (a : AssocNo) : R s (s.releasedBy c a) := by
  unfold State.releasedBy
  split
  · exact C.completeMove s _ _
  · exact C.quiet rfl

theorem takeData (s : State) (c : LinkNo) (a : AssocNo) (frame : Bytes) : R s (s.takeData c a frame) := by
  unfold State.takeData
  dsimp only
  split
  · exact C.quiet rfl
  · split
    · exact C.quiet rfl
    · split
      · exact C.quiet rfl
      · split
        · exact C.quiet (by simp)
        · exact C.quiet rfl
        · next n attached howner =>
          exact C.before (C.acceptData _ c n attached a (frameSrc frame) frame howner) rfl

end Closed

/-- Only a client that is not on the Deferral List is deferred (R159). -/
theorem State.not_isDeferred_of_admission {s : State} {x : Addr} {c : LinkNo} {a : AssocNo} (h : s.admission x c a = .deferred) :
    s.isDeferred x = false := by
  unfold State.admission at h
  dsimp only at h
  (repeat' split at h) <;> simp_all

theorem State.sendRadio_keeps_deferrals (s : State) (c : LinkNo) (m : RadioOut) :
    (s.sendRadio c m).clb.deferrals = s.clb.deferrals := by
  simp [State.sendRadio, State.countLink, State.onLink, State.onClb]

/-- Queries change nothing. -/
theorem State.query_same (s : State) : (∀ client, (s.doQueryClient client).1 = s) ∧ (∀ start, (s.doListClients start).1 = s)
    ∧ (∀ kind port, (s.doQueryPort kind port).1 = s) ∧ ∀ link, (s.doQueryLink link).1 = s := by
  refine ⟨fun client => ?_, fun start => ?_, fun kind port => ?_, fun link => ?_⟩
  · unfold State.doQueryClient
    (repeat' split) <;> rfl
  · unfold State.doListClients
    split <;> rfl
  · unfold State.doQueryPort
    (repeat' split) <;> rfl
  · unfold State.doQueryLink
    split <;> rfl

/-- An append takes no slot away. -/
theorem State.append_slot_in_use (s : State) (port : Port) (e : Entry) (looped : Bool) {k : Nat} (hk : s.fs.slots.get k ≠ none) :
    (s.append port e looped).1.fs.slots.get k ≠ none := by
  have hoffer : (s.offer port e looped).1.fs.slots = s.fs.slots := by
    unfold State.offer
    split
    · exact s.setQueue_slots port _
    · refine (congrArg Outline.slots (State.beginTransmission_outline _ port)).trans ?_
      simp [State.onQueue, State.outline]
  unfold State.append
  dsimp only
  split
  · simp only [State.addRef, State.onFs, hoffer]
    by_cases h : k = e.slot
    · subst h
      simpa [Table.get_modify_self] using hk
    · rwa [Table.get_modify_of_ne _ _ h]
  · rwa [hoffer]

theorem State.transit_slot_in_use (s : State) (side : Side) {k : Nat} (hk : s.fs.slots.get k ≠ none) :
    (s.transit side k).fs.slots.get k ≠ none := by
  unfold State.transit
  split
  · exact s.append_slot_in_use _ _ _ hk
  · exact hk

/-- A claimed slot is in use. -/
theorem State.claim_slot_in_use (s : State) {s1 : State} {reserve k : Nat} {origin : Origin} {reset : Bool} {frame : State → Bytes}
    (h : s.claim reserve origin reset frame = some (k, s1)) : s1.fs.slots.get k ≠ none := by
  unfold State.claim at h
  split at h
  · cases h
  · obtain ⟨rfl, rfl⟩ := Prod.mk.inj (Option.some.inj h)
    simp [State.onFs, Table.get_put_self]

namespace Closed

variable {R : State → State → Prop} (C : Closed R)

include C

theorem answerAssoc (s : State) (x : Addr) (c : LinkNo) (a : AssocNo) (answer : AssocAnswer)
    (h : answer = .deferred → s.isDeferred x = false) : R s (s.answerAssoc x c a answer) := by
  unfold State.answerAssoc
  split
  · have hq : R s ((s.sendRadio c (.admitted a)).countLink c fun k => { k with admissions := bump k.admissions }) :=
      C.quiet (by simp)
    exact C.trans (C.trans hq (C.removeDeferral _ x)) (C.handOver _ x c a)
  · refine C.trans (C.quiet (by simp)) (C.insertDeferral _ x ?_)
    rw [← h rfl]
    simp only [State.isDeferred]
    exact congrArg (fun l : List Deferral => l.any fun d => d.addr == x) (s.sendRadio_keeps_deferrals c _)
  all_goals exact C.quiet (by simp)

theorem takeAssoc (s : State) (c : LinkNo) (a : AssocNo) (x : Addr) (signal : Byte) : R s (s.takeAssoc c a x signal) :=
  C.before (C.answerAssoc _ x c a _ fun h => s.not_isDeferred_of_admission h) rfl

theorem takeRadio (s : State) (c : LinkNo) (m : RadioMessage) : R s (s.takeRadio c m) := by
  cases m with
  | data a frame => exact C.takeData s c _ frame
  | assoc a x signal => exact C.takeAssoc s c _ x signal
  | disassoc a => exact C.before (C.disassociate _ c _) rfl
  | released a => exact C.before (C.releasedBy _ c _) rfl
  | settingAnswer item value result => exact C.quiet (by simp [State.takeRadio])

theorem fromRadio (s : State) (c : LinkNo) (m : Option RadioMessage) : R s (s.fromRadio c m) := by
  unfold State.fromRadio
  dsimp only
  split
  · exact C.refl s
  · split
    · exact C.quiet rfl
    · split
      · exact C.quiet rfl
      · split
        · exact C.takeRadio s c _
        · exact C.quiet rfl

/-! ### Entitlements and shares -/

theorem setClassOf (s : State) (x : Addr) (new : Class) : R s (s.setClassOf x new) := by
  unfold State.setClassOf
  split
  · exact C.refl s
  · exact C.setClass s _ new

theorem entryGone (s : State) (e : Entitlement) : R s (s.entryGone e) := by
  unfold State.entryGone
  split
  · exact C.quiet rfl
  · exact C.setClassOf s _ _

theorem removeEntitlements (s : State) (out : Entitlement → Bool) (count : ElCounters → ElCounters) :
    R s (s.removeEntitlements out count) := by
  unfold State.removeEntitlements
  refine C.trans (C.filterEntitlements s _) (C.foldl (fun t e => ?_) _ _)
  exact C.before (C.entryGone _ e) (t.countEl_outline count)

theorem minuteExpiry (s : State) : R s s.minuteExpiry := by
  have h : (s.onEl fun b => { b with entries := b.entries.map Entitlement.minuteLater, minute := some 60000 }).outline = s.outline :=
    s.onEl_outline _ (by simp [Entitlement.minuteLater])
  exact C.trans (C.quiet h) (C.removeEntitlements _ _ _)

theorem evictRecord (s : State) (n : Nat) : R s (s.evictRecord n) := by
  unfold State.evictRecord
  split
  · exact C.refl s
  · dsimp only
    split
    · exact C.after (C.vacate s n) (by simp)
    · exact C.after (C.vacate s n) rfl

theorem pushEntitlement (s : State) (e : Entitlement) : R s (s.pushEntitlement e) := by
  unfold State.pushEntitlement
  (repeat' split)
  · exact C.refl s
  · exact C.evictRecord s _
  · exact C.setClass s _ _

theorem writeEntitlement (s : State) (e : Entitlement) (h : s.entryOf e.addr ≠ none ∨ s.el.entries.length < 256) :
    R s (s.writeEntitlement e) := by
  unfold State.writeEntitlement
  refine C.trans ?_ (C.pushEntitlement _ e)
  exact C.trans (C.putEntitlement s e h) (C.quiet (State.countEl_outline _ _))

theorem doRefill (s : State) (inForce : Grant) (pending : Option Grant) : R s (s.doRefill inForce pending) := by
  unfold State.doRefill
  dsimp only
  refine C.trans ?_ (C.quiet (State.countSau_outline _ _))
  refine C.trans ?_ (C.quiet (State.onSau_outline _ _ (by exact fun _ => rfl)))
  have h : R s (((s.onSau fun b => { b with state := .granted (pending.getD inForce) none, pool := (pending.getD inForce).pool
      }).setCredits (pending.getD inForce).allowance).releasePass (pending.getD inForce)) :=
    C.before (C.releasePass _ _) (by simp)
  split
  · exact C.after h (State.raise_outline _ _)
  · exact h

theorem refillExpiry (s : State) : R s s.refillExpiry := by
  unfold State.refillExpiry
  split
  · exact C.refl s
  · exact C.doRefill s _ _

/-! ### Coupling -/

theorem linkFailureBegin (s : State) (side : Side) : R s (s.linkFailureBegin side) := C.rederive s side _

theorem countError (s : State) (side : Side) : R s (s.countError side) := by
  unfold State.countError
  dsimp only
  split
  · exact C.trans (C.quiet (State.onSide_outline _ _ _ rfl)) (C.linkFailureBegin _ side)
  · exact C.quiet (State.onSide_outline _ _ _ rfl)

theorem takePage (s : State) (side : Side) (page : Bytes) : R s (s.takePage side page) := by
  unfold State.takePage
  dsimp only
  split
  · exact C.refl s
  · split
    · exact C.quiet (State.countSide_outline _ _ _)
    · exact C.trans (C.quiet (State.countSide_outline _ _ _)) (C.countError _ side)
    · exact C.rederive s side _

theorem setOffline (s : State) (side : Side) (offline : Bool) : R s (s.setOffline side offline) := by
  unfold State.setOffline
  (repeat' split)
  · exact C.refl s
  · exact C.rederive s side _
  · exact C.rederive s side _

/-! ### Composed frames -/

theorem sendResponse (s : State) (r : Response) : R s (s.sendResponse r) := by
  unfold State.sendResponse
  exact C.after (C.compose s _ _ _) (State.onEv_outline _ _ (by exact fun _ => rfl))

theorem sendResponses (s : State) : R s s.sendResponses := by
  unfold State.sendResponses
  exact C.before (C.foldl C.sendResponse _ _) (s.onEv_outline _ fun _ => rfl)

theorem sendNotice (s : State) (hold : Bool) (st : Station) : R s (s.sendNotice hold st) :=
  C.after (C.compose s st.side false (noticeFrame st hold)) (by simp [State.sendNotice])

theorem ordinaryNotices (s : State) (n : Nat) : R s (s.ordinaryNotices n) := by
  induction n generalizing s with
  | zero => exact C.refl s
  | succ n ih =>
    unfold State.ordinaryNotices
    split
    · exact C.refl s
    · exact C.trans (C.sendNotice s _ _) (ih _)

/-! ### Requests -/

theorem doEnrol (s : State) (r : Return) (roles threshold : Byte) : R s (s.doEnrol r roles threshold).1 := by
  unfold State.doEnrol
  split
  · next wanted t _ _ =>
    dsimp only
    split
    · exact C.refl s
    · next hnew =>
      split
      · exact C.refl s
      · next hheld =>
        split
        · exact C.refl s
        · next hfull =>
          refine C.enrol s r wanted t ?_ (by simpa using hheld) ?_
          · simpa using hnew
          · simp only [Bool.and_eq_true, Option.isNone_iff_eq_none, decide_eq_true_eq, not_and, Nat.not_le] at hfull
            exact (em (s.stationAt r.station = none)).elim (fun hn => .inr (hfull hn)) .inl
  · exact C.refl s

theorem doReleaseRoles (s : State) (r : Return) (roles : Byte) : R s (s.doReleaseRoles r roles).1 := by
  unfold State.doReleaseRoles
  split
  · exact C.refl s
  · next named _ =>
    dsimp only [State.accept]
    split
    · exact C.filterStations s _
    · next hleft => exact C.reduceRoles s r.station named (by simpa using hleft)

theorem doClearCauses (s : State) (r : Return) (causes : List Byte) : R s (s.doClearCauses r causes).1 := by
  unfold State.doClearCauses
  dsimp only
  (repeat' split)
  · exact C.refl s
  · exact C.quiet (s.onStation_outline _ _ fun _ => ⟨rfl, rfl⟩)
  · exact C.refl s

theorem doGrantShare (s : State) (grant : Option Grant) : R s (s.doGrantShare grant).1 := by
  unfold State.doGrantShare
  (repeat' split)
  · exact C.refl s
  · exact C.refl s
  · exact C.quiet (s.applyGrant_outline _)
  · exact C.quiet (s.pendGrant_outline _ _ _)

theorem doEntitle (s : State) (r : Return) (x : Addr) (kind : Byte) (minutes : Half) : R s (s.doEntitle r x kind minutes).1 := by
  unfold State.doEntitle
  split
  · split
    · exact C.refl s
    · split
      · exact C.quiet (s.countEl_outline _)
      · next hroom =>
        refine C.writeEntitlement s _ ?_
        simp only [Bool.and_eq_true, Option.isNone_iff_eq_none, decide_eq_true_eq, not_and, Nat.not_le] at hroom
        exact (em (s.entryOf x = none)).elim (fun hn => .inr (hroom hn)) .inl
  · exact C.refl s

theorem doRevoke (s : State) (x : Addr) : R s (s.doRevoke x).1 := by
  unfold State.doRevoke
  split
  · exact C.refl s
  · exact C.removeEntitlements s _ _

theorem doEvict (s : State) (x : Addr) : R s (s.doEvict x).1 := by
  unfold State.doEvict
  split
  · exact C.refl s
  · exact C.evictRecord s _

theorem doSetProfile (s : State) (port : Byte) (profile : RawProfile) : R s (s.doSetProfile port profile).1 := by
  unfold State.doSetProfile
  (repeat' split)
  · exact C.setSeatProfile s _ _
  · exact C.refl s
  · exact C.setCeilingProfiles s _
  · exact C.refl s

theorem doSetLamp (s : State) (otherParts : BitVec 5) (rules : Option RawRules) (brightness : Option Byte)
    (forces : Option (List (Byte × Byte))) : R s (s.doSetLamp otherParts rules brightness forces).1 := by
  unfold State.doSetLamp
  dsimp only
  (repeat' split)
  · exact C.refl s
  · exact C.quiet (by simp [State.accept])
  · exact C.refl s

theorem doSetLevels (s : State) (pairs : List (Byte × Byte)) : R s (s.doSetLevels pairs).1 := by
  unfold State.doSetLevels
  (repeat' split)
  · exact C.refl s
  · exact C.quiet (s.onMe_outline _ rfl)
  · exact C.refl s

theorem doSetTiming (s : State) (release linger defer : Half) : R s (s.doSetTiming release linger defer).1 := by
  unfold State.doSetTiming
  split
  · exact C.refl s
  · exact C.quiet (by simp [State.accept])

theorem doSetAddressing (s : State) (cabinet : Addr) (allEnable : Byte) (group : Addr) (groupEnable : Byte) :
    R s (s.doSetAddressing cabinet allEnable group groupEnable).1 := by
  unfold State.doSetAddressing
  split
  · exact C.refl s
  · exact C.quiet (s.onMe_outline _ rfl)

theorem doSetIdentity (s : State) (vehicle : Word) : R s (s.doSetIdentity vehicle).1 := by
  unfold State.doSetIdentity
  (repeat' split)
  · exact C.refl s
  · exact C.refl s
  · exact C.quiet (s.onCu_outline _ (fun _ => rfl) fun _ => rfl)

theorem doPortOffline (s : State) (port setting : Byte) : R s (s.doPortOffline port setting).1 := by
  unfold State.doPortOffline
  split
  · exact C.setOffline s _ _
  · exact C.refl s

theorem doRelaySetting (s : State) (r : Return) (link item : Byte) (value : Word) (direction : Byte) :
    R s (s.doRelaySetting r link item value direction).1 := by
  unfold State.doRelaySetting
  dsimp only
  (repeat' split)
  · exact C.refl s
  · exact C.refl s
  · exact C.quiet (by simp)
  · exact C.refl s

theorem doReadCounters (s : State) (group port clear : Byte) : R s (s.doReadCounters group port clear).1 := by
  unfold State.doReadCounters
  dsimp only [State.accept]
  (repeat' split)
  · exact C.quiet s.clearCounters_outline
  · exact C.refl s
  · exact C.refl s

theorem perform (s : State) (r : Return) (q : Request) : R s (s.perform r q).1 := by
  obtain ⟨hclient, hlist, hport, hlink⟩ := s.query_same
  cases q with
  | enrol roles threshold => exact C.doEnrol s r roles threshold
  | releaseRoles roles => exact C.doReleaseRoles s r roles
  | clearCauses causes => exact C.doClearCauses s r causes
  | grantShare pool period basic standard premium gateway => exact C.doGrantShare s _
  | entitle x kind minutes => exact C.doEntitle s r x kind minutes
  | revoke x => exact C.doRevoke s x
  | journeyEnd => exact C.removeEntitlements s _ _
  | evict x => exact C.doEvict s x
  | setProfile port profile => exact C.doSetProfile s port profile
  | setLamp other rules brightness forces => exact C.doSetLamp s other rules brightness forces
  | setLevels pairs => exact C.doSetLevels s pairs
  | setTiming release linger defer => exact C.doSetTiming s release linger defer
  | setAddressing cabinet allEnable group groupEnable => exact C.doSetAddressing s cabinet allEnable group groupEnable
  | setIdentity vehicle => exact C.doSetIdentity s vehicle
  | portOffline port setting => exact C.doPortOffline s port setting
  | relaySetting link item value direction => exact C.doRelaySetting s r link item value direction
  | storeSettings =>
    change R s (s.doStoreSettings r).1
    unfold State.doStoreSettings
    split
    · exact C.quiet (s.onSl_outline _)
    · exact C.quiet (s.countSl_outline _)
  | reloadSettings =>
    change R s (s.doReloadSettings r).1
    unfold State.doReloadSettings
    split
    · exact C.quiet (by simp [State.beginReload, State.beginLoad_outline])
    · exact C.quiet (s.countSl_outline _)
  | cabinetReset => exact C.refl s
  | readCounters group port clear => exact C.doReadCounters s group port clear
  | queryCabinet => exact C.refl s
  | queryClient client => exact C.quiet (congrArg State.outline (hclient client))
  | listClients start => exact C.quiet (congrArg State.outline (hlist start))
  | queryPort kind port => exact C.quiet (congrArg State.outline (hport kind port))
  | queryLink link => exact C.quiet (congrArg State.outline (hlink link))

theorem carryOut (s : State) (r : Return) (q : Request) : R s (s.carryOut r q) := by
  unfold State.carryOut
  dsimp only
  (repeat' split)
  · exact C.quiet (by simp)
  · exact C.quiet (by simp)
  · exact C.after (C.perform s r q) (State.respond_outline _ _ _ _ _)
  · exact C.perform s r q

theorem takeRequest (s : State) (m : Message) : R s (s.takeRequest m) := by
  have hq : ((s.countMe fun c => { c with requests := bump c.requests }).onStation m.details.station fun st =>
      { st with side := m.details.side }).outline = s.outline := by
    rw [State.onStation_outline _ _ _ (by exact fun _ => ⟨rfl, rfl⟩), State.countMe_outline]
  unfold State.takeRequest
  dsimp only
  split
  · exact C.quiet (by simpa using hq)
  · exact C.quiet (by simpa using hq)
  · exact C.before (C.carryOut _ _ _) hq

theorem handToEngine (s : State) (m : Option Message) : R s (s.handToEngine m) := by
  unfold State.handToEngine
  dsimp only
  (repeat' split)
  · exact C.quiet (s.countMe_outline _)
  · exact C.takeRequest s _
  · exact C.quiet (s.countMe_outline _)

/-! ### Frames from the backbone -/

theorem handOverIf (s : State) (f : Inbound) (enabled : Bool) : R s (s.handOverIf f enabled) := by
  unfold State.handOverIf
  (repeat' split)
  · exact C.handToEngine s _
  · exact C.refl s
  · exact C.refl s

theorem transit (s : State) (side : Side) (k : Nat) (hk : s.fs.slots.get k ≠ none) : R s (s.transit side k) := by
  unfold State.transit
  split
  · exact C.append s _ _ hk
  · exact C.refl s

theorem appends {α : Type} (port : α → Port) (k : Nat) (l : List α) (s : State) (hk : s.fs.slots.get k ≠ none) :
    R s (l.foldl (fun t a => (t.append (port a) { slot := k } false).1) s)
    ∧ (l.foldl (fun t a => (t.append (port a) { slot := k } false).1) s).fs.slots.get k ≠ none := by
  induction l generalizing s with
  | nil => exact ⟨C.refl s, hk⟩
  | cons a l ih =>
    obtain ⟨hr, hk'⟩ := ih _ (s.append_slot_in_use (port a) { slot := k } false hk)
    exact ⟨C.trans (C.append s (port a) { slot := k } hk) hr, hk'⟩

theorem offerCopies (s : State) (side : Side) (dst : Addr) (k : Nat) (hk : s.fs.slots.get k ≠ none) :
    R s (s.offerCopies side dst k) := by
  have h1 := C.transit s side k hk
  obtain ⟨h2, hk2⟩ := C.appends Port.seat k (allSeats.filter (s.seatOffered dst)) _ (s.transit_slot_in_use side hk)
  obtain ⟨h3, _⟩ := C.appends Port.ceiling k (allLinks.filter (s.linkOffered dst)) _ hk2
  have h := C.trans h1 (C.trans h2 h3)
  unfold State.offerCopies
  dsimp only
  split
  · exact C.after h (State.countFs_outline _ _)
  · exact h

theorem toClient (s : State) (k n : Nat) (r : Record) (hk : s.fs.slots.get k ≠ none) : R s (s.toClient k n r) := by
  unfold State.toClient
  split
  · next pl _ _ =>
    refine C.append s _ _ ?_
    cases pl <;> exact hk
  · exact C.holdFrame s n k hk
  · exact C.quiet (s.countFs_outline _)

theorem unknownUnicast (s : State) (side : Side) (k : Nat) (hk : s.fs.slots.get k ≠ none) : R s (s.unknownUnicast side k) := by
  unfold State.unknownUnicast
  split
  · exact C.transit s side k hk
  · exact C.quiet (s.countFs_outline _)

theorem forward (s : State) (f : Inbound) (k : Nat) (hk : s.fs.slots.get k ≠ none) : R s (s.forward f k) := by
  have hover : ∀ enabled, R s ((s.transit f.side k).handOverIf f enabled) := fun enabled =>
    C.trans (C.transit s f.side k hk) (C.handOverIf _ f enabled)
  unfold State.forward
  dsimp only
  (repeat' split)
  · exact C.handOverIf s f true
  · exact C.quiet (s.countFs_outline _)
  · exact hover _
  · exact hover _
  · exact C.toClient s k _ _ hk
  · exact C.offerCopies s f.side f.dst k hk
  · exact C.unknownUnicast s f.side k hk

/-! ### Events -/

/-- What a frame accepted from a backbone port makes of a state: it is refused a slot, or it stands in a claimed slot, the one in
hand, and what follows is related. -/
def Arrived (R : State → State → Prop) (s t : State) : Prop :=
  R s t ∨ ∃ origin frame k s1, s.claim backboneReserve origin false frame = some (k, s1)
    ∧ R (s1.onEv fun e => { e with inHand := some k }) t

theorem acceptFrame (s : State) (f : Inbound) : Arrived R s (s.acceptFrame f) := by
  unfold State.acceptFrame
  split
  · exact .inl (C.quiet (s.countFs_outline _))
  · next k s1 h => exact .inr ⟨_, _, k, s1, h, C.forward _ f k (s.claim_slot_in_use h : s1.fs.slots.get k ≠ none)⟩

theorem checkFrame (s : State) (side : Side) (frame : Bytes) : Arrived R s (s.checkFrame side frame) := by
  unfold State.checkFrame
  dsimp only
  (repeat' split)
  · exact .inl (C.before (C.countError _ side) (State.countPort_outline _ _ _))
  · exact .inl (C.quiet (State.countPort_outline _ _ _))
  · exact .inl (C.quiet (State.countPort_outline _ _ _))
  · exact C.acceptFrame s _

/-- What a command makes of a state within its event is related, or it is a frame's arrival. -/
theorem eventEffect {s t : State} (h : EventEffect s t) : Arrived R s t := by
  cases h with
  | pin h => exact .inl (C.pinEffect h)
  | startLoad => exact .inl (C.quiet s.startLoad_outline)
  | readComplete access => exact .inl (C.readComplete s access)
  | accessExpiry => exact .inl (C.accessExpiry s)
  | stageComplete access => exact .inl (C.quiet (s.stageComplete_outline access))
  | writeFailure access => exact .inl (C.quiet (s.writeFailure_outline access))
  | backboneFrame side frame =>
    unfold State.backboneFrame State.onCoupledPort
    split
    · exact C.checkFrame s side frame
    · exact .inl (C.quiet (s.countPort_outline _ _))
  | completeTransmission port => exact .inl (C.completeTransmission s port)
  | seatFrame p frame => exact .inl (C.seatFrame s p frame)
  | idleExpiry n => exact .inl (C.idleExpiry s n)
  | lingerExpiry n => exact .inl (C.lingerExpiry s n)
  | deadlineExpiry n => exact .inl (C.deadlineExpiry s n)
  | fromRadio c m => exact .inl (C.fromRadio s c m)
  | relayExpiry c => exact .inl (C.quiet (s.relayExpiry_outline c))
  | windowEnd c => exact .inl (C.quiet (s.windowEnd_outline c))
  | deferralOver x => exact .inl (C.after (C.removeDeferral s x) (State.onClb_outline _ _ (by exact fun _ => rfl)))
  | activityOver p => exact .inl (C.quiet (s.onSeat_outline p _))
  | markOver p => exact .inl (C.quiet (s.onSeat_outline p _))
  | refillExpiry => exact .inl (C.refillExpiry s)
  | minuteExpiry => exact .inl (C.minuteExpiry s)
  | pageExpiry side => exact .inl (C.quiet (s.pageExpiry_outline side))
  | takePage side page => exact .inl (C.takePage s side page)
  | silenceExpiry side => exact .inl (C.rederive s side _)
  | errorWindowEnd side => exact .inl (C.quiet (s.errorWindowEnd_outline side))
  | linkFailureExpiry side => exact .inl (C.rederive s side _)
  | spacingExpiry x => exact .inl (C.quiet (s.spacingExpiry_outline x))
  | requestArrival h q =>
    unfold State.requestArrival State.onCoupledPort
    split
    · exact C.acceptFrame s _
    · exact .inl (C.quiet (s.countPort_outline _ _))

/-- The end of an event: what is composed is related, then the slot in hand is free, and pages are made. -/
theorem closeEvent (s : State) : ∃ u, R s u ∧ s.closeEvent.outline = u.settleInHand.outline := by
  refine ⟨s.takeVehicle.sweepLamps.sendResponses.ordinaryNotices 4, ?_, State.duePages_outline _⟩
  exact C.trans (C.before (C.sendResponses _) (by simp)) (C.ordinaryNotices _ 4)

end Closed

end Sys2Proof.Machine
end

section
/-! SUPPORT and PROOFS. The invariants that every elementary update keeps by itself: the form of the tables (O57), and the coupling
states that the ports' items give (O44). -/

namespace Sys2Proof.Machine

/-- A relation closed under every effect carries a predicate from step to step: `P` between events, `Q` within one. -/
theorem Closed.keptBySteps {R : State → State → Prop} (C : Closed R) {P Q : State → Prop}
    (hP : ∀ {s t}, R s t → P s → P t) (hQ : ∀ {s t}, R s t → Q s → Q t)
    (hstart : ∀ s : State, P s → P s.beginEvent) (hwithin : ∀ s : State, P s → s.ev.inHand = none → Q s)
    (hclaim : ∀ {s s1 : State} {origin : Origin} {frame : State → Bytes} {k : Nat}, P s → s.ev.inHand = none →
      s.claim backboneReserve origin false frame = some (k, s1) → Q (s1.onEv fun e => { e with inHand := some k }))
    (hsettle : ∀ s : State, Q s → P s.settleInHand)
    (hreset : ∀ (s : State) cause count line, P { s.afterReset cause count with resetLine := line }) : KeptBySteps P Q where
  queue s rest h := hP (C.quiet (s := s) (t := { s with pending := rest }) rfl) h
  reset := hreset
  line s line h := hP (C.quiet (s := s) (t := { s with resetLine := line }) rfl) h
  load s h := hP (C.quiet s.beginLoad_outline) h
  tick s h := hP (C.quiet s.countDown_outline) h
  start := hstart
  pin h he := hP (C.pinEffect he) h
  effect h hhand he := by
    obtain hr | ⟨origin, frame, k, s1, hc, hr⟩ := C.eventEffect he
    · exact hQ hr (hwithin _ h hhand)
    · exact hQ hr (hclaim h hhand hc)
  close s h _ := by
    obtain ⟨u, hr, ho⟩ := C.closeEvent s
    exact hP (C.quiet ho) (hsettle u (hQ hr h))

/-- R14 to R17, once the number is cleared: the client takes it. -/
def State.takeNumber (s : State) (x : Addr) (c : LinkNo) (a : AssocNo) : State :=
  match s.byAddr x with
  | none =>
    match s.create x (.ceiling c a) with
    | some (_, t) => t
    | none => s
  | some (n, r) =>
    match r.st with
    | .lingering _ => s.attach n (.ceiling c a)
    | .attached (.seat q) _ => (s.discardQueue (.seat q)).attach n (.ceiling c a)
    | .attached (.ceiling d b) _ => if d = c then s.attach n (.ceiling c a) else s.beginMove n d b (.ceiling c a)
    | .moving target f b deadline hold =>
      if f = c then s.cancelMove n (.ceiling c a)
      else if target.onLink c then s.onRecord n fun y => { y with st := .moving (.ceiling c a) f b deadline hold }
      else s.retarget n (.ceiling c a)

/-- A hand-over clears the number, and then the client takes it. -/
theorem State.handOver_eq (s : State) (x : Addr) (c : LinkNo) (a : AssocNo) :
    s.handOver x c a = (s.clearNumber x c a).takeNumber x c a := by
  unfold State.handOver State.clearNumber
  cases s.displaced x c a <;> rfl

/-- What entering a state writes of a port (R170, R174, R187). -/
def Backbone.entering (b : Backbone) (old new : CouplingState) : Backbone :=
  { b with
    state := new
    page := if new = .decoupled then some 100 else if old = .decoupled then some 10 else b.page
    counts := { b.counts with
      faultsEntered := if new = .faulted then bump b.counts.faultsEntered else b.counts.faultsEntered
      silences := if new = .decoupled then bump b.counts.silences else b.counts.silences
      couplings := if new = .coupled then bump b.counts.couplings else b.counts.couplings } }

/-! ### What deriving a port's state again does -/

/-- A relation that holds of what a change of coupling state does beside the port's own items. -/
structure CouplingClosed (R : State → State → Prop) : Prop where
  trans : ∀ {s t u}, R s t → R t u → R s u
  quiet : ∀ {s t}, t.outline = s.outline → R s t
  discardQueue : ∀ s port, R s (s.discardQueue port)
  compose : ∀ s side reset frame, R s (s.compose side reset frame).1
  enterHold : ∀ s, R s s.enterHold
  filterStations : ∀ s (p : Station → Bool), R s (s.onMe fun m => { m with stations := m.stations.filter p })

namespace CouplingClosed

variable {R : State → State → Prop} (C : CouplingClosed R)

include C

theorem refl (s : State) : R s s := C.quiet rfl

theorem after {s t u : State} (h : R s t) (hq : u.outline = t.outline) : R s u := C.trans h (C.quiet hq)

theorem before {s t u : State} (h : R t u) (hq : t.outline = s.outline) : R s u := C.trans (C.quiet hq) h

theorem foldl {α : Type} {f : State → α → State} (h : ∀ t a, R t (f t a)) (l : List α) (s : State) : R s (l.foldl f s) := by
  induction l generalizing s with
  | nil => exact C.refl s
  | cons a l ih => exact C.trans (h s a) (ih (f s a))

/-- R181: a coupled-set change is made of these. -/
theorem coupledSetChange (s : State) : R s s.coupledSetChange := by
  have hnotice : ∀ (t : State) (st : Station), R t (t.sendNotice true st) := fun t st =>
    C.after (C.compose t st.side false (noticeFrame st true)) (by simp [State.sendNotice])
  unfold State.coupledSetChange
  refine C.trans ?_ (by simpa using C.filterStations _ fun _ => false)
  refine C.trans ?_ (C.foldl hnotice _ _)
  refine C.before (C.enterHold _) ?_
  exact State.onCu_outline _ _ (by exact fun _ => rfl) (by exact fun _ => rfl)

/-- What entering a state does beside the port's own items is made of these. -/
theorem enterCoupling (s : State) (side : Side) (old new : CouplingState) :
    R (s.onSide side fun b => b.entering old new) (s.enterCoupling side old new) := by
  unfold State.enterCoupling
  extract_lets s1 s2 s3
  have h2 : R s1 s2 := by
    unfold s2
    split
    · exact C.quiet (State.onEv_outline _ _ (by exact fun _ => rfl))
    · exact C.refl s1
  have h3 : R s2 s3 := by
    unfold s3
    split
    · exact C.quiet (State.raise_outline _ _)
    · exact C.refl s2
  split
  · exact C.trans (C.trans h2 h3) (C.discardQueue _ _)
  · exact C.trans h2 h3

/-- R170 to R175: a port's state derived again, with all that a coupled-set change brings. -/
theorem rederive (onSide : ∀ (s : State) side f, R s (s.onSide side f)) (s : State) (side : Side) : R s (s.rederive side) := by
  have henter := C.trans (onSide s side _) (C.enterCoupling s side (s.side side).state (s.side side).derive)
  unfold State.rederive
  dsimp only
  (repeat' split)
  · exact C.refl s
  · exact C.trans henter (C.coupledSetChange _)
  · exact henter

end CouplingClosed

/-! ### Relations that every elementary update keeps -/

/-- A relation that holds of each elementary update by itself. -/
structure FineClosed (R : State → State → Prop) : Prop where
  trans : ∀ {s t u}, R s t → R t u → R s u
  quiet : ∀ {s t}, t.outline = s.outline → R s t
  setQueue : ∀ (s : State) port q, R s (s.setQueue port q)
  claim : ∀ {s s1 : State} {reserve origin reset frame k}, s.claim reserve origin reset frame = some (k, s1) → R s s1
  addRef : ∀ (s : State) k, R s (s.addRef k)
  freeSlot : ∀ (s : State) k, R s (s.freeSlot k)
  dropRef : ∀ (s : State) k, R s (s.dropRef k)
  onRecord : ∀ (s : State) n f, R s (s.onRecord n f)
  delRecord : ∀ (s : State) n, R s (s.delRecord n)
  mapRecords : ∀ (s : State) (f : Record → Record),
    R s (s.onCt fun b => { b with records := b.records.map fun e => (e.1, f e.2) })
  obtained : ∀ (s : State) {n reclaimed} r, s.obtain = some (n, reclaimed) → R s (s.putRecord n r)
  onSau : ∀ (s : State) f, R s (s.onSau f)
  insertDeferral : ∀ s x, s.isDeferred x = false → R s (s.insertDeferral x)
  removeDeferral : ∀ s x, R s (s.removeDeferral x)
  filterEntitlements : ∀ s (p : Entitlement → Bool), R s (s.onEl fun b => { b with entries := b.entries.filter p })
  putEntitlement : ∀ s e, s.entryOf e.addr ≠ none ∨ s.el.entries.length < 256 →
    R s (s.onEl fun b => { b with entries := putEntitlement e b.entries })
  filterStations : ∀ s (p : Station → Bool), R s (s.onMe fun m => { m with stations := m.stations.filter p })
  enrol : ∀ s r wanted threshold, ¬ (wanted.isEmpty = true ∧ s.stationAt r.station = none) → s.heldByOthers r.station wanted = [] →
    s.stationAt r.station ≠ none ∨ s.me.stations.length < 4 →
    R s (s.onMe fun m => { m with stations := putStation (s.enrolled r wanted threshold) m.stations })
  reduceRoles : ∀ s x named, ((s.rolesHeld x).minus named).isEmpty = false →
    R s (s.onStation x fun st => { st with roles := (s.rolesHeld x).minus named })

namespace FineClosed

variable {R : State → State → Prop} (F : FineClosed R)

include F

theorem refl (s : State) : R s s := F.quiet rfl

theorem after {s t u : State} (h : R s t) (hq : u.outline = t.outline) : R s u := F.trans h (F.quiet hq)

theorem before {s t u : State} (h : R t u) (hq : t.outline = s.outline) : R s u := F.trans (F.quiet hq) h

theorem foldl {α : Type} {f : State → α → State} (h : ∀ t a, R t (f t a)) (l : List α) (s : State) : R s (l.foldl f s) := by
  induction l generalizing s with
  | nil => exact F.refl s
  | cons a l ih => exact F.trans (h s a) (ih (f s a))

/-! ### The Frame Store -/

theorem settle (s : State) (k : Nat) : R s (s.settle k) := by
  unfold State.settle
  (repeat' split)
  · exact F.refl s
  · exact F.freeSlot s k
  · exact F.refl s

theorem offer (s : State) (port : Port) (e : Entry) (looped : Bool) : R s (s.offer port e looped).1 := by
  unfold State.offer
  split
  · exact F.quiet (s.countPort_outline port _)
  · exact F.after (F.setQueue s port _) (State.beginTransmission_outline _ port)

theorem append (s : State) (port : Port) (e : Entry) (looped : Bool) : R s (s.append port e looped).1 := by
  unfold State.append
  dsimp only
  split
  · exact F.trans (F.offer s port e looped) (F.addRef _ _)
  · exact F.offer s port e looped

theorem discardQueue (s : State) (port : Port) : R s (s.discardQueue port) := by
  unfold State.discardQueue
  refine F.trans ?_ (F.quiet (State.releaseWaiting_outline _ port))
  exact F.trans (F.setQueue s port _) (F.foldl (fun t (e : Entry) => F.dropRef t e.slot) _ _)

theorem completeTransmission (s : State) (port : Port) : R s (s.completeTransmission port) := by
  have hsent : ∀ (q : Egress) (o : Output) k,
      R s ((((s.setQueue port q).emit o).dropRef k).releaseWaiting port |>.beginTransmission port) := fun q o k => by
    refine F.after ?_ ((State.beginTransmission_outline _ port).trans (State.releaseWaiting_outline _ port))
    exact F.trans (F.after (F.setQueue s port q) (State.emit_outline _ o)) (F.dropRef _ k)
  unfold State.completeTransmission
  dsimp only
  split
  · split
    · exact F.after (hsent _ _ _) (State.onSeat_outline _ _ _)
    · exact hsent _ _ _
  · exact F.refl s

/-! ### Shares -/

theorem discardParked (s : State) (parked : List Nat) : R s (s.discardParked parked) := by
  unfold State.discardParked
  refine F.foldl (fun t k => ?_) parked s
  exact F.after (F.dropRef t k) (State.countSau_outline _ _)

theorem clearParked (s : State) (n : Nat) : R s (s.clearParked n) := by
  unfold State.clearParked
  split
  · exact F.refl s
  · exact F.trans (F.trans (F.discardParked s _) (F.onRecord _ n _)) (F.onSau _ _)

theorem park (s : State) (slot n : Nat) (r : Record) : R s (s.park slot n r) := by
  unfold State.park
  dsimp only
  (repeat' split)
  · exact F.trans (F.after (F.trans (F.addRef s slot) (F.onRecord _ n _)) (State.countSau_outline _ _)) (F.onSau _ _)
  · exact F.after (F.trans (F.addRef s slot) (F.onRecord _ n _)) (State.countSau_outline _ _)
  · exact F.trans (F.trans (F.after (F.onRecord s n _) (State.countSau_outline _ _)) (F.onSau _ _)) (F.settle _ slot)

theorem charge (s : State) (slot n : Nat) (r : Record) (g : Grant) : R s (s.charge slot n r g) := by
  have hrefused : R s (((s.append (.backbone g.gateway) { slot := slot } false).1.countSau fun c =>
      { c with gatewayFullDrops := bump c.gatewayFullDrops }).settle slot) :=
    F.trans (F.after (F.append s _ _ _) (State.countSau_outline _ _)) (F.settle _ slot)
  unfold State.charge
  dsimp only
  (repeat' split)
  · exact F.after (F.append s _ _ _) (State.countSau_outline _ _)
  · exact hrefused
  · exact F.park s slot n r
  · exact F.after (F.trans (F.trans (F.append s _ _ _) (F.onRecord _ n _)) (F.onSau _ _)) (State.countSau_outline _ _)
  · exact hrefused
  · exact F.park s slot n r

theorem submit (s : State) (slot n : Nat) : R s (s.submit slot n) := by
  unfold State.submit
  (repeat' split)
  · exact F.before (F.settle _ slot) (s.countSau_outline _)
  · exact F.settle s slot
  · exact F.charge s slot n _ _

theorem moveParked (s : State) (g : Grant) (k : Nat) : R s (s.moveParked g k).1 := by
  unfold State.moveParked
  dsimp only
  split
  · exact F.offer s _ _ _
  · exact F.after (F.trans (F.offer s _ _ _) (F.dropRef _ k)) (State.countSau_outline _ _)

theorem releaseFrames (g : Grant) (n : Nat) (parked : List Nat) (s : State) : R s (s.releaseFrames g n parked).1 := by
  induction parked generalizing s with
  | nil => exact F.refl s
  | cons k rest ih =>
    unfold State.releaseFrames
    dsimp only
    (repeat' split)
    · refine F.trans ?_ (ih _)
      exact F.after (F.trans (F.trans (F.moveParked s g k) (F.onRecord _ n _)) (F.onSau _ _)) (State.countSau_outline _ _)
    · exact F.trans (F.moveParked s g k) (ih _)
    · exact F.refl s

theorem releaseRecord (s : State) (g : Grant) (cls : Class) (n : Nat) : R s (s.releaseRecord g cls n) := by
  unfold State.releaseRecord
  dsimp only
  (repeat' split)
  · exact F.refl s
  · exact F.trans (F.trans (F.releaseFrames g n _ s) (F.onRecord _ n _)) (F.onSau _ _)
  · exact F.trans (F.releaseFrames g n _ s) (F.onRecord _ n _)
  · exact F.refl s

theorem releasePass (s : State) (g : Grant) : R s (s.releasePass g) :=
  F.foldl (fun t cls => F.foldl (fun u n => F.releaseRecord u g cls n) _ t) _ s

theorem serviceRelease (s : State) (n : Nat) : R s (s.serviceRelease n) := by
  unfold State.serviceRelease
  split
  · refine F.trans (F.trans (F.foldl (fun t k => ?_) _ s) (F.onRecord _ n _)) (F.onSau _ _)
    dsimp only
    split
    · exact F.after (F.moveParked t _ k) (State.countSau_outline _ _)
    · exact F.moveParked t _ k
  · exact F.refl s

theorem enterHold (s : State) : R s s.enterHold := by
  unfold State.enterHold
  have h1 := F.foldl (fun t (e : Nat × Record) => F.discardParked t e.2.parked) s.ct.records s
  have h2 := F.trans h1 (F.mapRecords _ fun r => { r with parked := [], credit := 0 })
  exact F.after (F.trans h2 (F.onSau _ _)) (State.countSau_outline _ _)

/-! ### Clients -/

theorem attach (s : State) (n : Nat) (pl : Place) : R s (s.attach n pl) := F.onRecord s n _

theorem discardHold (s : State) (hold : List Nat) : R s (s.discardHold hold) := by
  unfold State.discardHold
  refine F.foldl (fun t k => ?_) hold s
  exact F.after (F.dropRef t k) (State.countMc_outline _ _)

theorem leaveSeat (s : State) (pl : Option Place) : R s (s.leaveSeat pl) := by
  unfold State.leaveSeat
  split
  · exact F.discardQueue s _
  · exact F.refl s

theorem enterLingering (s : State) (n : Nat) : R s (s.enterLingering n) := by
  unfold State.enterLingering
  (repeat' split)
  · exact F.refl s
  · exact F.refl s
  · exact F.trans (F.trans (F.onRecord s n _) (F.leaveSeat _ _)) (F.clearParked _ n)
  · refine F.trans ?_ (F.quiet (State.countMc_outline _ _))
    exact F.trans (F.trans (F.trans (F.onRecord s n _) (F.leaveSeat _ _)) (F.clearParked _ n)) (F.discardHold _ _)

theorem vacate (s : State) (n : Nat) : R s (s.vacate n) := by
  unfold State.vacate
  split
  · exact F.refl s
  · exact F.trans (F.trans (F.trans (F.leaveSeat s _) (F.clearParked _ n)) (F.discardHold _ _)) (F.delRecord _ n)

theorem flush (s : State) (pl : Place) (hold : List Nat) : R s (s.flush pl hold) := by
  unfold State.flush
  refine F.foldl (fun t k => ?_) hold s
  dsimp only
  split
  · exact F.offer t _ _ _
  · exact F.after (F.trans (F.offer t _ _ _) (F.dropRef _ k)) (State.countMc_outline _ _)

theorem completeMove (s : State) (n : Nat) (count : McCounters → McCounters) : R s (s.completeMove n count) := by
  unfold State.completeMove
  (repeat' split)
  · exact F.refl s
  · exact F.after (F.trans (F.flush s _ _) (F.attach _ n _)) (State.countMc_outline _ _)
  · exact F.refl s

theorem beginMove (s : State) (n : Nat) (c : LinkNo) (a : AssocNo) (target : Place) : R s (s.beginMove n c a target) := by
  have hsupersede : R s (s.supersede c a) := by
    unfold State.supersede
    split
    · exact F.refl s
    · exact F.completeMove s _ _
  unfold State.beginMove
  refine F.trans ?_ (F.quiet (State.countMc_outline _ _))
  exact F.trans (F.after (F.trans hsupersede (F.onRecord _ n _)) (State.sendRadio_outline _ c _)) (F.onRecord _ n _)

theorem abandonTarget (s : State) (pl : Place) : R s (s.abandonTarget pl) := by
  unfold State.abandonTarget
  split
  · exact F.discardQueue s _
  · exact F.quiet (s.sendRadio_outline _ _)

theorem retarget (s : State) (n : Nat) (target : Place) : R s (s.retarget n target) := by
  unfold State.retarget
  (repeat' split)
  · exact F.refl s
  · exact F.after (F.trans (F.abandonTarget s _) (F.onRecord _ n _)) (State.countMc_outline _ _)
  · exact F.refl s

theorem cancelMove (s : State) (n : Nat) (place : Place) : R s (s.cancelMove n place) := by
  unfold State.cancelMove
  (repeat' split)
  · exact F.refl s
  · exact F.after (F.trans (F.trans (F.abandonTarget s _) (F.attach _ n _)) (F.flush _ _ _)) (State.countMc_outline _ _)
  · exact F.refl s

theorem clearSeat (s : State) (p : SeatNo) (n : Option Nat) : R s (s.clearSeat p n) := by
  unfold State.clearSeat
  (repeat' split)
  · exact F.refl s
  · exact F.refl s
  · exact F.enterLingering s _

theorem create {s t : State} {x : Addr} {pl : Place} {n : Nat} (h : s.create x pl = some (n, t)) : R s t := by
  simp only [State.create, Option.map_eq_some_iff, Prod.mk.injEq] at h
  obtain ⟨⟨m, reclaimed⟩, hobtain, rfl, rfl⟩ := h
  exact F.after (F.obtained s _ hobtain) (State.countCt_outline _ _)

theorem learnSeat (s : State) (p : SeatNo) (x : Addr) : R s (s.learnSeat p x).1 := by
  unfold State.learnSeat
  split
  · dsimp only
    split
    · next hcreate => exact F.trans (F.clearSeat s p none) (F.create hcreate)
    · exact F.after (F.clearSeat s p none) (by simp)
  · split
    · split
      · exact F.attach s _ _
      · exact F.trans (F.trans (F.clearSeat s p _) (F.discardQueue _ _)) (F.attach _ _ _)
    · exact F.trans (F.clearSeat s p _) (F.beginMove _ _ _ _ _)
    · split
      · exact F.refl s
      · exact F.trans (F.clearSeat s p _) (F.retarget _ _ _)
    · exact F.trans (F.clearSeat s p _) (F.attach _ _ _)

theorem clearNumber (s : State) (x : Addr) (c : LinkNo) (a : AssocNo) : R s (s.clearNumber x c a) := by
  unfold State.clearNumber
  cases s.displaced x c a with
  | none => exact F.refl s
  | some m => exact F.enterLingering s m

theorem handOver (s : State) (x : Addr) (c : LinkNo) (a : AssocNo) : R s (s.handOver x c a) := by
  rw [State.handOver_eq]
  refine F.trans (F.clearNumber s x c a) ?_
  generalize s.clearNumber x c a = s1
  unfold State.takeNumber
  split
  · split
    · next hcreate => exact F.create hcreate
    · exact F.refl s1
  · split
    · exact F.attach s1 _ _
    · exact F.trans (F.discardQueue s1 _) (F.attach _ _ _)
    · split
      · exact F.attach s1 _ _
      · exact F.beginMove s1 _ _ _ _
    · (repeat' split)
      · exact F.cancelMove s1 _ _
      · exact F.onRecord s1 _ _
      · exact F.retarget s1 _ _

theorem setClass (s : State) (n : Nat) (new : Class) : R s (s.setClass n new) := by
  unfold State.setClass
  dsimp only
  (repeat' split)
  · exact F.refl s
  · exact F.refl s
  · exact F.trans (F.onRecord s n _) (F.serviceRelease _ n)
  · exact F.onRecord s n _

/-! ### Arrivals -/

theorem compose (s : State) (side : Side) (reset : Bool) (frame : State → Bytes) : R s (s.compose side reset frame).1 := by
  unfold State.compose
  split
  · exact F.quiet (s.loseComposed_outline reset)
  · next hclaim =>
    dsimp only
    split
    · exact F.trans (F.claim hclaim) (F.append _ _ _ _)
    · exact F.after (F.trans (F.trans (F.claim hclaim) (F.append _ _ _ _)) (F.freeSlot _ _)) (State.loseComposed_outline _ _)

theorem loopFrame (s : State) (p : SeatNo) (frame : Bytes) : R s (s.loopFrame p frame) := by
  unfold State.loopFrame
  split
  · exact F.quiet s.clientNoSlot_outline
  · next hclaim =>
    dsimp only
    split
    · exact F.after (F.trans (F.claim hclaim) (F.append _ _ _ _)) (State.countSeat_outline _ _ _)
    · exact F.trans (F.trans (F.claim hclaim) (F.append _ _ _ _)) (F.settle _ _)

theorem learnAndSubmit (s : State) (p : SeatNo) (frame : Bytes) : R s (s.learnAndSubmit p frame) := by
  unfold State.learnAndSubmit
  split
  · exact F.quiet s.clientNoSlot_outline
  · next hclaim =>
    have h := F.trans (F.after (F.claim hclaim) (State.countSeat_outline _ p fun c => { c with accepted := bump c.accepted }))
      (F.learnSeat _ p (frameSrc frame))
    dsimp only
    split
    · exact F.trans h (F.submit _ _ _)
    · exact F.trans h (F.settle _ _)

theorem acceptData (s : State) (c : LinkNo) (n : Nat) (attached : Bool) (place : Place) (frame : Bytes) :
    R s (s.acceptData c n attached place frame) := by
  unfold State.acceptData
  split
  · exact F.quiet s.clientNoSlot_outline
  · next hclaim =>
    have h := F.after (F.claim hclaim) (State.countLink_outline _ c fun x => { x with accepted := bump x.accepted })
    dsimp only
    split
    · exact F.trans (F.trans h (F.attach _ n place)) (F.submit _ _ _)
    · exact F.trans h (F.submit _ _ _)

theorem holdFrame (s : State) (n slot : Nat) : R s (s.holdFrame n slot) := by
  unfold State.holdFrame
  (repeat' split)
  · exact F.settle s slot
  · exact F.trans (F.addRef s slot) (F.onRecord _ n _)
  · exact F.before (F.settle _ slot) (s.countMc_outline _)
  · exact F.settle s slot

/-- What every elementary update keeps, every effect keeps, when a port's state derived again keeps it too. -/
theorem closed (rederive : ∀ s side f, R s ((s.onSide side f).rederive side)) : Closed R where
  trans := F.trans
  quiet := F.quiet
  discardQueue := F.discardQueue
  completeTransmission := F.completeTransmission
  enterLingering := F.enterLingering
  vacate := F.vacate
  completeMove := F.completeMove
  setClass := F.setClass
  releasePass := F.releasePass
  enterHold := F.enterHold
  compose := F.compose
  loopFrame := F.loopFrame
  learnAndSubmit := F.learnAndSubmit
  acceptData s c n attached a _ frame _ := F.acceptData s c n attached (.ceiling c a) frame
  handOver := F.handOver
  insertDeferral := F.insertDeferral
  removeDeferral := F.removeDeferral
  filterEntitlements := F.filterEntitlements
  putEntitlement := F.putEntitlement
  filterStations := F.filterStations
  enrol := F.enrol
  reduceRoles := F.reduceRoles
  append s port e _ := F.append s port e false
  holdFrame s n k _ := F.holdFrame s n k
  rederive := rederive

/-- A weaker relation holds of the same updates. -/
theorem mono {S : State → State → Prop} (h : ∀ s t, R s t → S s t) (trans : ∀ {s t u}, S s t → S t u → S s u) : FineClosed S where
  trans := trans
  quiet ho := h _ _ (F.quiet ho)
  setQueue s port q := h _ _ (F.setQueue s port q)
  claim hc := h _ _ (F.claim hc)
  addRef s k := h _ _ (F.addRef s k)
  freeSlot s k := h _ _ (F.freeSlot s k)
  dropRef s k := h _ _ (F.dropRef s k)
  onRecord s n f := h _ _ (F.onRecord s n f)
  delRecord s n := h _ _ (F.delRecord s n)
  mapRecords s f := h _ _ (F.mapRecords s f)
  obtained s _ _ r ho := h _ _ (F.obtained s r ho)
  onSau s f := h _ _ (F.onSau s f)
  insertDeferral s x hx := h _ _ (F.insertDeferral s x hx)
  removeDeferral s x := h _ _ (F.removeDeferral s x)
  filterEntitlements s p := h _ _ (F.filterEntitlements s p)
  putEntitlement s e he := h _ _ (F.putEntitlement s e he)
  filterStations s p := h _ _ (F.filterStations s p)
  enrol s r wanted threshold h1 h2 h3 := h _ _ (F.enrol s r wanted threshold h1 h2 h3)
  reduceRoles s x named hl := h _ _ (F.reduceRoles s x named hl)

theorem coupling : CouplingClosed R where
  trans := F.trans
  quiet := F.quiet
  discardQueue := F.discardQueue
  compose := F.compose
  enterHold := F.enterHold
  filterStations := F.filterStations

theorem settleInHand (s : State) (h : ∀ s : State, R s (s.onEv fun e => { e with inHand := none })) : R s s.settleInHand := by
  unfold State.settleInHand
  split
  · exact F.refl s
  · exact F.trans (F.settle s _) (h _)

end FineClosed

end Sys2Proof.Machine
end

section
/-! SUPPORT and PROOFS. The form of the tables (O57): each table's form as a property of its own, and the elementary updates that
keep it. -/

namespace Sys2Proof.Machine

/-! ### Tables with a bound -/

section Below

variable {α β : Type}

/-- A table in canonical form, its numbers below a bound. -/
def Table.Below (n : Nat) (t : Table α) : Prop := t.wf = true ∧ ∀ e ∈ t, e.1 < n

/-- The form depends on the numbers alone. -/
theorem Table.below_iff {n : Nat} (t : Table α) :
    t.Below n ↔ (t.map Prod.fst).Pairwise (· < ·) ∧ ∀ k ∈ t.map Prod.fst, k < n := by
  simp only [Table.Below, Table.wf_iff, List.mem_map, forall_exists_index, and_imp, forall_apply_eq_imp_iff₂]

theorem Table.below_congr {n : Nat} {t : Table α} {u : Table β} (h : u.map Prod.fst = t.map Prod.fst) (ht : t.Below n) :
    u.Below n := by
  rw [Table.below_iff] at *
  rwa [h]

theorem Table.Below.put {n : Nat} {t : Table α} (h : t.Below n) {k : Nat} (hk : k < n) (v : α) : (t.put k v).Below n := by
  refine ⟨Table.put_wf t k v h.1, fun e he => ?_⟩
  rcases Table.mem_put t k v e he with rfl | he
  · exact hk
  · exact h.2 e he

theorem Table.Below.lt_of_get {n : Nat} {t : Table α} (h : t.Below n) {k : Nat} {v : α} (hv : t.get k = some v) : k < n :=
  h.2 _ (Table.get_mem t k v hv)

theorem Table.Below.del {n : Nat} {t : Table α} (h : t.Below n) (k : Nat) : (t.del k).Below n :=
  ⟨Table.del_wf t k h.1, fun e he => h.2 e (Table.mem_del t k e he)⟩

theorem Table.Below.modify {n : Nat} {t : Table α} (h : t.Below n) (k : Nat) (f : α → α) : (t.modify k f).Below n := by
  unfold Table.modify
  split
  · exact h
  · next v hv => exact h.put (h.lt_of_get hv) _

/-- The lowest free number is not above the number of entries. -/
theorem Table.firstFree_le (t : Table α) (k : Nat) : t.firstFree k ≤ k + t.length := by
  induction t generalizing k with
  | nil => exact le_rfl
  | cons d t ih =>
    unfold Table.firstFree
    have h0 := ih k
    have h1 := ih (k + 1)
    simp only [List.length_cons]
    (repeat' split) <;> omega

end Below

/-! ### Addresses that rise -/

theorem rising_iff (l : List Addr) : rising l ↔ l.Pairwise fun x y => x.toNat < y.toNat := by
  induction l with
  | nil => simp [rising]
  | cons x l ih => simp [rising, ih]

theorem rising.nodup {l : List Addr} (h : rising l) : l.Nodup := by
  rw [rising_iff] at h
  exact h.imp fun hxy heq => absurd (congrArg BitVec.toNat heq) hxy.ne

theorem rising.sublist {l m : List Addr} (h : rising m) (hl : l.Sublist m) : rising l := by
  rw [rising_iff] at *
  exact h.sublist hl

/-! ### Lists in rising order of address -/

section PutBy

variable {α : Type} (key : α → Addr)

/-- An element put among others in rising order of address, replacing the one of its address: what `putStation` and
`putEntitlement` do. -/
def putBy (x : α) : List α → List α
  | [] => [x]
  | d :: rest =>
    if (key x).toNat < (key d).toNat then x :: d :: rest
    else if key x = key d then x :: rest
    else d :: putBy x rest

theorem putStation_eq (st : Station) (l : List Station) : putStation st l = putBy Station.addr st l := by
  induction l with
  | nil => rfl
  | cons d l ih => simp [putStation, putBy, ih]

theorem putEntitlement_eq (e : Entitlement) (l : List Entitlement) : putEntitlement e l = putBy Entitlement.addr e l := by
  induction l with
  | nil => rfl
  | cons d l ih => simp [putEntitlement, putBy, ih]

variable {key}

/-- What stands in the list after an element is put there: it, and those of other addresses. -/
theorem mem_putBy_iff {x a : α} {l : List α} (hl : rising (l.map key)) : a ∈ putBy key x l ↔ a = x ∨ (a ∈ l ∧ key a ≠ key x) := by
  induction l with
  | nil => simp [putBy]
  | cons d l ih =>
    obtain ⟨hd, hrest⟩ := hl
    have hlater : ∀ b ∈ l, (key d).toNat < (key b).toNat := fun b hb => hd _ (List.mem_map_of_mem hb)
    have hne : ∀ b, (key x).toNat < (key b).toNat → key b ≠ key x := fun b hb heq => by rw [heq] at hb; omega
    unfold putBy
    split
    · next hlt =>
      have : ∀ b ∈ d :: l, key b ≠ key x := fun b hb => by
        rcases List.mem_cons.1 hb with rfl | hb
        · exact hne _ hlt
        · exact hne b (hlt.trans (hlater b hb))
      grind
    · split
      · next heq =>
        have : ∀ b ∈ l, key b ≠ key x := fun b hb => hne b (heq ▸ hlater b hb)
        grind
      · next hdx => grind

theorem putBy_rising {x : α} {l : List α} (hl : rising (l.map key)) : rising ((putBy key x l).map key) := by
  induction l with
  | nil => simp [putBy, rising]
  | cons d l ih =>
    obtain ⟨hd, hrest⟩ := hl
    unfold putBy
    split
    · next hlt =>
      refine ⟨fun y hy => ?_, hd, hrest⟩
      rcases List.mem_cons.1 hy with rfl | hy
      · exact hlt
      · exact hlt.trans (hd y hy)
    · split
      · next heq => exact ⟨fun y hy => heq ▸ hd y hy, hrest⟩
      · next hge hne =>
        refine ⟨fun y hy => ?_, ih hrest⟩
        obtain ⟨a, ha, rfl⟩ := List.mem_map.1 hy
        rcases (mem_putBy_iff hrest).1 ha with rfl | ⟨ha, _⟩
        · have : (key a).toNat ≠ (key d).toNat := fun h => hne (BitVec.eq_of_toNat_eq h)
          omega
        · exact hd _ (List.mem_map_of_mem ha)

theorem putBy_length_le (x : α) (l : List α) : (putBy key x l).length ≤ l.length + 1 := by
  induction l with
  | nil => simp [putBy]
  | cons d l ih =>
    unfold putBy
    (repeat' split) <;> simp [ih]

/-- An element that replaces another adds none. -/
theorem putBy_length_eq {x a : α} {l : List α} (hl : rising (l.map key)) (ha : a ∈ l) (hax : key a = key x) :
    (putBy key x l).length = l.length := by
  induction l with
  | nil => simp at ha
  | cons d l ih =>
    obtain ⟨hd, hrest⟩ := hl
    have hle : (key d).toNat ≤ (key x).toNat := by
      rcases List.mem_cons.1 ha with rfl | ha
      · exact hax ▸ le_rfl
      · exact hax ▸ (hd _ (List.mem_map_of_mem ha)).le
    unfold putBy
    split
    · omega
    · split
      · rfl
      · next hne =>
        rcases List.mem_cons.1 ha with rfl | ha
        · exact absurd hax.symm hne
        · simpa using ih hrest ha

end PutBy

/-! ### The form of each table -/

/-- R101: no two entries share an address, and there are at most 256. -/
def EntitledForm (l : List Entitlement) : Prop := rising (l.map Entitlement.addr) ∧ l.length ≤ 256

/-- R192: no two entries share an address, there are at most 4, and each role has at most one holder. -/
def StationsForm (l : List Station) : Prop := rising (l.map Station.addr) ∧ l.length ≤ 4 ∧ rolesUnique l

/-- R161: no two entries share an address, and there are at most 32. -/
def DeferredForm (l : List Deferral) : Prop := (l.map Deferral.addr).Nodup ∧ l.length ≤ 32

/-- The invariant is the form of the five tables. -/
theorem inv_iff (s : State) : Inv s ↔ s.fs.slots.Below 2048 ∧ s.ct.records.Below 512 ∧ EntitledForm s.el.entries
    ∧ StationsForm s.me.stations ∧ DeferredForm s.clb.deferrals := by
  simp only [Inv, Table.Below, EntitledForm, StationsForm, DeferredForm]
  tauto

theorem Inv.slots {s : State} (h : Inv s) : s.fs.slots.Below 2048 := ((inv_iff s).1 h).1
theorem Inv.records {s : State} (h : Inv s) : s.ct.records.Below 512 := ((inv_iff s).1 h).2.1
theorem Inv.entries {s : State} (h : Inv s) : EntitledForm s.el.entries := ((inv_iff s).1 h).2.2.1
theorem Inv.stations {s : State} (h : Inv s) : StationsForm s.me.stations := ((inv_iff s).1 h).2.2.2.1
theorem Inv.deferrals {s : State} (h : Inv s) : DeferredForm s.clb.deferrals := ((inv_iff s).1 h).2.2.2.2

/-- Updates of one block keep the invariant when they keep the form of its table. -/
theorem Inv.onFs {s : State} (h : Inv s) {f : FrameStore → FrameStore} (hf : (f s.fs).slots.Below 2048) : Inv (s.onFs f) :=
  (inv_iff _).2 ⟨hf, h.records, h.entries, h.stations, h.deferrals⟩
theorem Inv.onCt {s : State} (h : Inv s) {f : ClientTable → ClientTable} (hf : (f s.ct).records.Below 512) : Inv (s.onCt f) :=
  (inv_iff _).2 ⟨h.slots, hf, h.entries, h.stations, h.deferrals⟩
theorem Inv.onEl {s : State} (h : Inv s) {f : EntitlementList → EntitlementList} (hf : EntitledForm (f s.el).entries) :
    Inv (s.onEl f) :=
  (inv_iff _).2 ⟨h.slots, h.records, hf, h.stations, h.deferrals⟩
theorem Inv.onMe {s : State} (h : Inv s) {f : Engine → Engine} (hf : StationsForm (f s.me).stations) : Inv (s.onMe f) :=
  (inv_iff _).2 ⟨h.slots, h.records, h.entries, hf, h.deferrals⟩
theorem Inv.onClb {s : State} (h : Inv s) {f : CeilingBlock → CeilingBlock} (hf : DeferredForm (f s.clb).deferrals) :
    Inv (s.onClb f) :=
  (inv_iff _).2 ⟨h.slots, h.records, h.entries, h.stations, hf⟩

/-! ### Stations -/

/-- At most one of the entries, told apart by their addresses, fits. -/
theorem countP_le_one_iff {p : Station → Bool} {l : List Station} (hl : (l.map Station.addr).Nodup) :
    l.countP p ≤ 1 ↔ ∀ a ∈ l, ∀ b ∈ l, p a = true → p b = true → a.addr = b.addr := by
  rw [List.countP_eq_length_filter]
  constructor
  · intro h a ha b hb hpa hpb
    have ha' := List.mem_filter.2 ⟨ha, hpa⟩
    have hb' := List.mem_filter.2 ⟨hb, hpb⟩
    match hf : l.filter p with
    | [] => simp [hf] at ha'
    | [c] => simp_all
    | c :: d :: rest => simp [hf] at h
  · intro h
    have hnodup : ((l.filter p).map Station.addr).Nodup := hl.sublist ((List.filter_sublist (l := l)).map _)
    match hf : l.filter p with
    | [] => simp
    | [c] => simp
    | c :: d :: rest =>
      have hc : c ∈ l.filter p := by simp [hf]
      have hd : d ∈ l.filter p := by simp [hf]
      obtain ⟨hcl, hpc⟩ := List.mem_filter.1 hc
      obtain ⟨hdl, hpd⟩ := List.mem_filter.1 hd
      simp [hf, h c hcl d hdl hpc hpd] at hnodup

theorem Roles.isEmpty_iff (r : Roles) : r.isEmpty = true ↔ r.share = false ∧ r.entitle = false ∧ r.cabinet = false := by
  simp [Roles.isEmpty, and_assoc]

/-- Two role sets share a role exactly when one of the three stands in both. -/
theorem Roles.inter_isEmpty_eq_false_iff (a b : Roles) : (a.inter b).isEmpty = false ↔
    (a.share = true ∧ b.share = true) ∨ (a.entitle = true ∧ b.entitle = true) ∨ (a.cabinet = true ∧ b.cabinet = true) := by
  simp only [← Bool.not_eq_true, Roles.isEmpty_iff, Roles.inter]
  grind

theorem Roles.inter_comm (a b : Roles) : a.inter b = b.inter a := by
  simp [Roles.inter, Bool.and_comm]

theorem Roles.union_isEmpty (a b : Roles) : (a.union b).isEmpty = (a.isEmpty && b.isEmpty) := by
  simp only [Roles.isEmpty, Roles.union, Bool.not_or]
  ac_rfl

theorem Roles.union_inter_isEmpty (a b c : Roles) :
    ((a.union b).inter c).isEmpty = ((a.inter c).isEmpty && (b.inter c).isEmpty) := by
  simp only [Roles.isEmpty, Roles.union, Roles.inter, Bool.and_or_distrib_right, Bool.not_or]
  ac_rfl

theorem rolesUnique_iff {l : List Station} (hl : (l.map Station.addr).Nodup) : rolesUnique l ↔
    (∀ a ∈ l, ∀ b ∈ l, (a.roles.inter b.roles).isEmpty = false → a.addr = b.addr) ∧ ∀ a ∈ l, a.roles.isEmpty = false := by
  simp only [rolesUnique, countP_le_one_iff hl, Roles.inter_isEmpty_eq_false_iff]
  constructor
  · rintro ⟨hs, he, hc, hne⟩
    refine ⟨fun a ha b hb hab => ?_, hne⟩
    rcases hab with ⟨h1, h2⟩ | ⟨h1, h2⟩ | ⟨h1, h2⟩
    · exact hs a ha b hb h1 h2
    · exact he a ha b hb h1 h2
    · exact hc a ha b hb h1 h2
  · rintro ⟨hu, hne⟩
    exact ⟨fun a ha b hb h1 h2 => hu a ha b hb (.inl ⟨h1, h2⟩), fun a ha b hb h1 h2 => hu a ha b hb (.inr (.inl ⟨h1, h2⟩)),
      fun a ha b hb h1 h2 => hu a ha b hb (.inr (.inr ⟨h1, h2⟩)), hne⟩

theorem StationsForm.sublist {l m : List Station} (h : StationsForm m) (hl : l.Sublist m) : StationsForm l := by
  obtain ⟨hr, hlen, hroles⟩ := h
  refine ⟨hr.sublist (hl.map _), hl.length_le.trans hlen, ?_⟩
  rw [rolesUnique_iff (hr.sublist (hl.map _)).nodup]
  rw [rolesUnique_iff hr.nodup] at hroles
  obtain ⟨hu, hne⟩ := hroles
  exact ⟨fun a ha b hb => hu a (hl.subset ha) b (hl.subset hb), fun a ha => hne a (hl.subset ha)⟩

/-- The form of the Station Table depends on the addresses and roles alone. -/
theorem StationsForm.congr {l m : List Station} (h : StationsForm m)
    (he : (l.map fun st => (st.addr, st.roles)) = m.map fun st => (st.addr, st.roles)) : StationsForm l := by
  obtain ⟨hr, hlen, hs, hen, hc, hne⟩ := h
  have haddr : l.map Station.addr = m.map Station.addr := by
    simpa [Function.comp_def] using congrArg (List.map Prod.fst) he
  have hcount : ∀ p : Roles → Bool, (l.countP fun st => p st.roles) = m.countP fun st => p st.roles := fun p => by
    have hp := congrArg (List.countP fun e : Addr × Roles => p e.2) he
    simpa [List.countP_map, Function.comp_def] using hp
  refine ⟨haddr ▸ hr, ?_, ?_, ?_, ?_, fun st hst => ?_⟩
  · have := congrArg List.length haddr
    simp only [List.length_map] at this
    omega
  · rw [hcount Roles.share]; exact hs
  · rw [hcount Roles.entitle]; exact hen
  · rw [hcount Roles.cabinet]; exact hc
  · have : (st.addr, st.roles) ∈ m.map fun st => (st.addr, st.roles) := he ▸ List.mem_map_of_mem hst
    obtain ⟨st', hst', heq⟩ := List.mem_map.1 this
    rw [← (Prod.mk.inj heq).2]
    exact hne st' hst'

theorem State.stationAt_some {s : State} {x : Addr} {st : Station} (h : s.stationAt x = some st) :
    st ∈ s.me.stations ∧ st.addr = x := by
  unfold State.stationAt at h
  exact ⟨List.mem_of_find?_eq_some h, by simpa using List.find?_some h⟩

theorem State.stationAt_eq_none_iff {s : State} {x : Addr} : s.stationAt x = none ↔ ∀ st ∈ s.me.stations, st.addr ≠ x := by
  simp [State.stationAt]

/-- R193: when no other station holds a wanted role, no other entry has one. -/
theorem State.heldByOthers_eq_nil {s : State} {x : Addr} {wanted : Roles} (h : s.heldByOthers x wanted = []) {st : Station}
    (hst : st ∈ s.me.stations) (hx : st.addr ≠ x) : (st.roles.inter wanted).isEmpty = true := by
  have hrole : ∀ role ∈ [({ share := true } : Roles), { entitle := true }, { cabinet := true }],
      (role.inter wanted).isEmpty = true ∨ (st.roles.inter role).isEmpty = true := by
    intro role hr
    have := List.flatMap_eq_nil_iff.1 h role hr
    split at this
    · next he => exact .inl he
    · refine .inr (Bool.eq_true_of_not_eq_false fun hne => ?_)
      have hmem : st ∈ s.me.stations.filter fun st => st.addr != x && !(st.roles.inter role).isEmpty := by
        simp [hst, hx, hne]
      simp only [List.map_eq_nil_iff] at this
      simp [this] at hmem
  simp only [List.mem_cons, List.not_mem_nil, or_false, forall_eq_or_imp, forall_eq, Roles.inter, Roles.isEmpty_iff] at hrole ⊢
  obtain ⟨hshare, hentitle, hcabinet⟩ := hrole
  refine ⟨?_, ?_, ?_⟩
  · clear hentitle hcabinet; grind
  · clear hshare hcabinet; grind
  · clear hshare hentitle; grind

/-- An entry put in the Station Table keeps its form when there is room, and the entry has a role and shares none. -/
theorem StationsForm.put {l : List Station} (h : StationsForm l) {st : Station} (hlen : (putStation st l).length ≤ 4)
    (hrole : st.roles.isEmpty = false) (hother : ∀ b ∈ l, b.addr ≠ st.addr → (st.roles.inter b.roles).isEmpty = true) :
    StationsForm (putStation st l) := by
  obtain ⟨hr, _, hroles⟩ := h
  rw [rolesUnique_iff hr.nodup] at hroles
  obtain ⟨hu, hne⟩ := hroles
  rw [putStation_eq] at hlen ⊢
  refine ⟨putBy_rising hr, hlen, ?_⟩
  rw [rolesUnique_iff (putBy_rising hr).nodup]
  simp only [mem_putBy_iff hr]
  refine ⟨?_, ?_⟩
  · rintro a (rfl | ⟨ha, hax⟩) b (rfl | ⟨hb, hbx⟩) hi
    · rfl
    · simp [hother b hb hbx] at hi
    · rw [Roles.inter_comm] at hi
      simp [hother a ha hax] at hi
    · exact hu a ha b hb hi
  · rintro a (rfl | ⟨ha, _⟩)
    · exact hrole
    · exact hne a ha

/-- R193: the entry that an ENROL writes keeps the form of the Station Table. -/
theorem State.enrolled_form {s : State} (h : StationsForm s.me.stations) {r : Return} {wanted : Roles} {threshold : Nat}
    (hnew : ¬ (wanted.isEmpty = true ∧ s.stationAt r.station = none)) (hheld : s.heldByOthers r.station wanted = [])
    (hroom : s.stationAt r.station ≠ none ∨ s.me.stations.length < 4) :
    StationsForm (putStation (s.enrolled r wanted threshold) s.me.stations) := by
  have hwanted : ∀ b ∈ s.me.stations, b.addr ≠ r.station → (wanted.inter b.roles).isEmpty = true := fun b hb hx =>
    Roles.inter_comm wanted b.roles ▸ s.heldByOthers_eq_nil hheld hb hx
  cases hat : s.stationAt r.station with
  | none =>
    have hput := putBy_length_le (key := Station.addr) (s.enrolled r wanted threshold) s.me.stations
    refine h.put ?_ ?_ ?_
    · rw [putStation_eq]
      have : s.me.stations.length < 4 := by simpa [hat] using hroom
      omega
    · simpa [State.enrolled, hat] using hnew
    · simpa [State.enrolled, hat] using hwanted
  | some st =>
    obtain ⟨hmem, haddr⟩ := s.stationAt_some hat
    obtain ⟨hr, hlen, hroles⟩ := id h
    obtain ⟨hu, hne⟩ := (rolesUnique_iff hr.nodup).1 hroles
    refine h.put ?_ ?_ ?_
    · rw [putStation_eq, putBy_length_eq hr hmem (by simp [State.enrolled, hat])]
      exact hlen
    · simp only [State.enrolled, hat, Roles.union_isEmpty, hne st hmem, Bool.false_and]
    · simp only [State.enrolled, hat, Roles.union_inter_isEmpty, Bool.and_eq_true]
      refine fun b hb hx => ⟨?_, hwanted b hb (haddr ▸ hx)⟩
      by_contra hi
      exact hx (hu st hmem b hb (by simpa using hi)).symm

/-- Entries that keep their addresses and gain no role, each left with one, keep the form of the Station Table. -/
theorem StationsForm.map {l : List Station} (h : StationsForm l) {f : Station → Station} (haddr : ∀ st, (f st).addr = st.addr)
    (hless : ∀ st ∈ l, ∀ b, ((f st).roles.inter b).isEmpty = false → (st.roles.inter b).isEmpty = false)
    (hrole : ∀ st ∈ l, (f st).roles.isEmpty = false) : StationsForm (l.map f) := by
  obtain ⟨hr, hlen, hroles⟩ := h
  obtain ⟨hu, _⟩ := (rolesUnique_iff hr.nodup).1 hroles
  have hkeys : (l.map f).map Station.addr = l.map Station.addr := by simp [haddr]
  refine ⟨hkeys.symm ▸ hr, by simpa using hlen, (rolesUnique_iff (hkeys.symm ▸ hr.nodup)).2 ⟨?_, ?_⟩⟩
  · simp only [List.mem_map, forall_exists_index, and_imp, forall_apply_eq_imp_iff₂, haddr]
    intro a ha b hb hab
    have h1 := hless a ha _ hab
    rw [Roles.inter_comm] at h1
    have h2 := hless b hb _ h1
    rw [Roles.inter_comm] at h2
    exact hu a ha b hb h2
  · simpa using hrole

/-- R194: an entry left with some of its roles keeps the form of the Station Table. -/
theorem State.reduced_form {s : State} (h : StationsForm s.me.stations) {x : Addr} {named : Roles}
    (hleft : ((s.rolesHeld x).minus named).isEmpty = false) :
    StationsForm (State.onStation s x fun st => { st with roles := (s.rolesHeld x).minus named }).me.stations := by
  obtain ⟨hr, _, hroles⟩ := id h
  obtain ⟨_, hne⟩ := (rolesUnique_iff hr.nodup).1 hroles
  have hheld : ∀ st ∈ s.me.stations, st.addr = x → s.rolesHeld x = st.roles := fun st hst hx => by
    cases hat : s.stationAt x with
    | none => exact absurd hx (State.stationAt_eq_none_iff.1 hat st hst)
    | some st' =>
      obtain ⟨hmem', haddr'⟩ := s.stationAt_some hat
      have : st' = st := List.inj_on_of_nodup_map hr.nodup hmem' hst (haddr'.trans hx.symm)
      simp [State.rolesHeld, hat, this]
  refine h.map (fun st => by split <;> rfl) (fun st hst b hb => ?_) fun st hst => ?_
  · split at hb
    · next hx =>
      rw [hheld st hst hx] at hb
      simp only [Roles.inter_isEmpty_eq_false_iff, Roles.minus] at hb ⊢
      grind
    · exact hb
  · split
    · exact hleft
    · exact hne st hst

/-! ### Every elementary update keeps the form -/

theorem State.claim_eq {s s1 : State} {reserve k : Nat} {origin : Origin} {reset : Bool} {frame : State → Bytes}
    (h : s.claim reserve origin reset frame = some (k, s1)) : reserve < s.freeSlots ∧ k = s.fs.slots.firstFree 0
    ∧ s1 = (s.lowWater (s.freeSlots - 1)).onFs fun b =>
        { b with
          slots := b.slots.put k
            { frame := frame (s.lowWater (s.freeSlots - 1)), origin := origin, refs := 0, resetResponse := reset } } := by
  unfold State.claim at h
  split at h
  · cases h
  · next hfree =>
    obtain ⟨rfl, rfl⟩ := Prod.mk.inj (Option.some.inj h)
    exact ⟨by omega, rfl, rfl⟩

/-- R4: a record is obtained at a number of the table. -/
theorem State.obtain_lt {s : State} (h : s.ct.records.Below 512) {n : Nat} {reclaimed : Bool}
    (ho : s.obtain = some (n, reclaimed)) : n < 512 := by
  unfold State.obtain at ho
  dsimp only at ho
  split at ho
  · next hlt => exact (Prod.mk.inj (Option.some.inj ho)).1 ▸ hlt
  · obtain ⟨⟨m, left⟩, hleast, heq⟩ := Option.map_eq_some_iff.1 ho
    obtain ⟨⟨r, hr, _⟩, _⟩ := leastLingering_least _ _ _ hleast
    exact (Prod.mk.inj heq).1 ▸ h.2 _ hr

/-- Two states of one outline have the same form. -/
theorem Inv.of_outline {s t : State} (ho : t.outline = s.outline) (h : Inv s) : Inv t := by
  obtain ⟨hslots, _, hrecords, _, hentries, hstations, hdeferrals, _, _⟩ := State.outline_eq_iff.1 ho
  refine (inv_iff t).2 ⟨hslots ▸ h.slots, ?_, ⟨hentries ▸ h.entries.1, ?_⟩, h.stations.congr hstations, hdeferrals ▸ h.deferrals.1, ?_⟩
  · refine Table.below_congr ?_ h.records
    simpa [Function.comp_def] using congrArg (List.map Prod.fst) hrecords
  · have := congrArg List.length hentries
    simp only [List.length_map] at this
    exact this ▸ h.entries.2
  · have := congrArg List.length hdeferrals
    simp only [List.length_map] at this
    exact this ▸ h.deferrals.2

theorem Inv.freeSlot {s : State} (h : Inv s) (k : Nat) : Inv (s.freeSlot k) := by
  unfold State.freeSlot
  dsimp only
  split
  · exact (h.onFs (h.slots.del k)).onFs (h.slots.del k)
  · exact h.onFs (h.slots.del k)

theorem Inv.dropRef {s : State} (h : Inv s) (k : Nat) : Inv (s.dropRef k) := by
  unfold State.dropRef
  split
  · exact h
  · next x hx =>
    split
    · exact (h.freeSlot k).of_outline (State.onEv_outline _ _ (by exact fun _ => rfl))
    · exact h.onFs (h.slots.put (h.slots.lt_of_get hx) _)

theorem Inv.setQueue {s : State} (h : Inv s) (port : Port) (q : Egress) : Inv (s.setQueue port q) :=
  (inv_iff _).2 ⟨(s.setQueue_slots port q).symm ▸ h.slots, h.records, h.entries, h.stations, h.deferrals⟩

theorem Inv.claim {s s1 : State} (h : Inv s) {reserve k : Nat} {origin : Origin} {reset : Bool} {frame : State → Bytes}
    (hc : s.claim reserve origin reset frame = some (k, s1)) : Inv s1 := by
  obtain ⟨hfree, rfl, rfl⟩ := State.claim_eq hc
  have hlow : Inv (s.lowWater (s.freeSlots - 1)) := h.of_outline (s.lowWater_outline _)
  have := s.fs.slots.firstFree_le 0
  refine hlow.onFs (hlow.slots.put ?_ _)
  unfold State.freeSlots at hfree
  omega

theorem Inv.mapRecords {s : State} (h : Inv s) (f : Record → Record) :
    Inv (s.onCt fun b => { b with records := b.records.map fun e => (e.1, f e.2) }) :=
  h.onCt (Table.below_congr (by simp only [List.map_map]; rfl) h.records)

theorem Inv.insertDeferral {s : State} (h : Inv s) {x : Addr} (hx : s.isDeferred x = false) : Inv (s.insertDeferral x) := by
  obtain ⟨hnodup, hlen⟩ := h.deferrals
  have hnot : x ∉ s.clb.deferrals.map Deferral.addr := by simpa [State.isDeferred] using hx
  unfold State.insertDeferral
  apply h.onClb
  dsimp only
  split
  · next hlt =>
    refine ⟨?_, by simpa using hlt⟩
    simp only [List.map_append, List.map_cons, List.map_nil]
    exact List.nodup_append.2 ⟨hnodup, List.nodup_singleton x, fun d hd y hy heq =>
      hnot (List.mem_singleton.1 hy ▸ heq ▸ hd)⟩
  · next hge =>
    refine ⟨?_, by simp only [List.length_append, List.length_drop, List.length_singleton]; omega⟩
    simp only [List.map_append, List.map_cons, List.map_nil, List.map_drop]
    exact List.nodup_append.2 ⟨hnodup.sublist (List.drop_sublist _ _), List.nodup_singleton x, fun d hd y hy heq =>
      hnot (List.mem_singleton.1 hy ▸ heq ▸ List.mem_of_mem_drop hd)⟩

theorem Inv.filterEntitlements {s : State} (h : Inv s) (p : Entitlement → Bool) :
    Inv (s.onEl fun b => { b with entries := b.entries.filter p }) :=
  h.onEl ⟨h.entries.1.sublist (List.filter_sublist.map _), (List.length_filter_le _ _).trans h.entries.2⟩

theorem Inv.putEntitlement {s : State} (h : Inv s) {e : Entitlement}
    (hroom : s.entryOf e.addr ≠ none ∨ s.el.entries.length < 256) :
    Inv (s.onEl fun b => { b with entries := Machine.putEntitlement e b.entries }) := by
  obtain ⟨hr, hlen⟩ := h.entries
  refine h.onEl ?_
  simp only [putEntitlement_eq]
  refine ⟨putBy_rising hr, ?_⟩
  rcases hroom with hold | hlt
  · obtain ⟨d, hd⟩ := Option.ne_none_iff_exists'.1 hold
    unfold State.entryOf at hd
    rw [putBy_length_eq hr (List.mem_of_find?_eq_some hd) (by simpa using List.find?_some hd)]
    exact hlen
  · have := putBy_length_le (key := Entitlement.addr) e s.el.entries
    omega

/-- Every elementary update keeps the invariant. -/
theorem inv_fineClosed : FineClosed fun s t => Inv s → Inv t where
  trans h1 h2 h := h2 (h1 h)
  quiet ho h := h.of_outline ho
  setQueue _ port q h := h.setQueue port q
  claim hc h := h.claim hc
  addRef _ k h := h.onFs (h.slots.modify k _)
  freeSlot _ k h := h.freeSlot k
  dropRef _ k h := h.dropRef k
  onRecord _ n f h := h.onCt (h.records.modify n f)
  delRecord _ n h := h.onCt (h.records.del n)
  mapRecords _ f h := h.mapRecords f
  obtained _ _ _ r ho h := h.onCt (h.records.put (State.obtain_lt h.records ho) r)
  onSau s f h := (inv_iff (s.onSau f)).2 ((inv_iff s).1 h)
  insertDeferral _ _ hx h := h.insertDeferral hx
  removeDeferral _ _ h := h.onClb ⟨h.deferrals.1.sublist (List.filter_sublist.map _),
    (List.length_filter_le _ _).trans h.deferrals.2⟩
  filterEntitlements _ p h := h.filterEntitlements p
  putEntitlement _ _ hroom h := h.putEntitlement hroom
  filterStations _ _ h := h.onMe (h.stations.sublist List.filter_sublist)
  enrol _ _ _ _ hnew hheld hroom h := h.onMe (State.enrolled_form h.stations hnew hheld hroom)
  reduceRoles _ _ _ hleft h := h.onMe (State.reduced_form h.stations hleft)

theorem Inv.onSide {s : State} (h : Inv s) (side : Side) (f : Backbone → Backbone) : Inv (s.onSide side f) :=
  (inv_iff (s.onSide side f)).2 ((inv_iff s).1 h)

/-- Every effect keeps the invariant. -/
theorem inv_closed : Closed fun s t => Inv s → Inv t :=
  inv_fineClosed.closed fun _ side f h =>
    inv_fineClosed.coupling.rederive (fun _ side f h => h.onSide side f) _ side (h.onSide side f)

theorem Inv.onEv {s : State} (h : Inv s) (f : EventLog → EventLog) : Inv (s.onEv f) :=
  (inv_iff (s.onEv f)).2 ((inv_iff s).1 h)

/-- Right after a reset every table is empty. -/
theorem inv_of_empty {s : State} (hfs : s.fs = {}) (hct : s.ct = {}) (hel : s.el = {}) (hme : s.me = {}) (hclb : s.clb.deferrals = []) :
    Inv s := by
  refine (inv_iff s).2 ⟨?_, ?_, ?_, ?_, ?_⟩
  · rw [hfs]; exact ⟨rfl, by simp⟩
  · rw [hct]; exact ⟨rfl, by simp⟩
  · rw [hel]; exact ⟨trivial, by simp⟩
  · rw [hme]; exact ⟨trivial, by simp, by simp [rolesUnique]⟩
  · rw [hclb]; exact ⟨by simp, by simp⟩

/-- The invariant is kept by everything a step is made of. -/
theorem inv_keptBySteps : KeptBySteps Inv Inv :=
  inv_closed.keptBySteps (fun h => h) (fun h => h) (fun s h => (inv_iff s.beginEvent).2 ((inv_iff s).1 h)) (fun _ h _ => h)
    (fun h _ hc => (h.claim hc).onEv _) (fun s => inv_fineClosed.settleInHand s fun _ h => h.onEv _)
    fun _ _ _ _ => inv_of_empty rfl rfl rfl rfl rfl

end Sys2Proof.Machine

namespace Sys2Proof.Proofs

open Sys2Proof.Machine

/-- Settles O57: each elementary update keeps the form of the table it writes, and a step is made of such updates. -/
theorem tablesKeepTheirForm : Obligations.TablesKeepTheirForm := fun _ _ h hstep => inv_keptBySteps.step h hstep

end Sys2Proof.Proofs
end

section
/-! SUPPORT and PROOFS. The coupling state of each port is the one its items give (O44). -/

namespace Sys2Proof.Machine

/-- A port's coupling state is the one its items give (R174). -/
def State.derived (s : State) (side : Side) : Prop := (s.side side).state = (s.side side).derive

/-- Both ports keep their coupling states and the states that their items give. -/
def itemsKept (s t : State) : Prop := ∀ side, (t.side side).items = (s.side side).items

theorem itemsKept_of_cu {s t : State} (h : t.cu = s.cu) : itemsKept s t := fun side => by rw [State.side_eq_of_cu h]

/-- The elementary updates leave the items of the backbone ports alone. -/
theorem itemsKept_fineClosed : FineClosed itemsKept where
  trans h1 h2 side := (h2 side).trans (h1 side)
  quiet ho := (State.outline_eq_iff.1 ho).2.2.2.2.2.2.2.2
  setQueue s port q := itemsKept_of_cu (s.setQueue_cu port q)
  claim hc := itemsKept_of_cu (by obtain ⟨_, _, _, _, _, _, _, _, _, _, _, hcu, _⟩ := State.claim_keeps _ hc; exact hcu)
  addRef s k := itemsKept_of_cu (s.addRef_cu k)
  freeSlot s k := itemsKept_of_cu (by simp)
  dropRef s k := itemsKept_of_cu (by simp)
  onRecord s n f := itemsKept_of_cu (s.onRecord_cu n f)
  delRecord s n := itemsKept_of_cu (s.delRecord_cu n)
  mapRecords s f := itemsKept_of_cu (s.onCt_cu _)
  obtained s _ _ r _ := itemsKept_of_cu (s.putRecord_cu _ r)
  onSau s f := itemsKept_of_cu (s.onSau_cu f)
  insertDeferral s x _ := itemsKept_of_cu (s.insertDeferral_cu x)
  removeDeferral s x := itemsKept_of_cu (s.removeDeferral_cu x)
  filterEntitlements s p := itemsKept_of_cu (s.onEl_cu _)
  putEntitlement s e _ := itemsKept_of_cu (s.onEl_cu _)
  filterStations s p := itemsKept_of_cu (s.onMe_cu _)
  enrol s r wanted threshold _ _ _ := itemsKept_of_cu (s.onMe_cu _)
  reduceRoles s x named _ := itemsKept_of_cu (s.onStation_cu x _)

/-- Each port keeps its items, or its state has been derived from them. -/
def Couples (s t : State) : Prop := ∀ side, (t.side side).items = (s.side side).items ∨ t.derived side

theorem Couples.of_itemsKept {s t : State} (h : itemsKept s t) : Couples s t := fun side => .inl (h side)

theorem derived_of_items {s t : State} {side : Side} (hi : (t.side side).items = (s.side side).items) (h : s.derived side) :
    t.derived side := by
  obtain ⟨hstate, hderive⟩ := Prod.mk.inj hi
  exact hstate.trans (h.trans hderive.symm)

theorem Couples.trans {s t u : State} (h1 : Couples s t) (h2 : Couples t u) : Couples s u := fun side => by
  rcases h2 side with h | h
  · rcases h1 side with h' | h'
    · exact .inl (h.trans h')
    · exact .inr (derived_of_items h h')
  · exact .inr h

/-- Entering a state leaves what a port's items give as it was. -/
theorem Backbone.entering_derive (b : Backbone) (old new : CouplingState) : (b.entering old new).derive = b.derive := rfl

/-- R174: whatever an event has made of one port's items, deriving its state again leaves the state that they give. -/
theorem Couples.rederive (s : State) (side : Side) (f : Backbone → Backbone) : Couples s ((s.onSide side f).rederive side) := by
  have hother : ∀ d, d ≠ side → ((s.onSide side f).side d).items = (s.side d).items := fun d hd => by
    rw [State.side_onSide, if_neg hd]
  generalize s.onSide side f = s1 at hother ⊢
  have henter : ∀ t, itemsKept (s1.onSide side fun b => b.entering (s1.side side).state (s1.side side).derive) t → Couples s t := by
    intro t ht d
    by_cases hd : d = side
    · subst hd
      right
      refine derived_of_items (ht d) ?_
      simp only [State.derived, State.side_onSide_self]
      exact ((s1.side d).entering_derive (s1.side d).state _).symm
    · left
      rw [ht d, State.side_onSide, if_neg hd, hother d hd]
  unfold State.rederive
  dsimp only
  (repeat' split)
  · next hsame =>
    intro d
    by_cases hd : d = side
    · exact .inr (hd ▸ hsame.symm)
    · exact .inl (hother d hd)
  · exact henter _ (itemsKept_fineClosed.trans (itemsKept_fineClosed.coupling.enterCoupling s1 side _ _)
      (itemsKept_fineClosed.coupling.coupledSetChange _))
  · exact henter _ (itemsKept_fineClosed.coupling.enterCoupling s1 side _ _)

/-- The effects keep the ports' items or derive the states from them. -/
theorem couples_closed : Closed Couples :=
  (itemsKept_fineClosed.mono (S := Couples) (fun s t h => Couples.of_itemsKept (s := s) (t := t) h)
    fun h1 h2 => Couples.trans h1 h2).closed Couples.rederive

theorem derived_keptBySteps : KeptBySteps (fun s => ∀ side, s.derived side) fun s => ∀ side, s.derived side := by
  have hcouples : ∀ {s t : State}, Couples s t → (∀ side, s.derived side) → ∀ side, t.derived side := fun h hs side =>
    (h side).elim (fun hi => derived_of_items hi (hs side)) id
  refine couples_closed.keptBySteps hcouples hcouples (fun _ h => h) (fun _ h _ => h) ?_ ?_ ?_
  · exact fun {s s1 _ _ _} h _ hc => hcouples (t := s1) (.of_itemsKept (itemsKept_fineClosed.claim hc)) h
  · exact fun s h => hcouples (.of_itemsKept (itemsKept_fineClosed.settleInHand s fun t => itemsKept_of_cu (t.onEv_cu _))) h
  · exact fun s cause count line side => by cases side <;> rfl

end Sys2Proof.Machine

namespace Sys2Proof.Proofs

open Sys2Proof.Machine

/-- Settles O44: only the derivation of R174 writes a port's state, after whatever has written its items. -/
theorem couplingStateIsDerived : Obligations.CouplingStateIsDerived := by
  refine ⟨fun side => by cases side <;> rfl, fun s t h hstep => derived_keptBySteps.step h hstep, fun b => ⟨fun hrx => ?_, ?_⟩⟩
  · simp [Backbone.derive, hrx]
  · intro rx hrx
    refine ⟨fun hf => ?_, fun h1 h2 h3 h4 => ?_, fun h1 h2 h3 => ?_⟩
    · simp [Backbone.derive, hrx, hf]
    · simp [Backbone.derive, hrx, h1, h2, h3, h4]
    · have hnot : ¬ (b.matchCount = 3 ∧ rx.mark = true) := fun h => h3.elim (fun hc => hc h.1) fun hm => by simp [hm] at h
      simp [Backbone.derive, hrx, h1, h2, hnot]

end Sys2Proof.Proofs
end

section
/-! SUPPORT. The clients as the invariants see them: the outlines of the records, and the Waiting List. What each operation on records
makes of the two. -/

namespace Sys2Proof.Machine

/-! ### Tables under a map of their values -/

section Maps

variable {α β : Type}

/-- A table with each value read through a function. -/
def Table.mapValues (h : α → β) (t : Table α) : Table β := t.map fun e => (e.1, h e.2)

theorem Table.get_mapValues (h : α → β) (t : Table α) (k : Nat) : (t.mapValues h).get k = (t.get k).map h := by
  induction t with
  | nil => rfl
  | cons d t ih =>
    simp only [Table.mapValues, List.map_cons, Table.get] at ih ⊢
    split
    · rfl
    · exact ih

theorem Table.put_mapValues (h : α → β) (t : Table α) (k : Nat) (v : α) :
    (t.put k v).mapValues h = (t.mapValues h).put k (h v) := by
  induction t with
  | nil => rfl
  | cons d t ih =>
    simp only [Table.mapValues, Table.put, List.map_cons] at ih ⊢
    split
    · rfl
    · split
      · rfl
      · rw [List.map_cons, ih]

theorem Table.del_mapValues (h : α → β) (t : Table α) (k : Nat) : (t.del k).mapValues h = (t.mapValues h).del k := by
  induction t with
  | nil => rfl
  | cons d t ih =>
    simp only [Table.mapValues, Table.del, List.map_cons] at ih ⊢
    split
    · exact ih
    · rw [List.map_cons, ih]

/-- A change at a number, read through a function, is a change of what is read. -/
theorem Table.modify_mapValues {h : α → β} {t : Table α} {k : Nat} {f : α → α} {g : β → β}
    (hfg : ∀ v, t.get k = some v → h (f v) = g (h v)) : (t.modify k f).mapValues h = (t.mapValues h).modify k g := by
  unfold Table.modify
  rw [Table.get_mapValues]
  cases hv : t.get k with
  | none => rfl
  | some v => simp [Table.put_mapValues, hfg v hv]

theorem Table.mapValues_wf {h : α → β} {t : Table α} : (t.mapValues h).wf = t.wf := by
  rw [Bool.eq_iff_iff, Table.wf_iff, Table.wf_iff]
  simp [Table.mapValues, Function.comp_def]

theorem Table.put_put (t : Table α) (k : Nat) (v w : α) : (t.put k v).put k w = t.put k w := by
  induction t with
  | nil => simp [Table.put]
  | cons d t ih =>
    simp only [Table.put]
    split
    · simp [Table.put]
    · split
      · next h => simp [Table.put]
      · next h1 h2 => simp [Table.put, h1, h2, ih]

theorem Table.modify_modify (t : Table α) (k : Nat) (f g : α → α) : (t.modify k f).modify k g = t.modify k fun v => g (f v) := by
  cases hv : t.get k with
  | none => simp [Table.modify, hv]
  | some v => simp [Table.modify, hv, Table.get_put_self, Table.put_put]

theorem Table.del_modify (t : Table α) (k : Nat) (f : α → α) : (t.modify k f).del k = t.del k := by
  have hput : ∀ (u : Table α) v, (u.put k v).del k = u.del k := fun u v => by
    induction u with
    | nil => simp [Table.put, Table.del]
    | cons d u ih =>
      simp only [Table.put]
      split
      · simp [Table.del]
      · split
        · next h => simp [Table.del, h]
        · next h => simp [Table.del, Ne.symm h, ih]
  unfold Table.modify
  split
  · rfl
  · exact hput t _

theorem Table.modify_of_none {t : Table α} {k : Nat} (h : t.get k = none) (f : α → α) : t.modify k f = t := by
  simp [Table.modify, h]

/-- In canonical form, a change that changes nothing leaves the table. -/
theorem Table.modify_eq_self {t : Table α} (hw : t.wf = true) {k : Nat} {f : α → α} (hf : ∀ v, t.get k = some v → f v = v) :
    t.modify k f = t := by
  unfold Table.modify
  split
  · rfl
  · next v hv =>
    rw [hf v hv]
    clear hf
    rw [Table.wf_iff] at hw
    induction t with
    | nil => simp [Table.get] at hv
    | cons d t ih =>
      obtain ⟨j, w⟩ := d
      simp only [List.map_cons, List.pairwise_cons] at hw
      simp only [Table.get] at hv
      split at hv
      · next hj =>
        obtain rfl := Option.some.inj hv
        simp [Table.put, hj]
      · next hj =>
        have hlt : j < k := hw.1 k (List.mem_map_of_mem (f := Prod.fst) (Table.get_mem _ _ _ hv))
        simp [Table.put, Nat.not_lt.2 hlt.le, Ne.symm hj, ih hw.2 hv]

theorem Table.get_modify (t : Table α) (k m : Nat) (f : α → α) :
    (t.modify k f).get m = if m = k then (t.get k).map f else t.get m := by
  split
  · next h => rw [h, Table.get_modify_self]
  · next h => exact t.get_modify_of_ne f h

theorem Table.get_del (t : Table α) (k m : Nat) : (t.del k).get m = if m = k then none else t.get m := by
  split
  · next h => rw [h, Table.get_del_self]
  · next h => exact Table.get_del_of_ne t k m h

theorem Table.get_put (t : Table α) (k m : Nat) (v : α) : (t.put k v).get m = if m = k then some v else t.get m := by
  split
  · next h => rw [h, Table.get_put_self]
  · next h => exact Table.get_put_of_ne t k m v h

end Maps

/-! ### The clients -/

/-- The outlines of the records and the Waiting List. -/
@[ext] structure Clients where
  shapes : Table RecordOutline
  waiting : List Nat

def State.clients (s : State) : Clients := { shapes := s.ct.records.mapValues Record.outline, waiting := s.sau.waiting }

theorem State.clients_of_outline {s t : State} (h : t.outline = s.outline) : t.clients = s.clients := by
  obtain ⟨_, _, hr, hw, _⟩ := State.outline_eq_iff.1 h
  exact Clients.ext hr hw

theorem State.clients_congr {s t : State} (hct : t.ct = s.ct) (hsau : t.sau = s.sau) : t.clients = s.clients := by
  unfold State.clients
  rw [hct, hsau]

theorem State.shapes_get (s : State) (n : Nat) : s.clients.shapes.get n = (s.record n).map Record.outline :=
  Table.get_mapValues _ _ _

theorem State.shapes_wf (s : State) : s.clients.shapes.wf = s.ct.records.wf := Table.mapValues_wf

/-- A change to one shape. -/
def Clients.on (c : Clients) (n : Nat) (g : RecordOutline → RecordOutline) : Clients := { c with shapes := c.shapes.modify n g }

/-- A change to one shape of a record that leaves the Waiting List. -/
def Clients.leave (c : Clients) (n : Nat) (g : RecordOutline → RecordOutline) : Clients :=
  { shapes := c.shapes.modify n g, waiting := c.waiting.filter fun m => m != n }

theorem State.onRecord_clients {s : State} {n : Nat} {f : Record → Record} {g : RecordOutline → RecordOutline}
    (h : ∀ r, s.record n = some r → (f r).outline = g r.outline) : (s.onRecord n f).clients = s.clients.on n g :=
  Clients.ext (Table.modify_mapValues h) rfl

theorem Clients.on_eq_self {c : Clients} (hw : c.shapes.wf = true) {n : Nat} {g : RecordOutline → RecordOutline}
    (h : ∀ a, c.shapes.get n = some a → g a = a) : c.on n g = c :=
  Clients.ext (Table.modify_eq_self hw h) rfl

theorem Clients.on_of_none {c : Clients} {n : Nat} (h : c.shapes.get n = none) (g : RecordOutline → RecordOutline) : c.on n g = c :=
  Clients.ext (Table.modify_of_none h g) rfl

theorem State.shapes_get_of_record {s : State} {n : Nat} {r : Record} (h : s.record n = some r) :
    s.clients.shapes.get n = some r.outline := by rw [State.shapes_get, h]; rfl

/-- The outline without parked entries. -/
def RecordOutline.unparked (a : RecordOutline) : RecordOutline := { a with parked := [] }
/-- The outline of a LINGERING record (R21). -/
def RecordOutline.lingered (a : RecordOutline) : RecordOutline :=
  { a with place := none, former := none, hold := [], parked := [], lingering := true }
/-- The outline of a record ATTACHED at a place (R22). -/
def RecordOutline.attachedAt (pl : Place) (a : RecordOutline) : RecordOutline :=
  { a with place := some pl, former := none, hold := [], lingering := false }
/-- The outline of a MOVING record (R54). -/
def RecordOutline.movingTo (target : Place) (c : LinkNo) (x : AssocNo) (hold : List Nat) (a : RecordOutline) : RecordOutline :=
  { a with place := some target, former := some (c, x), hold := hold, lingering := false }

/-! ### Operations that leave the clients alone -/

section Same

variable (s : State)

@[simp] theorem State.discardQueue_clients (port : Port) : (s.discardQueue port).clients = s.clients :=
  State.clients_congr (by simp) (by simp)
@[simp] theorem State.completeTransmission_clients (port : Port) : (s.completeTransmission port).clients = s.clients :=
  State.clients_congr (by simp) (by simp)
@[simp] theorem State.append_clients (port : Port) (e : Entry) (looped : Bool) : (s.append port e looped).1.clients = s.clients :=
  State.clients_congr (by simp) (by simp)
@[simp] theorem State.settle_clients (k : Nat) : (s.settle k).clients = s.clients := State.clients_congr (by simp) (by simp)
@[simp] theorem State.addRef_clients (k : Nat) : (s.addRef k).clients = s.clients := rfl
@[simp] theorem State.leaveSeat_clients (pl : Option Place) : (s.leaveSeat pl).clients = s.clients :=
  State.clients_congr (by simp) (by simp)
@[simp] theorem State.discardHold_clients (hold : List Nat) : (s.discardHold hold).clients = s.clients :=
  State.clients_congr (by simp) (by simp)
@[simp] theorem State.flush_clients (pl : Place) (hold : List Nat) : (s.flush pl hold).clients = s.clients :=
  State.clients_congr (by simp) (by simp)
@[simp] theorem State.countMc_clients (f : McCounters → McCounters) : (s.countMc f).clients = s.clients := rfl
@[simp] theorem State.countCt_clients (f : CtCounters → CtCounters) : (s.countCt f).clients = s.clients := rfl
@[simp] theorem State.countSau_clients (f : SauCounters → SauCounters) : (s.countSau f).clients = s.clients := rfl
@[simp] theorem State.countSeat_clients (p : SeatNo) (f : SeatCounters → SeatCounters) : (s.countSeat p f).clients = s.clients := rfl
@[simp] theorem State.countLink_clients (c : LinkNo) (f : LinkCounters → LinkCounters) : (s.countLink c f).clients = s.clients := rfl
@[simp] theorem State.raise_clients (c : Cause) : (s.raise c).clients = s.clients := rfl
@[simp] theorem State.clientNoSlot_clients : s.clientNoSlot.clients = s.clients := rfl

@[simp] theorem State.sendRadio_clients (c : LinkNo) (m : RadioOut) : (s.sendRadio c m).clients = s.clients :=
  State.clients_congr (by simp) (by simp)

@[simp] theorem State.abandonTarget_clients (pl : Place) : (s.abandonTarget pl).clients = s.clients := by
  cases pl <;> simp [State.abandonTarget]

@[simp] theorem State.compose_clients (side : Side) (reset : Bool) (frame : State → Bytes) :
    (s.compose side reset frame).1.clients = s.clients := State.clients_congr (by simp) (by simp)

theorem State.claim_clients {s s1 : State} {reserve k : Nat} {origin : Origin} {reset : Bool} {frame : State → Bytes}
    (h : s.claim reserve origin reset frame = some (k, s1)) : s1.clients = s.clients := by
  obtain ⟨_, _, _, _, _, hct, _, hsau, _⟩ := State.claim_keeps s h
  exact State.clients_congr hct hsau

@[simp] theorem State.loopFrame_clients (p : SeatNo) (frame : Bytes) : (s.loopFrame p frame).clients = s.clients := by
  unfold State.loopFrame
  split
  · rfl
  · next hclaim =>
    dsimp only
    split <;> simp [State.claim_clients hclaim]

theorem State.discardParked_ct (parked : List Nat) : (s.discardParked parked).ct = s.ct := by simp

@[simp] theorem State.discardParked_clients (parked : List Nat) : (s.discardParked parked).clients = s.clients := by
  refine Clients.ext (by simp [State.clients]) ?_
  have h := foldl_keeps (fun t : State => t.sau.waiting)
    (f := fun t k => (t.dropRef k).countSau fun c => { c with parkedDiscarded := bump c.parkedDiscarded }) (by intros; simp) parked
    (b := s) rfl
  exact h

@[simp] theorem State.moveParked_clients (g : Grant) (k : Nat) : (s.moveParked g k).1.clients = s.clients := by
  unfold State.moveParked
  dsimp only
  split
  · exact State.clients_congr (by simp) (by simp)
  · rw [State.countSau_clients]
    exact State.clients_congr (by simp) (by simp)

end Same

/-! ### Operations on records -/

theorem State.record_of_clients {s t : State} (h : t.clients = s.clients) (n : Nat) :
    (t.record n).map Record.outline = (s.record n).map Record.outline := by
  rw [← State.shapes_get, ← State.shapes_get, h]

theorem State.leaveWaiting_clients (s : State) (n : Nat) :
    (s.leaveWaiting n).clients = { s.clients with waiting := s.clients.waiting.filter fun m => m != n } := rfl

theorem State.clearParked_clients {s : State} {n : Nat} {r : Record} (h : s.record n = some r) :
    (s.clearParked n).clients = s.clients.leave n RecordOutline.unparked := by
  unfold State.clearParked
  rw [h]
  dsimp only
  rw [State.leaveWaiting_clients, State.onRecord_clients (g := RecordOutline.unparked) fun _ _ => rfl, State.discardParked_clients]
  rfl

theorem State.attach_clients (s : State) (n : Nat) (pl : Place) :
    (s.attach n pl).clients = s.clients.on n (RecordOutline.attachedAt pl) := State.onRecord_clients fun _ _ => rfl

/-- A change to a shape and then the parked list cleared. -/
theorem State.clearParked_clients_of_eq {s t : State} {n : Nat} {r : Record} {g : RecordOutline → RecordOutline}
    (ht : t.clients = s.clients.on n g) (hr : s.record n = some r) :
    (t.clearParked n).clients = s.clients.leave n fun a => (g a).unparked := by
  have hrec : ∃ x, t.record n = some x := by
    rw [← Option.isSome_iff_exists, ← Option.isSome_map (f := Record.outline), ← State.shapes_get, ht]
    simp [Clients.on, Table.get_modify, State.shapes_get_of_record hr]
  obtain ⟨x, hx⟩ := hrec
  rw [State.clearParked_clients hx, ht]
  exact Clients.ext (Table.modify_modify _ _ _ _) rfl

/-- R21: a record goes to LINGERING, without parked entries, unless it is there or not in use. -/
theorem State.enterLingering_clients (s : State) (n : Nat) :
    (s.enterLingering n).clients = s.clients ∨ (s.enterLingering n).clients = s.clients.leave n RecordOutline.lingered := by
  have hlinger : ∀ {r : Record}, s.record n = some r → ∀ pl,
      ((((s.onRecord n fun x => { x with st := .lingering (some (s.ct.lingerTime * 1000)) }).leaveSeat pl).clearParked n).clients
        = s.clients.leave n RecordOutline.lingered) := fun hr pl =>
    State.clearParked_clients_of_eq (g := fun a => { a with place := none, former := none, hold := [], lingering := true })
      (by rw [State.leaveSeat_clients]; exact State.onRecord_clients fun _ _ => rfl) hr
  unfold State.enterLingering
  cases hr : s.record n with
  | none => exact .inl rfl
  | some r =>
    cases hst : r.st with
    | lingering t => exact .inl (by simp [hst])
    | attached pl idle =>
      right
      simpa only [hst] using hlinger hr (some pl)
    | moving pl c a deadline hold =>
      right
      simpa only [hst, State.countMc_clients, State.discardHold_clients] using hlinger hr (some pl)

/-- R25: a record becomes VACANT. -/
theorem State.vacate_clients (s : State) (n : Nat) :
    (s.vacate n).clients = s.clients
    ∨ (s.vacate n).clients = { shapes := s.clients.shapes.del n, waiting := s.clients.waiting.filter fun m => m != n } := by
  unfold State.vacate
  cases hr : s.record n with
  | none => exact .inl rfl
  | some r =>
    right
    have h : ((((s.leaveSeat r.st.place).clearParked n).discardHold r.st.hold).clients)
        = s.clients.leave n RecordOutline.unparked := by
      have hr' : (s.leaveSeat r.st.place).record n = some r := by simpa [State.record] using hr
      rw [State.discardHold_clients, State.clearParked_clients hr', State.leaveSeat_clients]
    dsimp only
    have hwaiting := congrArg Clients.waiting h
    refine Clients.ext ?_ hwaiting
    have hshapes := congrArg (fun c => Table.del c.shapes n) h
    simp only [Clients.leave, Table.del_modify] at hshapes
    rw [← hshapes]
    exact Table.del_mapValues _ _ _

/-- R61: a MOVING record is ATTACHED at its target. -/
theorem State.completeMove_clients (s : State) (n : Nat) (count : McCounters → McCounters) :
    (s.completeMove n count).clients = s.clients
    ∨ ∃ a pl, s.clients.shapes.get n = some a ∧ a.place = some pl ∧ a.lingering = false
      ∧ (s.completeMove n count).clients = s.clients.on n (RecordOutline.attachedAt pl) := by
  unfold State.completeMove
  cases hr : s.record n with
  | none => exact .inl rfl
  | some r =>
    cases hst : r.st with
    | lingering t => exact .inl (by simp [hst])
    | attached pl idle => exact .inl (by simp [hst])
    | moving pl c a deadline hold =>
      refine .inr ⟨r.outline, pl, State.shapes_get_of_record hr, by simp [Record.outline, hst, RecordState.place],
        by simp [Record.outline, hst, RecordState.isLingering], ?_⟩
      simp [hst, State.attach_clients]

/-- R95: the parked entries of a record that became SERVICE leave. -/
theorem State.serviceRelease_clients (s : State) (n : Nat) :
    (s.serviceRelease n).clients = s.clients ∨ (s.serviceRelease n).clients = s.clients.leave n RecordOutline.unparked := by
  unfold State.serviceRelease
  split
  · right
    next r g hr hg =>
    have hfold := foldl_keeps State.clients
      (f := fun t k =>
        let o := t.moveParked g k
        if o.2 then o.1.countSau fun c => { c with framesUncharged := bump c.framesUncharged } else o.1)
      (fun t k => by dsimp only; split <;> simp) r.parked (b := s) rfl
    dsimp only at hfold ⊢
    rw [State.leaveWaiting_clients, State.onRecord_clients (g := RecordOutline.unparked) fun _ _ => rfl, hfold]
    rfl
  · exact .inl rfl

/-- R24: a class change shows only when it releases the parked entries. -/
theorem State.setClass_clients {s : State} (hw : s.ct.records.wf = true) (n : Nat) (new : Class) :
    (s.setClass n new).clients = s.clients ∨ (s.setClass n new).clients = s.clients.leave n RecordOutline.unparked := by
  have hset : ∀ old, (s.onRecord n fun x => { x with cls := new, st := s.idleAfterChange old new x.st }).clients = s.clients := by
    intro old
    refine State.clients_of_outline (State.onRecord_outline s hw n _ fun r _ => ?_)
    have hsame : ∀ st, (s.idleAfterChange old new st).place = st.place ∧ (s.idleAfterChange old new st).former = st.former
        ∧ (s.idleAfterChange old new st).hold = st.hold ∧ (s.idleAfterChange old new st).isLingering = st.isLingering := by
      intro st
      unfold State.idleAfterChange
      (repeat' split) <;> simp [RecordState.place, RecordState.former, RecordState.hold, RecordState.isLingering]
    obtain ⟨h1, h2, h3, h4⟩ := hsame r.st
    simp [Record.outline, h1, h2, h3, h4]
  unfold State.setClass
  split
  · exact .inl rfl
  · next r hr =>
    split
    · exact .inl rfl
    · dsimp only
      split
      · obtain h | h := State.serviceRelease_clients
          (s.onRecord n fun x => { x with cls := new, st := s.idleAfterChange r.cls new x.st }) n
        · exact .inl (h.trans (hset _))
        · exact .inr (by rw [h, hset])
      · exact .inl (hset _)

/-! ### Parking and the release of parked frames -/

/-- What a shape becomes when `rest` is what stays parked. -/
def RecordOutline.stillParked (rest : List Nat) (a : RecordOutline) : RecordOutline := { a with parked := rest }

/-- R90, R91: a record's frames go oldest first; charging does not show, and what is left is the end of the list. -/
theorem State.releaseFrames_clients (g : Grant) (n : Nat) (parked : List Nat) (s : State) (hw : s.ct.records.wf = true) :
    (s.releaseFrames g n parked).1.clients = s.clients ∧ (s.releaseFrames g n parked).2 <:+ parked := by
  induction parked generalizing s with
  | nil => exact ⟨rfl, List.suffix_refl _⟩
  | cons k rest ih =>
    have hmove : (s.moveParked g k).1.ct.records.wf = true := by rw [← State.shapes_wf, State.moveParked_clients, State.shapes_wf, hw]
    unfold State.releaseFrames
    dsimp only
    split
    · split
      · next o _ =>
        generalize hcost : frameCost (s.slotLength k) = cost
        generalize hcharged : ((((s.moveParked g k).1.onRecord n fun x =>
          { x with credit := x.credit - cost, charged := bumpBy x.charged cost }).onSau fun b =>
          { b with pool := b.pool - cost }).countSau fun c => { c with framesReleased := bump c.framesReleased }) = t
        have ht : t.outline = (s.moveParked g k).1.outline := by
          rw [← hcharged, State.countSau_outline, State.onSau_outline _ _ (by exact fun _ => rfl),
            State.onRecord_outline _ hmove n _ (by exact fun _ _ => rfl)]
        have htc := (State.clients_of_outline ht).trans (s.moveParked_clients g k)
        obtain ⟨hc, hsuffix⟩ := ih t (by rw [← State.shapes_wf, htc, State.shapes_wf, hw])
        exact ⟨hc.trans htc, hsuffix.trans (List.suffix_cons k rest)⟩
      · obtain ⟨hc, hsuffix⟩ := ih (s.moveParked g k).1 hmove
        exact ⟨hc.trans (s.moveParked_clients g k), hsuffix.trans (List.suffix_cons k rest)⟩
    · exact ⟨rfl, List.suffix_refl _⟩

/-- R90: after its turn a record has the end of its parked list, and it has left the Waiting List if nothing is left. -/
theorem State.releaseRecord_clients {s : State} (hw : s.ct.records.wf = true) (g : Grant) (cls : Class) (n : Nat) :
    (s.releaseRecord g cls n).clients = s.clients ∨ ∃ a rest, s.clients.shapes.get n = some a ∧ rest <:+ a.parked
      ∧ (s.releaseRecord g cls n).clients = if rest = [] then s.clients.leave n (RecordOutline.stillParked rest)
        else s.clients.on n (RecordOutline.stillParked rest) := by
  unfold State.releaseRecord
  cases hr : s.record n with
  | none => exact .inl rfl
  | some r =>
    dsimp only
    split
    · right
      obtain ⟨hc, hsuffix⟩ := State.releaseFrames_clients g n r.parked s hw
      refine ⟨r.outline, _, State.shapes_get_of_record hr, hsuffix, ?_⟩
      have hon : (((s.releaseFrames g n r.parked).1.onRecord n fun x => { x with parked := (s.releaseFrames g n r.parked).2 }).clients
          = s.clients.on n (RecordOutline.stillParked (s.releaseFrames g n r.parked).2)) := by
        rw [← hc]
        exact State.onRecord_clients fun _ _ => rfl
      simp only [List.isEmpty_iff]
      split
      · rw [State.leaveWaiting_clients, hon]
        rfl
      · exact hon
    · exact .inl rfl

/-- The shape with one more entry parked. -/
def RecordOutline.parking (slot : Nat) (a : RecordOutline) : RecordOutline := { a with parked := a.parked ++ [slot] }

/-- The clients once a record whose shape is `a` has one more entry parked: with its first it joins the Waiting List (R85, R86). -/
def Clients.park (c : Clients) (slot n : Nat) (a : RecordOutline) : Clients :=
  { shapes := c.shapes.modify n (RecordOutline.parking slot)
    waiting := if a.parked = [] then c.waiting ++ [n] else c.waiting }

/-- R85: a frame joins the parked list of its record, which joins the Waiting List with its first one; or it does not show. -/
theorem State.park_clients {s : State} (hw : s.ct.records.wf = true) (slot n : Nat) (r : Record) :
    (s.park slot n r).clients = s.clients ∨ (r.parked.length < 4 ∧ (s.park slot n r).clients = s.clients.park slot n r.outline) := by
  have hon : ((s.addRef slot).onRecord n fun x => { x with parked := x.parked ++ [slot] }).clients
      = s.clients.on n (RecordOutline.parking slot) := State.onRecord_clients fun _ _ => rfl
  unfold State.park
  dsimp only
  split
  · next hroom =>
    refine .inr ⟨hroom, ?_⟩
    have hshapes := congrArg Clients.shapes hon
    have hwaiting := congrArg Clients.waiting hon
    simp only [List.isEmpty_iff]
    split
    · next h => exact Clients.ext hshapes ((congrArg (· ++ [n]) hwaiting).trans (if_pos (show r.outline.parked = [] from h)).symm)
    · next h => exact Clients.ext hshapes (hwaiting.trans (if_neg (show ¬ r.outline.parked = [] from h)).symm)
  · left
    rw [State.settle_clients]
    refine State.clients_of_outline ?_
    rw [State.onSau_outline _ _ (by exact fun _ => rfl), State.countSau_outline,
      State.onRecord_outline _ hw n _ (by exact fun _ _ => rfl)]

/-- R81 to R85: a client frame that reaches the unit is parked, or it does not show. -/
theorem State.submit_clients {s : State} (hw : s.ct.records.wf = true) (slot n : Nat) :
    (s.submit slot n).clients = s.clients ∨ ∃ a, s.clients.shapes.get n = some a ∧ a.parked.length < 4
      ∧ (s.submit slot n).clients = s.clients.park slot n a := by
  unfold State.submit
  split
  · exact .inl (by simp)
  · next g pend _ =>
    cases hr : s.record n with
    | none => exact .inl (by simp)
    | some r =>
      have hpark := (State.park_clients hw slot n r).imp_right fun ⟨hroom, hc⟩ =>
        (⟨r.outline, State.shapes_get_of_record hr, hroom, hc⟩ : ∃ a, s.clients.shapes.get n = some a ∧ a.parked.length < 4
          ∧ (s.park slot n r).clients = s.clients.park slot n a)
      have happ : (s.append (.backbone g.gateway) { slot := slot } false).1.ct.records.wf = true := by simpa using hw
      dsimp only
      unfold State.charge
      dsimp only
      split
      · left
        split <;> simp
      · split
        · exact hpark
        · split
          · left
            split
            · rw [State.countSau_clients]
              refine (State.clients_of_outline ?_).trans (s.append_clients (.backbone g.gateway) { slot := slot } false)
              rw [State.onSau_outline _ _ (by exact fun _ => rfl), State.onRecord_outline _ happ n _ (by exact fun _ _ => rfl)]
            · simp
          · exact hpark

/-- R96: every parked list is emptied, and so is the Waiting List. -/
theorem State.enterHold_clients (s : State) :
    s.enterHold.clients = { shapes := s.clients.shapes.mapValues RecordOutline.unparked, waiting := [] } := by
  have hfold := foldl_keeps State.ct (f := fun t (e : Nat × Record) => t.discardParked e.2.parked) (fun t e => by simp)
    s.ct.records (b := s) rfl
  refine Clients.ext ?_ rfl
  simp only [State.enterHold, State.clients, State.countSau_ct, State.onSau_ct, State.onCt_ct, hfold]
  simp [Table.mapValues, Record.outline, RecordOutline.unparked]

/-- R58: holding a frame shows only in the hold queue. -/
theorem State.holdFrame_clients (s : State) (n slot : Nat) :
    (s.holdFrame n slot).clients = s.clients
    ∨ (s.holdFrame n slot).clients = s.clients.on n fun a => { a with hold := a.hold ++ [slot] } := by
  unfold State.holdFrame
  cases hr : s.record n with
  | none => exact .inl (by simp)
  | some r =>
    cases hst : r.st with
    | lingering t => exact .inl (by simp [hst])
    | attached pl idle => exact .inl (by simp [hst])
    | moving target c a deadline hold =>
      simp only [hst]
      split
      · right
        have h : ∀ x, (s.addRef slot).record n = some x →
            ({ x with st := .moving target c a deadline (hold ++ [slot]) } : Record).outline
              = { x.outline with hold := x.outline.hold ++ [slot] } := by
          intro x hx
          obtain rfl : r = x := Option.some.inj (hr.symm.trans hx)
          simp [Record.outline, hst, RecordState.place, RecordState.former, RecordState.hold, RecordState.isLingering]
        exact State.onRecord_clients (g := fun a => { a with hold := a.hold ++ [slot] }) h
      · exact .inl (by simp)

end Sys2Proof.Machine
end

section
/-! SUPPORT and PROOFS. No two records share an address, a place or a former place (O58). -/

namespace Sys2Proof.Machine

/-! ### Shapes that are apart -/

/-- R2, R3 and R53 of two records. -/
def RecordOutline.Apart (a b : RecordOutline) : Prop :=
  a.addr ≠ b.addr ∧ (∀ pl, a.place = some pl → b.place ≠ some pl) ∧ ∀ f, a.former = some f → b.former ≠ some f

theorem RecordOutline.Apart.symm {a b : RecordOutline} (h : a.Apart b) : b.Apart a := by
  obtain ⟨haddr, hplace, hformer⟩ := h
  exact ⟨haddr.symm, fun pl hb ha => hplace pl ha hb, fun f hb ha => hformer f ha hb⟩

/-- Every two of a table's shapes are apart. -/
def Distinct (t : Table RecordOutline) : Prop :=
  t.wf = true ∧ ∀ m n a b, m ≠ n → t.get m = some a → t.get n = some b → a.Apart b

/-- In canonical form, what holds of every two listed values holds of what stands at any two numbers. -/
theorem Table.pairwise_iff {α : Type} {t : Table α} (hw : t.wf = true) {r : α → α → Prop} (hr : ∀ {a b}, r a b → r b a) :
    t.Pairwise (fun e d => r e.2 d.2) ↔ ∀ m n a b, m ≠ n → t.get m = some a → t.get n = some b → r a b := by
  constructor
  · intro h m n a b hne ha hb
    have : Std.Symm fun e d : Nat × α => r e.2 d.2 := ⟨fun _ _ => hr⟩
    exact h.forall (Table.get_mem _ _ _ ha) (Table.get_mem _ _ _ hb) (by simp [hne])
  · intro h
    have hkeys := List.pairwise_map.1 ((Table.wf_iff t).1 hw)
    exact hkeys.imp_of_mem fun {e d} he hd hlt =>
      h e.1 d.1 e.2 d.2 hlt.ne (Table.get_of_mem hw he) (Table.get_of_mem hw hd)

theorem option_ne_iff {α : Type} {x y : Option α} :
    (∀ u, x = some u → ∀ v, y = some v → u ≠ v) ↔ ∀ u, x = some u → y ≠ some u :=
  ⟨fun h u hx hy => h u hx u hy rfl, fun h u hx _ hy huv => h u hx (huv ▸ hy)⟩

/-- The invariant says that the shapes are apart. -/
theorem distinct_iff {s : State} (hw : s.ct.records.wf = true) : PlacesInv s ↔ Distinct s.clients.shapes := by
  have hwf : s.clients.shapes.wf = true := by rw [State.shapes_wf, hw]
  have hpairs : PlacesInv s ↔ s.clients.shapes.Pairwise fun e d => e.2.Apart d.2 := by
    simp only [PlacesInv, State.places, State.formerPlaces, List.Nodup, List.pairwise_map, List.pairwise_filterMap, State.clients,
      Table.mapValues, RecordOutline.Apart, List.pairwise_and_iff, option_ne_iff]
    rfl
  rw [hpairs, Table.pairwise_iff hwf (r := RecordOutline.Apart) RecordOutline.Apart.symm, Distinct, and_iff_right hwf]

/-- The invariant of a state whose Client Table is in canonical form. -/
def State.Distinct (s : State) : Prop := Machine.Distinct s.clients.shapes

theorem State.Distinct.wf {s : State} (h : s.Distinct) : s.ct.records.wf = true := by
  rw [← State.shapes_wf]
  exact h.1

theorem State.Distinct.placesInv {s : State} (h : s.Distinct) : PlacesInv s := (distinct_iff h.wf).2 h

theorem State.Distinct.of_clients {s t : State} (hc : t.clients = s.clients) (h : s.Distinct) : t.Distinct := by
  unfold State.Distinct
  rwa [hc]

/-! ### Changes that keep shapes apart -/

/-- A shape that claims no address, place or former place beyond another's. -/
def RecordOutline.Fewer (b a : RecordOutline) : Prop :=
  b.addr = a.addr ∧ (b.place = a.place ∨ b.place = none) ∧ (b.former = a.former ∨ b.former = none)

theorem RecordOutline.Apart.fewer {a b x : RecordOutline} (h : a.Apart x) (hb : b.Fewer a) : b.Apart x := by
  obtain ⟨haddr, hplace, hformer⟩ := h
  obtain ⟨heq, hp, hf⟩ := hb
  refine ⟨heq ▸ haddr, fun pl hpl => ?_, fun f hff => ?_⟩
  · rcases hp with hp | hp
    · exact hplace pl (hp ▸ hpl)
    · simp [hp] at hpl
  · rcases hf with hf | hf
    · exact hformer f (hf ▸ hff)
    · simp [hf] at hff

theorem Distinct.modify {t : Table RecordOutline} (h : Distinct t) {n : Nat} {g : RecordOutline → RecordOutline}
    (hg : ∀ a, t.get n = some a → ∀ m b, m ≠ n → t.get m = some b → (g a).Apart b) : Distinct (t.modify n g) := by
  obtain ⟨hw, hapart⟩ := h
  refine ⟨t.modify_wf n g hw, fun i j a b hne hi hj => ?_⟩
  rw [Table.get_modify] at hi hj
  split at hi
  · obtain ⟨x, hx, rfl⟩ := Option.map_eq_some_iff.1 hi
    split at hj
    · next hi' hj' => exact absurd (hi'.trans hj'.symm) hne
    · next hj' => exact hg x hx j b hj' hj
  · next hi' =>
    split at hj
    · obtain ⟨x, hx, rfl⟩ := Option.map_eq_some_iff.1 hj
      exact (hg x hx i a hi' hi).symm
    · exact hapart i j a b hne hi hj

theorem Distinct.shrink {t : Table RecordOutline} (h : Distinct t) {n : Nat} {g : RecordOutline → RecordOutline}
    (hg : ∀ a, t.get n = some a → (g a).Fewer a) : Distinct (t.modify n g) :=
  h.modify fun a ha m b hm hb => (h.2 n m a b hm.symm ha hb).fewer (hg a ha)

theorem Distinct.del {t : Table RecordOutline} (h : Distinct t) (n : Nat) : Distinct (t.del n) := by
  obtain ⟨hw, hapart⟩ := h
  refine ⟨t.del_wf n hw, fun i j a b hne hi hj => ?_⟩
  rw [Table.get_del] at hi hj
  split at hi
  · cases hi
  · split at hj
    · cases hj
    · exact hapart i j a b hne hi hj

theorem Distinct.put {t : Table RecordOutline} (h : Distinct t) {n : Nat} {a : RecordOutline}
    (ha : ∀ m b, m ≠ n → t.get m = some b → a.Apart b) : Distinct (t.put n a) := by
  obtain ⟨hw, hapart⟩ := h
  refine ⟨t.put_wf n a hw, fun i j x y hne hi hj => ?_⟩
  rw [Table.get_put] at hi hj
  split at hi
  · obtain rfl := Option.some.inj hi
    split at hj
    · next hi' hj' => exact absurd (hi'.trans hj'.symm) hne
    · next hj' => exact ha j y hj' hj
  · next hi' =>
    split at hj
    · obtain rfl := Option.some.inj hj
      exact (ha i x hi' hi).symm
    · exact hapart i j x y hne hi hj

theorem Distinct.mapValues {t : Table RecordOutline} (h : Distinct t) {g : RecordOutline → RecordOutline} (hg : ∀ a, (g a).Fewer a) :
    Distinct (t.mapValues g) := by
  obtain ⟨hw, hapart⟩ := h
  refine ⟨by rw [Table.mapValues_wf, hw], fun i j a b hne hi hj => ?_⟩
  rw [Table.get_mapValues] at hi hj
  obtain ⟨x, hx, rfl⟩ := Option.map_eq_some_iff.1 hi
  obtain ⟨y, hy, rfl⟩ := Option.map_eq_some_iff.1 hj
  exact (((hapart i j x y hne hx hy).fewer (hg x)).symm.fewer (hg y)).symm

/-- No record but `n` has the place. -/
def FreeFor (t : Table RecordOutline) (n : Nat) (pl : Place) : Prop := ∀ m b, m ≠ n → t.get m = some b → b.place ≠ some pl

/-- A record's own place is free for it. -/
theorem Distinct.freeFor {t : Table RecordOutline} (h : Distinct t) {n : Nat} {a : RecordOutline} {pl : Place}
    (ha : t.get n = some a) (hpl : a.place = some pl) : FreeFor t n pl :=
  fun m b hm hb => (h.2 n m a b hm.symm ha hb).2.1 pl hpl

/-- A record takes a place that is free for it. -/
theorem Distinct.take {t : Table RecordOutline} (h : Distinct t) {n : Nat} {pl : Place} (hfree : FreeFor t n pl)
    {g : RecordOutline → RecordOutline} (hg : ∀ a, (g a).addr = a.addr ∧ (g a).place = some pl ∧
      ((g a).former = a.former ∨ (g a).former = none)) : Distinct (t.modify n g) := by
  refine h.modify fun a ha m b hm hb => ?_
  obtain ⟨haddr, hplace, hformer⟩ := hg a
  have hapart := h.2 n m a b hm.symm ha hb
  refine ⟨haddr ▸ hapart.1, fun q hq => ?_, fun f hf => ?_⟩
  · obtain rfl : pl = q := Option.some.inj (hplace.symm.trans hq)
    exact hfree m b hm hb
  · rcases hformer with he | he
    · exact hapart.2.2 f (he ▸ hf)
    · simp [he] at hf

/-! ### The operations on records -/

section Operations

variable {s : State}

theorem RecordOutline.lingered_fewer (a : RecordOutline) : a.lingered.Fewer a := ⟨rfl, .inr rfl, .inr rfl⟩
theorem RecordOutline.unparked_fewer (a : RecordOutline) : a.unparked.Fewer a := ⟨rfl, .inl rfl, .inl rfl⟩

theorem State.Distinct.shrink {t : State} (h : s.Distinct) {n : Nat} {g : RecordOutline → RecordOutline}
    (ht : t.clients.shapes = s.clients.shapes.modify n g) (hg : ∀ a, s.clients.shapes.get n = some a → (g a).Fewer a) :
    t.Distinct := by
  unfold State.Distinct
  rw [ht]
  exact Machine.Distinct.shrink h hg

theorem State.Distinct.enterLingering (h : s.Distinct) (n : Nat) : (s.enterLingering n).Distinct := by
  obtain hc | hc := s.enterLingering_clients n
  · exact h.of_clients hc
  · exact h.shrink (congrArg Clients.shapes hc) fun a _ => a.lingered_fewer

theorem State.Distinct.vacate (h : s.Distinct) (n : Nat) : (s.vacate n).Distinct := by
  obtain hc | hc := s.vacate_clients n
  · exact h.of_clients hc
  · unfold State.Distinct
    rw [hc]
    exact Machine.Distinct.del h n

theorem State.Distinct.completeMove (h : s.Distinct) (n : Nat) (count : McCounters → McCounters) : (s.completeMove n count).Distinct := by
  obtain hc | ⟨a, pl, ha, hpl, _, hc⟩ := s.completeMove_clients n count
  · exact h.of_clients hc
  · refine h.shrink (congrArg Clients.shapes hc) fun b hb => ?_
    obtain rfl : a = b := Option.some.inj (ha.symm.trans hb)
    exact ⟨rfl, .inl hpl.symm, .inr rfl⟩

theorem State.Distinct.setClass (h : s.Distinct) (n : Nat) (new : Class) : (s.setClass n new).Distinct := by
  obtain hc | hc := State.setClass_clients h.wf n new
  · exact h.of_clients hc
  · exact h.shrink (congrArg Clients.shapes hc) fun a _ => a.unparked_fewer

theorem State.Distinct.releaseRecord (h : s.Distinct) (g : Grant) (cls : Class) (n : Nat) : (s.releaseRecord g cls n).Distinct := by
  obtain hc | ⟨a, rest, _, _, hc⟩ := State.releaseRecord_clients h.wf g cls n
  · exact h.of_clients hc
  · refine h.shrink (n := n) (g := RecordOutline.stillParked rest) ?_ fun b _ => ⟨rfl, .inl rfl, .inl rfl⟩
    rw [hc]
    split <;> rfl

theorem foldl_holds {α : Type} {p : State → Prop} {f : State → α → State} (hf : ∀ t a, p t → p (f t a)) (l : List α) {t : State}
    (ht : p t) : p (l.foldl f t) := by
  induction l generalizing t with
  | nil => exact ht
  | cons a l ih => exact ih (hf t a ht)

theorem State.Distinct.releasePass (h : s.Distinct) (g : Grant) : (s.releasePass g).Distinct :=
  foldl_holds (p := State.Distinct) (fun _ cls ht => foldl_holds (p := State.Distinct) (fun _ n hu => hu.releaseRecord g cls n) _ ht) _ h

theorem State.Distinct.enterHold (h : s.Distinct) : s.enterHold.Distinct := by
  unfold State.Distinct
  rw [State.enterHold_clients]
  exact Machine.Distinct.mapValues h RecordOutline.unparked_fewer

theorem State.Distinct.submit (h : s.Distinct) (slot n : Nat) : (s.submit slot n).Distinct := by
  obtain hc | ⟨a, _, _, hc⟩ := State.submit_clients h.wf slot n
  · exact h.of_clients hc
  · exact h.shrink (congrArg Clients.shapes hc) fun b _ => ⟨rfl, .inl rfl, .inl rfl⟩

theorem State.Distinct.holdFrame (h : s.Distinct) (n slot : Nat) : (s.holdFrame n slot).Distinct := by
  obtain hc | hc := s.holdFrame_clients n slot
  · exact h.of_clients hc
  · exact h.shrink (congrArg Clients.shapes hc) fun b _ => ⟨rfl, .inl rfl, .inl rfl⟩

end Operations

/-! ### A client takes a place -/

section Taking

variable {s : State}

/-- No record but `n` has the place. -/
def State.FreeFor (s : State) (n : Nat) (pl : Place) : Prop := Machine.FreeFor s.clients.shapes n pl

theorem State.FreeFor.of_clients {t : State} {n : Nat} {pl : Place} (hc : t.clients = s.clients) (h : s.FreeFor n pl) : t.FreeFor n pl := by
  unfold State.FreeFor
  rwa [hc]

theorem State.Distinct.freeFor (h : s.Distinct) {n : Nat} {r : Record} {pl : Place} (hr : s.record n = some r)
    (hpl : r.st.place = some pl) : s.FreeFor n pl :=
  Machine.Distinct.freeFor h (State.shapes_get_of_record hr) hpl

theorem State.freeFor_of_record {n : Nat} {pl : Place} (h : ∀ m r, m ≠ n → s.record m = some r → r.st.place ≠ some pl) :
    s.FreeFor n pl := by
  intro m b hm hb
  rw [State.shapes_get, Option.map_eq_some_iff] at hb
  obtain ⟨r, hr, rfl⟩ := hb
  exact h m r hm hr

theorem State.freeFor_of_atPlace (hw : s.ct.records.wf = true) {pl : Place} (h : s.atPlace pl = none) (n : Nat) : s.FreeFor n pl :=
  State.freeFor_of_record fun m r _ hr => (State.atPlace_eq_none_iff hw pl).1 h m r hr

theorem State.Distinct.take {t : State} {n : Nat} {pl : Place} (h : s.Distinct) (hfree : s.FreeFor n pl)
    {g : RecordOutline → RecordOutline} (ht : t.clients = s.clients.on n g) (hg : ∀ a, (g a).addr = a.addr ∧ (g a).place = some pl ∧
      ((g a).former = a.former ∨ (g a).former = none)) : t.Distinct := by
  unfold State.Distinct
  rw [ht]
  exact Machine.Distinct.take h hfree hg

theorem State.Distinct.attach (h : s.Distinct) {n : Nat} {pl : Place} (hfree : s.FreeFor n pl) : (s.attach n pl).Distinct :=
  h.take hfree (s.attach_clients n pl) fun _ => ⟨rfl, rfl, .inr rfl⟩

/-- R53: after a supersession nobody has the former place. -/
theorem State.Distinct.supersede (h : s.Distinct) (c : LinkNo) (a : AssocNo) :
    (s.supersede c a).Distinct ∧ (∀ n pl, s.FreeFor n pl → (s.supersede c a).FreeFor n pl)
    ∧ ∀ m b, (s.supersede c a).clients.shapes.get m = some b → b.former ≠ some (c, a) := by
  have hbyFormer : ∀ m r, s.record m = some r → r.st.former = some (c, a) → ∃ e, s.byFormer c a = some e := by
    intro m r hr hf
    rw [← Option.ne_none_iff_exists']
    intro hnone
    have := (State.findRecord_eq_none_iff h.wf _).1 hnone m r hr
    simp [hf] at this
  have hnone : ∀ m b, s.clients.shapes.get m = some b → b.former = some (c, a) → ∃ e, s.byFormer c a = some e := by
    intro m b hb hf
    rw [State.shapes_get, Option.map_eq_some_iff] at hb
    obtain ⟨r, hr, rfl⟩ := hb
    exact hbyFormer m r hr hf
  unfold State.supersede
  split
  · next hno =>
    refine ⟨h, fun _ _ hf => hf, fun m b hb hf => ?_⟩
    obtain ⟨e, he⟩ := hnone m b hb hf
    simp [hno] at he
  · next k x hat =>
    have hfound := State.findRecord_some h.wf hat
    obtain ⟨hk, hxf⟩ := hfound
    have hxf : x.st.former = some (c, a) := by simpa using hxf
    refine ⟨h.completeMove k _, ?_⟩
    have hshape := State.shapes_get_of_record hk
    have hunique : ∀ m b, m ≠ k → s.clients.shapes.get m = some b → b.former ≠ some (c, a) := fun m b hm hb =>
      (h.2 k m _ b hm.symm hshape hb).2.2 (c, a) hxf
    have hc : ∃ pl, x.st.place = some pl ∧ (s.completeMove k fun n => { n with supersessions := bump n.supersessions }).clients
        = s.clients.on k (RecordOutline.attachedAt pl) := by
      unfold State.completeMove
      cases hst : x.st with
      | lingering t => simp [hst, RecordState.former] at hxf
      | attached pl idle => simp [hst, RecordState.former] at hxf
      | moving pl d b deadline hold => exact ⟨pl, rfl, by simp [hk, hst, State.attach_clients]⟩
    obtain ⟨pl, hpl, hc⟩ := hc
    refine ⟨fun n q hfree m b hm hb => ?_, fun m b hb => ?_⟩
    · rw [hc, Clients.on, Table.get_modify] at hb
      split at hb
      · next hmk =>
        obtain ⟨y, hy, rfl⟩ := Option.map_eq_some_iff.1 hb
        obtain rfl : x.outline = y := Option.some.inj (hshape.symm.trans hy)
        exact fun heq => hfree k _ (hmk ▸ hm) hshape (hpl.trans heq)
      · exact hfree m b hm hb
    · rw [hc, Clients.on, Table.get_modify] at hb
      split at hb
      · obtain ⟨y, hy, rfl⟩ := Option.map_eq_some_iff.1 hb
        simp [RecordOutline.attachedAt]
      · next hmk => exact hunique m b hmk hb

/-- R54: the record is MOVING to its target from its former place. -/
theorem State.beginMove_clients (s : State) (n : Nat) (c : LinkNo) (a : AssocNo) (target : Place) :
    (s.beginMove n c a target).clients = (s.supersede c a).clients.on n (RecordOutline.movingTo target c a []) := by
  unfold State.beginMove
  have h1 : ∀ (t : State) deadline, (t.onRecord n fun r => { r with st := .moving target c a deadline [] }).clients
      = t.clients.on n (RecordOutline.movingTo target c a []) := fun t deadline => State.onRecord_clients fun _ _ => rfl
  dsimp only
  rw [State.countMc_clients, h1, State.sendRadio_clients, h1]
  exact Clients.ext (Table.modify_modify _ _ _ _) rfl

theorem State.Distinct.beginMove (h : s.Distinct) {n : Nat} (c : LinkNo) (a : AssocNo) {target : Place} (hfree : s.FreeFor n target) :
    (s.beginMove n c a target).Distinct := by
  obtain ⟨hd, hkeep, hformer⟩ := h.supersede c a
  unfold State.Distinct
  rw [State.beginMove_clients]
  refine Machine.Distinct.modify hd fun x hx m b hm hb => ?_
  refine ⟨(hd.2 n m x b hm.symm hx hb).1, fun pl hpl => ?_, fun f hf => ?_⟩
  · obtain rfl : target = pl := Option.some.inj hpl
    exact hkeep n _ hfree m b hm hb
  · obtain rfl : (c, a) = f := Option.some.inj hf
    exact hformer m b hb

theorem State.Distinct.retarget (h : s.Distinct) {n : Nat} {target : Place} (hfree : s.FreeFor n target) : (s.retarget n target).Distinct := by
  unfold State.retarget
  split
  · exact h
  · next r hr =>
    split
    · next old c a deadline hold hst =>
      refine h.take (g := fun x => { x with place := some target }) hfree ?_ fun _ => ⟨rfl, rfl, .inl rfl⟩
      have hmoved := State.onRecord_clients (s := s.abandonTarget old) (n := n)
        (f := fun x => { x with st := .moving target c a deadline hold }) (g := fun x => { x with place := some target }) fun x hx => by
          have hxr : (s.abandonTarget old).record n = s.record n := by
            unfold State.abandonTarget
            cases old <;> simp [State.record]
          obtain rfl : r = x := Option.some.inj (hr.symm.trans (hxr.symm.trans hx))
          simp [Record.outline, hst, RecordState.place, RecordState.former, RecordState.hold, RecordState.isLingering]
      rw [State.abandonTarget_clients] at hmoved
      exact hmoved
    · exact h

theorem State.Distinct.cancelMove (h : s.Distinct) {n : Nat} {pl : Place} (hfree : s.FreeFor n pl) : (s.cancelMove n pl).Distinct := by
  unfold State.cancelMove
  (repeat' split)
  · exact h
  · next old _ _ _ hold _ =>
    refine State.Distinct.of_clients (s := (s.abandonTarget old).attach n pl) ?_ ?_
    · simp
    · exact (h.of_clients (s.abandonTarget_clients old)).attach (hfree.of_clients (s.abandonTarget_clients old))
  · exact h

/-- R7: the new record has the client's address and the place. -/
theorem State.create_clients {t : State} {x : Addr} {pl : Place} {n : Nat} (h : s.create x pl = some (n, t)) :
    t.clients = { s.clients with shapes := s.clients.shapes.put n (s.newRecord x pl).outline } := by
  simp only [State.create, Option.map_eq_some_iff, Prod.mk.injEq] at h
  obtain ⟨⟨m, reclaimed⟩, _, rfl, rfl⟩ := h
  exact Clients.ext (Table.put_mapValues Record.outline _ _ _) rfl

theorem State.Distinct.create (h : s.Distinct) {t : State} {x : Addr} {pl : Place} {n : Nat} (hcreate : s.create x pl = some (n, t))
    (hx : s.byAddr x = none) (hfree : s.FreeFor n pl) : t.Distinct := by
  unfold State.Distinct
  rw [State.create_clients hcreate]
  refine Machine.Distinct.put h fun m b hm hb => ⟨?_, fun q hq => ?_, fun f hf => ?_⟩
  · rw [State.shapes_get, Option.map_eq_some_iff] at hb
    obtain ⟨r, hr, rfl⟩ := hb
    exact ((State.byAddr_eq_none_iff h.wf x).1 hx m r hr).symm
  · obtain rfl : pl = q := Option.some.inj hq
    exact hfree m b hm hb
  · exact absurd hf (by simp [Record.outline, State.newRecord, RecordState.former])

theorem State.Distinct.clearSeat (h : s.Distinct) (p : SeatNo) (n : Option Nat) : (s.clearSeat p n).Distinct := by
  unfold State.clearSeat
  (repeat' split)
  · exact h
  · exact h
  · exact h.enterLingering _

/-- R8: the seat cleared for a record is free for it. -/
theorem State.Distinct.clearSeat_freeFor (h : s.Distinct) (p : SeatNo) (n : Nat) : (s.clearSeat p (some n)).FreeFor n (.seat p) := by
  unfold State.clearSeat
  split
  · next hnone => exact State.freeFor_of_atPlace h.wf hnone n
  · next m r hat =>
    split
    · next hmn =>
      obtain rfl := Option.some.inj hmn
      obtain ⟨hr, hpl⟩ := State.atPlace_some h.wf hat
      exact h.freeFor hr hpl
    · exact State.freeFor_of_atPlace (h.enterLingering m).wf (State.atPlace_enterLingering h.wf h.placesInv hat) n

theorem State.Distinct.learnSeat (h : s.Distinct) (p : SeatNo) (x : Addr) : (s.learnSeat p x).1.Distinct := by
  unfold State.learnSeat
  split
  · next hx =>
    dsimp only
    split
    · next hcreate =>
      refine (h.clearSeat p none).create hcreate ?_ ?_
      · unfold State.clearSeat
        split
        · exact hx
        · next hat => simpa using State.byAddr_enterLingering_eq_none h.wf hat hx
      · exact State.freeFor_of_atPlace (h.clearSeat p none).wf (State.occupant_clearSeat h.wf h.placesInv p) _
    · exact (h.clearSeat p none).of_clients (by simp)
  · next n r hx =>
    obtain ⟨hr, _⟩ := State.findRecord_some h.wf hx
    have hd := h.clearSeat p (some n)
    have hfree := h.clearSeat_freeFor p n
    split
    · next q idle hst =>
      split
      · next hq => exact h.attach (h.freeFor hr (by rw [hst, hq]; rfl))
      · exact (hd.of_clients (State.discardQueue_clients _ _)).attach (hfree.of_clients (State.discardQueue_clients _ _))
    · exact hd.beginMove _ _ hfree
    · split
      · exact h
      · exact hd.retarget hfree
    · exact hd.attach hfree

theorem State.Distinct.clearNumber (h : s.Distinct) (x : Addr) (c : LinkNo) (a : AssocNo) : (s.clearNumber x c a).Distinct := by
  unfold State.clearNumber
  cases s.displaced x c a with
  | none => exact h
  | some m => exact h.enterLingering m

/-- R14: whoever still has the number is the client itself. -/
theorem State.Distinct.clearNumber_owner (h : s.Distinct) (x : Addr) (c : LinkNo) (a : AssocNo) {m : Nat} {r : Record}
    (hr : (s.clearNumber x c a).record m = some r) (hpl : r.st.place = some (.ceiling c a)) : r.addr = x := by
  unfold State.clearNumber State.displaced at hr
  cases hat : s.atPlace (.ceiling c a) with
  | none =>
    rw [hat] at hr
    exact absurd hpl ((State.atPlace_eq_none_iff h.wf _).1 hat m r hr)
  | some e =>
    obtain ⟨k, y⟩ := e
    simp only [hat] at hr
    split at hr
    · next hy =>
      obtain ⟨hk, hyp⟩ := State.atPlace_some h.wf hat
      obtain rfl := h.placesInv.record_unique hr hk hpl hyp
      obtain rfl : r = y := Option.some.inj (hr.symm.trans hk)
      exact hy
    · exact absurd hpl ((State.atPlace_eq_none_iff (h.enterLingering k).wf _).1
        (State.atPlace_enterLingering h.wf h.placesInv hat) m r hr)

theorem State.Distinct.takeNumber (h : s.Distinct) {x : Addr} {c : LinkNo} {a : AssocNo}
    (howner : ∀ m r, s.record m = some r → r.st.place = some (.ceiling c a) → r.addr = x) : (s.takeNumber x c a).Distinct := by
  unfold State.takeNumber
  split
  · next hx =>
    split
    · next hcreate =>
      refine h.create hcreate hx (State.freeFor_of_record fun m r _ hr hpl => ?_)
      exact (State.byAddr_eq_none_iff h.wf x).1 hx m r hr (howner m r hr hpl)
    · exact h
  · next n r hx =>
    obtain ⟨hr, hrx⟩ := State.findRecord_some h.wf hx
    have hrx : r.addr = x := by simpa using hrx
    have hfree : s.FreeFor n (.ceiling c a) := State.freeFor_of_record fun m y hm hy hpl =>
      (h.2 m n _ _ hm (State.shapes_get_of_record hy) (State.shapes_get_of_record hr)).1 ((howner m y hy hpl).trans hrx.symm)
    split
    · exact h.attach hfree
    · exact (h.of_clients (State.discardQueue_clients _ _)).attach (hfree.of_clients (State.discardQueue_clients _ _))
    · split
      · exact h.attach hfree
      · exact h.beginMove _ _ hfree
    · next target f b deadline hold hst =>
      split
      · exact h.cancelMove hfree
      · split
        · refine h.take (g := fun y => { y with place := some (.ceiling c a) }) hfree ?_ fun _ => ⟨rfl, rfl, .inl rfl⟩
          refine State.onRecord_clients fun y hy => ?_
          obtain rfl : r = y := Option.some.inj (hr.symm.trans hy)
          simp [Record.outline, hst, RecordState.place, RecordState.former, RecordState.hold, RecordState.isLingering]
        · exact h.retarget hfree

theorem State.Distinct.handOver (h : s.Distinct) (x : Addr) (c : LinkNo) (a : AssocNo) : (s.handOver x c a).Distinct := by
  rw [State.handOver_eq]
  exact (h.clearNumber x c a).takeNumber fun m r hr hpl => h.clearNumber_owner x c a hr hpl

theorem State.Distinct.learnAndSubmit (h : s.Distinct) (p : SeatNo) (frame : Bytes) : (s.learnAndSubmit p frame).Distinct := by
  unfold State.learnAndSubmit
  split
  · exact h
  · next k s1 hclaim =>
    have hlearned : (((s1.countSeat p fun c => { c with accepted := bump c.accepted }).learnSeat p (frameSrc frame)).1).Distinct :=
      State.Distinct.learnSeat ((h.of_clients (State.claim_clients hclaim)).of_clients (State.countSeat_clients _ p _)) p (frameSrc frame)
    dsimp only
    split
    · exact hlearned.submit _ _
    · exact hlearned.of_clients (State.settle_clients _ _)

/-- R53: a record that is ATTACHED owns a DATA message's number by its place. -/
theorem State.dataOwner_place (hw : s.ct.records.wf = true) {c : LinkNo} {a : AssocNo} {x : Addr} {n : Nat}
    (h : s.dataOwner c a x = .record n true) : ∃ r, s.record n = some r ∧ r.st.place = some (.ceiling c a) := by
  have howner : ∀ {o : Option (Nat × Record)} {e : Nat × Record}, ownerIf x o = some e → o = some e := by
    intro o e ho
    unfold ownerIf at ho
    (repeat' split at ho) <;> simp_all
  unfold State.dataOwner at h
  dsimp only at h
  split at h
  · next hm =>
    obtain ⟨rfl, _⟩ := DataOwner.record.inj h
    exact ⟨_, State.atPlace_some hw (howner hm)⟩
  · cases h
  · split at h <;> cases h

theorem State.Distinct.acceptData (h : s.Distinct) {c : LinkNo} {n : Nat} {attached : Bool} {a : AssocNo} {x : Addr}
    (howner : s.dataOwner c a x = .record n attached) (frame : Bytes) : (s.acceptData c n attached (.ceiling c a) frame).Distinct := by
  unfold State.acceptData
  split
  · exact h
  · next k s1 hclaim =>
    have hclients : (s1.countLink c fun y => { y with accepted := bump y.accepted }).clients = s.clients :=
      (State.countLink_clients s1 c _).trans (State.claim_clients hclaim)
    have hd := h.of_clients hclients
    dsimp only
    split
    · next hatt =>
      subst hatt
      obtain ⟨r, hr, hpl⟩ := State.dataOwner_place h.wf howner
      exact (hd.attach ((h.freeFor hr hpl).of_clients hclients)).submit _ _
    · exact hd.submit _ _

end Taking

theorem distinct_coupling : CouplingClosed fun s t => s.Distinct → t.Distinct where
  trans h1 h2 h := h2 (h1 h)
  quiet ho h := h.of_clients (State.clients_of_outline ho)
  discardQueue s port h := h.of_clients (s.discardQueue_clients port)
  compose s side reset frame h := h.of_clients (s.compose_clients side reset frame)
  enterHold _ h := h.enterHold
  filterStations _ _ h := h

/-- Every effect keeps the addresses, the places and the former places distinct. -/
theorem distinct_closed : Closed fun s t => s.Distinct → t.Distinct where
  trans h1 h2 h := h2 (h1 h)
  quiet ho h := h.of_clients (State.clients_of_outline ho)
  discardQueue s port h := h.of_clients (s.discardQueue_clients port)
  completeTransmission s port h := h.of_clients (s.completeTransmission_clients port)
  enterLingering _ n h := h.enterLingering n
  vacate _ n h := h.vacate n
  completeMove _ n count h := h.completeMove n count
  setClass _ n new h := h.setClass n new
  releasePass _ g h := h.releasePass g
  enterHold _ h := h.enterHold
  compose s side reset frame h := h.of_clients (s.compose_clients side reset frame)
  loopFrame s p frame h := h.of_clients (s.loopFrame_clients p frame)
  learnAndSubmit _ p frame h := h.learnAndSubmit p frame
  acceptData _ _ _ _ _ _ frame howner h := h.acceptData howner frame
  handOver _ x c a h := h.handOver x c a
  insertDeferral _ _ _ h := h
  removeDeferral _ _ h := h
  filterEntitlements _ _ h := h
  putEntitlement _ _ _ h := h
  filterStations _ _ h := h
  enrol _ _ _ _ _ _ _ h := h
  reduceRoles _ _ _ _ h := h
  append s port e _ h := h.of_clients (s.append_clients port e false)
  holdFrame _ n k _ h := h.holdFrame n k
  rederive _ side _ h := distinct_coupling.rederive (fun _ _ _ h => h) _ side h

theorem State.settleInHand_clients (s : State) : s.settleInHand.clients = s.clients := by
  unfold State.settleInHand
  split
  · rfl
  · next k _ => exact s.settle_clients k

theorem distinct_keptBySteps : KeptBySteps State.Distinct State.Distinct :=
  distinct_closed.keptBySteps (fun h => h) (fun h => h) (fun _ h => h) (fun _ h _ => h)
    (fun h _ hc => (h.of_clients (State.claim_clients hc) :)) (fun s h => h.of_clients s.settleInHand_clients)
    fun _ _ _ _ => ⟨rfl, fun _ _ _ _ _ h => by cases h⟩

end Sys2Proof.Machine

namespace Sys2Proof.Proofs

open Sys2Proof.Machine

/-- Settles O58: a client takes an address, a place or a former place only once nobody else has it. -/
theorem placesStayDistinct : Obligations.PlacesStayDistinct := fun _ _ hinv hplaces hstep =>
  (distinct_keptBySteps.step ((distinct_iff hinv.records.1).1 hplaces) hstep).placesInv

end Sys2Proof.Proofs
end

section
/-! SUPPORT and PROOFS. The Waiting List agrees with the parked lists (O59). -/

namespace Sys2Proof.Machine

/-! ### Clients whose Waiting List agrees -/

/-- R1 and R86 of the clients. -/
def Clients.Waits (c : Clients) : Prop :=
  c.shapes.wf = true ∧ c.waiting.Nodup ∧ (∀ n, n ∈ c.waiting ↔ ∃ a, c.shapes.get n = some a ∧ a.parked ≠ [])
    ∧ ∀ n a, c.shapes.get n = some a → a.parked.length ≤ 4 ∧ (a.lingering = true → a.parked = [])

/-- The invariant says that the clients' Waiting List agrees. -/
theorem waits_iff {s : State} (hw : s.ct.records.wf = true) : WaitingInv s ↔ s.clients.Waits := by
  have hget : ∀ {n a}, s.clients.shapes.get n = some a ↔ ∃ r, s.record n = some r ∧ r.outline = a := by
    intro n a
    rw [State.shapes_get, Option.map_eq_some_iff]
  have hwaiting : ∀ n, (∃ a, s.clients.shapes.get n = some a ∧ a.parked ≠ []) ↔ ∃ r, s.record n = some r ∧ r.parked ≠ [] := by
    intro n
    constructor
    · rintro ⟨a, ha, hne⟩
      obtain ⟨r, hr, rfl⟩ := hget.1 ha
      exact ⟨r, hr, hne⟩
    · rintro ⟨r, hr, hne⟩
      exact ⟨r.outline, hget.2 ⟨r, hr, rfl⟩, hne⟩
  have hlists : (∀ n a, s.clients.shapes.get n = some a → a.parked.length ≤ 4 ∧ (a.lingering = true → a.parked = []))
      ↔ ∀ e ∈ s.ct.records, e.2.parked.length ≤ 4 ∧ (e.2.st.isLingering = true → e.2.parked = []) := by
    constructor
    · intro h e he
      exact h e.1 e.2.outline (hget.2 ⟨e.2, Table.get_of_mem hw he, rfl⟩)
    · intro h n a ha
      obtain ⟨r, hr, rfl⟩ := hget.1 ha
      exact h (n, r) (Table.get_mem _ _ _ hr)
  unfold WaitingInv Clients.Waits
  rw [State.shapes_wf, and_iff_right hw]
  simp only [hwaiting, hlists]
  rfl

namespace Clients.Waits

variable {c : Clients}

theorem not_mem_waiting (h : c.Waits) {n : Nat} (hn : ∀ a, c.shapes.get n = some a → a.parked = []) : n ∉ c.waiting := by
  obtain ⟨_, _, hwaiting, _⟩ := h
  rw [hwaiting]
  rintro ⟨a, ha, hne⟩
  exact hne (hn a ha)

/-- A change of a shape that keeps the parked list and does not make the record LINGERING. -/
theorem on (h : c.Waits) {n : Nat} {g : RecordOutline → RecordOutline} (hparked : ∀ a, (g a).parked = a.parked)
    (hling : ∀ a, c.shapes.get n = some a → (g a).lingering = true → a.lingering = true) : (c.on n g).Waits := by
  obtain ⟨hw, hnodup, hwaiting, hlists⟩ := h
  refine ⟨Table.modify_wf _ n g hw, hnodup, fun m => ?_, fun m b hb => ?_⟩
  · rw [Clients.on, hwaiting, Table.get_modify]
    split
    · next hm => simp [hm, hparked]
    · rfl
  · rw [Clients.on, Table.get_modify] at hb
    split at hb
    · obtain ⟨a, ha, rfl⟩ := Option.map_eq_some_iff.1 hb
      obtain ⟨hlen, hl⟩ := hlists n a ha
      rw [hparked]
      exact ⟨hlen, fun hg => hl (hling a ha hg)⟩
    · exact hlists m b hb

/-- What stands at one number becomes something without parked entries, or nothing, and the number leaves the Waiting List. -/
theorem leave (h : c.Waits) {n : Nat} {t : Table RecordOutline} (hw : t.wf = true) (hself : ∀ a, t.get n = some a → a.parked = [])
    (hother : ∀ m, m ≠ n → t.get m = c.shapes.get m) : Waits { shapes := t, waiting := c.waiting.filter fun m => m != n } := by
  obtain ⟨_, hnodup, hwaiting, hlists⟩ := h
  refine ⟨hw, hnodup.filter _, fun m => ?_, fun m b hb => ?_⟩
  · simp only [List.mem_filter, bne_iff_ne, hwaiting]
    constructor
    · rintro ⟨ha, hne⟩
      rwa [hother m hne]
    · rintro ⟨a, ha, hne⟩
      have hmn : m ≠ n := by
        rintro rfl
        exact hne (hself a ha)
      exact ⟨⟨a, hother m hmn ▸ ha, hne⟩, hmn⟩
  · change t.get m = some b at hb
    by_cases hmn : m = n
    · subst hmn
      simp [hself b hb]
    · exact hlists m b (hother m hmn ▸ hb)

theorem leave_modify (h : c.Waits) {n : Nat} {g : RecordOutline → RecordOutline} (hg : ∀ a, (g a).parked = []) :
    (c.leave n g).Waits := by
  refine h.leave (Table.modify_wf _ n g h.1) (fun b hb => ?_) fun m hm => Table.get_modify_of_ne _ _ hm
  rw [Table.get_modify_self] at hb
  obtain ⟨a, _, rfl⟩ := Option.map_eq_some_iff.1 hb
  exact hg a

/-- A record without parked entries put where none were. -/
theorem put (h : c.Waits) {n : Nat} {a : RecordOutline} (hold : ∀ b, c.shapes.get n = some b → b.parked = []) (ha : a.parked = []) :
    Waits { c with shapes := c.shapes.put n a } := by
  have hnot := h.not_mem_waiting hold
  have hfilter : c.waiting = c.waiting.filter fun m => m != n := by
    rw [eq_comm, List.filter_eq_self]
    intro m hm
    simp only [bne_iff_ne]
    rintro rfl
    exact hnot hm
  have hput := h.leave (Table.put_wf _ n a h.1) (n := n) (fun b hb => ?_) fun m hm => Table.get_put_of_ne _ _ _ _ hm
  · rwa [← hfilter] at hput
  · rw [Table.get_put_self] at hb
    exact Option.some.inj hb ▸ ha

/-- R85, R86: a frame parked. -/
theorem park (h : c.Waits) {n : Nat} {a : RecordOutline} (slot : Nat) (ha : c.shapes.get n = some a) (hling : a.lingering = false)
    (hroom : a.parked.length < 4) : (c.park slot n a).Waits := by
  have hnot : a.parked = [] → n ∉ c.waiting := fun he => h.not_mem_waiting fun b hb => by
    obtain rfl := Option.some.inj (ha.symm.trans hb)
    exact he
  obtain ⟨hw, hnodup, hwaiting, hlists⟩ := h
  have hget : ∀ m, (c.park slot n a).shapes.get m = if m = n then some (a.parking slot) else c.shapes.get m := fun m => by
    rw [Clients.park, Table.get_modify, ha]
    rfl
  refine ⟨Table.modify_wf _ n _ hw, ?_, fun m => ?_, fun m b hb => ?_⟩
  · unfold Clients.park
    dsimp only
    split
    · next he =>
      exact List.nodup_append.2 ⟨hnodup, List.nodup_singleton n, fun x hx y hy hxy =>
        hnot he (List.mem_singleton.1 hy ▸ hxy ▸ hx)⟩
    · exact hnodup
  · rw [hget]
    have hmem : m ∈ (c.park slot n a).waiting ↔ m ∈ c.waiting ∨ m = n := by
      unfold Clients.park
      dsimp only
      split
      · simp
      · next hne =>
        refine ⟨.inl, fun hm => hm.elim id fun hmn => ?_⟩
        rw [hmn, hwaiting]
        exact ⟨a, ha, hne⟩
    rw [hmem, hwaiting]
    split
    · next hmn => simp [hmn, RecordOutline.parking]
    · next hmn => simp [hmn]
  · rw [hget] at hb
    split at hb
    · obtain rfl := Option.some.inj hb
      simp only [RecordOutline.parking, List.length_append, List.length_singleton, hling]
      exact ⟨by omega, fun h => by cases h⟩
    · exact hlists m b hb

/-- R90: a record that keeps some of its parked entries keeps its place in the Waiting List. -/
theorem stillParked (h : c.Waits) {n : Nat} {a : RecordOutline} {rest : List Nat} (ha : c.shapes.get n = some a)
    (hsuffix : rest <:+ a.parked) (hrest : rest ≠ []) : (c.on n (RecordOutline.stillParked rest)).Waits := by
  obtain ⟨hw, hnodup, hwaiting, hlists⟩ := h
  have hne : a.parked ≠ [] := fun he => hrest (List.eq_nil_of_suffix_nil (he ▸ hsuffix))
  obtain ⟨hlen, hling⟩ := hlists n a ha
  refine ⟨Table.modify_wf _ n _ hw, hnodup, fun m => ?_, fun m b hb => ?_⟩
  · rw [Clients.on, hwaiting, Table.get_modify, ha]
    split
    · next hmn =>
      rw [hmn]
      exact iff_of_true ⟨a, ha, hne⟩ ⟨a.stillParked rest, rfl, hrest⟩
    · rfl
  · rw [Clients.on, Table.get_modify, ha] at hb
    split at hb
    · obtain rfl := Option.some.inj hb
      exact ⟨hsuffix.length_le.trans hlen, fun hl => absurd (hling hl) hne⟩
    · exact hlists m b hb

/-- R96: nobody waits once no entry is parked. -/
theorem unparkAll (h : c.Waits) : Waits { shapes := c.shapes.mapValues RecordOutline.unparked, waiting := [] } := by
  have hparked : ∀ {n a}, (c.shapes.mapValues RecordOutline.unparked).get n = some a → a.parked = [] := fun ha => by
    rw [Table.get_mapValues] at ha
    obtain ⟨b, _, rfl⟩ := Option.map_eq_some_iff.1 ha
    rfl
  refine ⟨by rw [Table.mapValues_wf, h.1], List.nodup_nil, fun n => ?_, fun n a ha => ?_⟩
  · simp only [List.not_mem_nil, false_iff]
    rintro ⟨a, ha, hne⟩
    exact hne (hparked ha)
  · simp [hparked ha]

end Clients.Waits

/-! ### The operations on records -/

/-- The invariant of a state whose Client Table is in canonical form. -/
def State.Waits (s : State) : Prop := s.clients.Waits

namespace State.Waits

variable {s : State}

theorem wf (h : s.Waits) : s.ct.records.wf = true := by
  rw [← State.shapes_wf]
  exact h.1

theorem of_clients {t : State} (hc : t.clients = s.clients) (h : s.Waits) : t.Waits := by
  unfold State.Waits
  rwa [hc]

theorem enterLingering (h : s.Waits) (n : Nat) : (s.enterLingering n).Waits := by
  obtain hc | hc := s.enterLingering_clients n
  · exact h.of_clients hc
  · unfold State.Waits
    rw [hc]
    exact h.leave_modify fun _ => rfl

theorem vacate (h : s.Waits) (n : Nat) : (s.vacate n).Waits := by
  obtain hc | hc := s.vacate_clients n
  · exact h.of_clients hc
  · unfold State.Waits
    rw [hc]
    exact h.leave (Table.del_wf _ n h.1) (fun a ha => by simp [Table.get_del_self] at ha) fun m hm => Table.get_del_of_ne _ _ _ hm

theorem on {t : State} (h : s.Waits) {n : Nat} {g : RecordOutline → RecordOutline} (ht : t.clients = s.clients.on n g)
    (hparked : ∀ a, (g a).parked = a.parked)
    (hling : ∀ a, s.clients.shapes.get n = some a → (g a).lingering = true → a.lingering = true) : t.Waits := by
  unfold State.Waits
  rw [ht]
  exact Clients.Waits.on h hparked hling

theorem attach (h : s.Waits) (n : Nat) (pl : Place) : (s.attach n pl).Waits :=
  h.on (s.attach_clients n pl) (fun _ => rfl) fun _ _ hl => by cases hl

theorem completeMove (h : s.Waits) (n : Nat) (count : McCounters → McCounters) : (s.completeMove n count).Waits := by
  obtain hc | ⟨a, pl, _, _, _, hc⟩ := s.completeMove_clients n count
  · exact h.of_clients hc
  · exact h.on hc (fun _ => rfl) fun _ _ hl => by cases hl

theorem setClass (h : s.Waits) (n : Nat) (new : Class) : (s.setClass n new).Waits := by
  obtain hc | hc := State.setClass_clients h.wf n new
  · exact h.of_clients hc
  · unfold State.Waits
    rw [hc]
    exact h.leave_modify fun _ => rfl

theorem releaseRecord (h : s.Waits) (g : Grant) (cls : Class) (n : Nat) : (s.releaseRecord g cls n).Waits := by
  obtain hc | ⟨a, rest, ha, hsuffix, hc⟩ := State.releaseRecord_clients h.wf g cls n
  · exact h.of_clients hc
  · unfold State.Waits
    rw [hc]
    split
    · next hrest => exact h.leave_modify fun _ => hrest
    · next hrest => exact h.stillParked ha hsuffix hrest

theorem releasePass (h : s.Waits) (g : Grant) : (s.releasePass g).Waits :=
  foldl_holds (p := State.Waits) (fun _ cls ht => foldl_holds (p := State.Waits) (fun _ n hu => hu.releaseRecord g cls n) _ ht) _ h

theorem enterHold (h : s.Waits) : s.enterHold.Waits := by
  unfold State.Waits
  rw [State.enterHold_clients]
  exact Clients.Waits.unparkAll h

/-- R85: only a record in use that is not LINGERING may have entries parked. -/
theorem submit (h : s.Waits) (slot : Nat) {n : Nat} (hling : ∀ a, s.clients.shapes.get n = some a → a.lingering = false) :
    (s.submit slot n).Waits := by
  obtain hc | ⟨a, ha, hroom, hc⟩ := State.submit_clients h.wf slot n
  · exact h.of_clients hc
  · unfold State.Waits
    rw [hc]
    exact h.park slot ha (hling a ha) hroom

theorem holdFrame (h : s.Waits) (n slot : Nat) : (s.holdFrame n slot).Waits := by
  obtain hc | hc := s.holdFrame_clients n slot
  · exact h.of_clients hc
  · exact h.on hc (fun _ => rfl) fun _ _ hl => hl

/-! ### A client takes a place -/

theorem supersede (h : s.Waits) (c : LinkNo) (a : AssocNo) : (s.supersede c a).Waits := by
  unfold State.supersede
  split
  · exact h
  · exact h.completeMove _ _

theorem beginMove (h : s.Waits) (n : Nat) (c : LinkNo) (a : AssocNo) (target : Place) : (s.beginMove n c a target).Waits :=
  (h.supersede c a).on (s.beginMove_clients n c a target) (fun _ => rfl) fun _ _ hl => by cases hl

theorem onRecord_moving (h : s.Waits) (n : Nat) (target : Place) (c : LinkNo) (a : AssocNo) (deadline : Timer) (hold : List Nat) :
    (s.onRecord n fun x => { x with st := .moving target c a deadline hold }).Waits :=
  h.on (State.onRecord_clients (g := RecordOutline.movingTo target c a hold) fun _ _ => rfl) (fun _ => rfl) fun _ _ hl => by cases hl

theorem retarget (h : s.Waits) (n : Nat) (target : Place) : (s.retarget n target).Waits := by
  unfold State.retarget
  (repeat' split)
  · exact h
  · exact ((h.of_clients (s.abandonTarget_clients _)).onRecord_moving n _ _ _ _ _ :)
  · exact h

theorem cancelMove (h : s.Waits) (n : Nat) (pl : Place) : (s.cancelMove n pl).Waits := by
  unfold State.cancelMove
  (repeat' split)
  · exact h
  · next old _ _ _ hold _ =>
    exact ((h.of_clients (s.abandonTarget_clients old)).attach n pl).of_clients (by simp)
  · exact h

/-- R4: a record obtained has no parked entries, as it is VACANT or LINGERING. -/
theorem create (h : s.Waits) {t : State} {x : Addr} {pl : Place} {n : Nat} (hcreate : s.create x pl = some (n, t)) : t.Waits := by
  have hold : ∀ b, s.clients.shapes.get n = some b → b.parked = [] := by
    intro b hb
    simp only [State.create, Option.map_eq_some_iff, Prod.mk.injEq] at hcreate
    obtain ⟨⟨m, reclaimed⟩, hobtain, rfl, rfl⟩ := hcreate
    have hshape := hb
    rw [State.shapes_get, Option.map_eq_some_iff] at hb
    obtain ⟨r, hr, rfl⟩ := hb
    refine (h.2.2.2 m _ hshape).2 ?_
    have hplace := State.place_of_obtain h.wf hobtain hr
    cases hst : r.st <;> simp [hst, RecordState.place] at hplace
    simp [Record.outline, hst, RecordState.isLingering]
  unfold State.Waits
  rw [State.create_clients hcreate]
  exact Clients.Waits.put h hold rfl

theorem clearSeat (h : s.Waits) (p : SeatNo) (n : Option Nat) : (s.clearSeat p n).Waits := by
  unfold State.clearSeat
  (repeat' split)
  · exact h
  · exact h
  · exact h.enterLingering _

theorem learnSeat (h : s.Waits) (p : SeatNo) (x : Addr) : (s.learnSeat p x).1.Waits := by
  unfold State.learnSeat
  split
  · dsimp only
    split
    · next hcreate => exact (h.clearSeat p none).create hcreate
    · exact (h.clearSeat p none).of_clients (by simp)
  · split
    · split
      · exact h.attach _ _
      · exact ((h.clearSeat p _).of_clients (State.discardQueue_clients _ _)).attach _ _
    · exact (h.clearSeat p _).beginMove _ _ _ _
    · split
      · exact h
      · exact (h.clearSeat p _).retarget _ _
    · exact (h.clearSeat p _).attach _ _

theorem handOver (h : s.Waits) (x : Addr) (c : LinkNo) (a : AssocNo) : (s.handOver x c a).Waits := by
  have hclear : (s.clearNumber x c a).Waits := by
    unfold State.clearNumber
    cases s.displaced x c a with
    | none => exact h
    | some m => exact h.enterLingering m
  rw [State.handOver_eq]
  generalize s.clearNumber x c a = s1 at hclear
  unfold State.takeNumber
  split
  · split
    · next hcreate => exact hclear.create hcreate
    · exact hclear
  · split
    · exact hclear.attach _ _
    · exact (hclear.of_clients (State.discardQueue_clients _ _)).attach _ _
    · split
      · exact hclear.attach _ _
      · exact hclear.beginMove _ _ _ _
    · split
      · exact hclear.cancelMove _ _
      · split
        · exact hclear.onRecord_moving _ _ _ _ _ _
        · exact hclear.retarget _ _

end State.Waits

/-! ### The record that a client frame is charged to -/

/-- No record but a LINGERING one has neither place nor former place. -/
theorem Record.lingering_eq_false {r : Record} (h : r.st.place ≠ none) : r.outline.lingering = false := by
  cases hst : r.st with
  | lingering t => simp [hst, RecordState.place] at h
  | attached pl idle => simp [Record.outline, hst, RecordState.isLingering]
  | moving target c a deadline hold => simp [Record.outline, hst, RecordState.isLingering]

/-- Record `n` is not LINGERING, if in use. -/
def State.Awake (s : State) (n : Nat) : Prop := ∀ a, s.clients.shapes.get n = some a → a.lingering = false

theorem State.Awake.of_on {s t : State} {n : Nat} {g : RecordOutline → RecordOutline} (ht : t.clients = s.clients.on n g)
    (hg : ∀ a, (g a).lingering = false) : t.Awake n := by
  intro b hb
  rw [ht, Clients.on, Table.get_modify_self] at hb
  obtain ⟨a, _, rfl⟩ := Option.map_eq_some_iff.1 hb
  exact hg a

theorem State.awake_of_record {s : State} {n : Nat} {r : Record} (hr : s.record n = some r) (hpl : r.st.place ≠ none) : s.Awake n := by
  intro a ha
  rw [State.shapes_get_of_record hr] at ha
  exact Option.some.inj ha ▸ Record.lingering_eq_false hpl

theorem State.Awake.of_clients {s t : State} {n : Nat} (hc : t.clients = s.clients) (h : s.Awake n) : t.Awake n := by
  unfold State.Awake
  rwa [hc]

theorem State.attach_awake (s : State) (n : Nat) (pl : Place) : (s.attach n pl).Awake n :=
  .of_on (s.attach_clients n pl) fun _ => rfl

/-- R8: clearing a seat for a record leaves that record awake. -/
theorem State.Awake.clearSeat {s : State} {n : Nat} (h : s.Awake n) (p : SeatNo) : (s.clearSeat p (some n)).Awake n := by
  unfold State.clearSeat
  split
  · exact h
  · next m r hat =>
    split
    · exact h
    · next hne =>
      obtain hc | hc := s.enterLingering_clients m
      · exact h.of_clients hc
      · intro a ha
        rw [hc, Clients.leave, Table.get_modify_of_ne _ _ fun heq => hne (congrArg some heq.symm)] at ha
        exact h a ha

theorem State.Awake.retarget {s : State} {n : Nat} (h : s.Awake n) (target : Place) : (s.retarget n target).Awake n := by
  unfold State.retarget
  (repeat' split)
  · exact h
  · next old c a deadline hold _ =>
    have hmoved : ((s.abandonTarget old).onRecord n fun x => { x with st := .moving target c a deadline hold }).clients
        = (s.abandonTarget old).clients.on n (RecordOutline.movingTo target c a hold) := State.onRecord_clients fun _ _ => rfl
    exact .of_on hmoved fun _ => rfl
  · exact h

/-- R10 to R13: the record of the client a frame comes from is ATTACHED or MOVING. -/
theorem State.learnSeat_awake {s t : State} (hw : s.ct.records.wf = true) {p : SeatNo} {x : Addr} {n : Nat}
    (h : s.learnSeat p x = (t, some n)) : t.Awake n := by
  unfold State.learnSeat at h
  split at h
  · dsimp only at h
    split at h
    · next hcreate =>
      obtain ⟨rfl, hn⟩ := Prod.mk.inj h
      obtain rfl := Option.some.inj hn
      intro a ha
      rw [State.create_clients hcreate, Table.get_put_self] at ha
      exact Option.some.inj ha ▸ rfl
    · cases (Prod.mk.inj h).2
  · next m r hx =>
    obtain ⟨hr, _⟩ := State.findRecord_some hw hx
    split at h
    · split at h
      · obtain ⟨rfl, hn⟩ := Prod.mk.inj h
        obtain rfl := Option.some.inj hn
        exact s.attach_awake m _
      · obtain ⟨rfl, hn⟩ := Prod.mk.inj h
        obtain rfl := Option.some.inj hn
        exact State.attach_awake _ m _
    · next c a idle hst =>
      obtain ⟨rfl, hn⟩ := Prod.mk.inj h
      obtain rfl := Option.some.inj hn
      exact .of_on (State.beginMove_clients _ m c a _) fun _ => rfl
    · next target c a deadline hold hst =>
      have hawake : s.Awake m := State.awake_of_record hr (by simp [hst, RecordState.place])
      split at h
      · obtain ⟨rfl, hn⟩ := Prod.mk.inj h
        obtain rfl := Option.some.inj hn
        exact hawake
      · obtain ⟨rfl, hn⟩ := Prod.mk.inj h
        obtain rfl := Option.some.inj hn
        exact (hawake.clearSeat p).retarget _
    · obtain ⟨rfl, hn⟩ := Prod.mk.inj h
      obtain rfl := Option.some.inj hn
      exact State.attach_awake _ m _

theorem State.Waits.learnAndSubmit {s : State} (h : s.Waits) (p : SeatNo) (frame : Bytes) : (s.learnAndSubmit p frame).Waits := by
  unfold State.learnAndSubmit
  split
  · exact h
  · next k s1 hclaim =>
    have hclaimed : (s1.countSeat p fun c => { c with accepted := bump c.accepted }).Waits :=
      (h.of_clients (State.claim_clients hclaim)).of_clients (State.countSeat_clients _ p _)
    dsimp only
    split
    · next hn => exact (hclaimed.learnSeat p (frameSrc frame)).submit k (State.learnSeat_awake hclaimed.wf (Prod.ext rfl hn))
    · exact (hclaimed.learnSeat p (frameSrc frame)).of_clients (State.settle_clients _ _)

/-- R53: the record a DATA message is charged to is ATTACHED or MOVING. -/
theorem State.dataOwner_awake {s : State} (hw : s.ct.records.wf = true) {c : LinkNo} {a : AssocNo} {x : Addr} {n : Nat}
    {attached : Bool} (h : s.dataOwner c a x = .record n attached) : s.Awake n := by
  have howner : ∀ {o : Option (Nat × Record)} {e : Nat × Record}, ownerIf x o = some e → o = some e := by
    intro o e ho
    unfold ownerIf at ho
    (repeat' split at ho) <;> simp_all
  unfold State.dataOwner at h
  dsimp only at h
  split at h
  · next hm =>
    obtain ⟨rfl, _⟩ := DataOwner.record.inj h
    obtain ⟨hr, hpl⟩ := State.atPlace_some hw (howner hm)
    exact State.awake_of_record hr (by simp [hpl])
  · next m r _ hm =>
    obtain ⟨rfl, _⟩ := DataOwner.record.inj h
    obtain ⟨hr, hf⟩ := State.findRecord_some hw (howner hm)
    refine State.awake_of_record hr fun hpl => ?_
    cases hst : r.st <;> simp [hst, RecordState.place, RecordState.former] at hpl hf
  · split at h <;> cases h

theorem State.Waits.acceptData {s : State} (h : s.Waits) {c : LinkNo} {n : Nat} {attached : Bool} {a : AssocNo} {x : Addr}
    (howner : s.dataOwner c a x = .record n attached) (frame : Bytes) : (s.acceptData c n attached (.ceiling c a) frame).Waits := by
  unfold State.acceptData
  split
  · exact h
  · next k s1 hclaim =>
    have hclients : (s1.countLink c fun y => { y with accepted := bump y.accepted }).clients = s.clients :=
      (State.countLink_clients s1 c _).trans (State.claim_clients hclaim)
    dsimp only
    split
    · exact ((h.of_clients hclients).attach n _).submit k (State.attach_awake _ n _)
    · exact (h.of_clients hclients).submit k ((State.dataOwner_awake h.wf howner).of_clients hclients)

theorem waits_coupling : CouplingClosed fun s t => s.Waits → t.Waits where
  trans h1 h2 h := h2 (h1 h)
  quiet ho h := h.of_clients (State.clients_of_outline ho)
  discardQueue s port h := h.of_clients (s.discardQueue_clients port)
  compose s side reset frame h := h.of_clients (s.compose_clients side reset frame)
  enterHold _ h := h.enterHold
  filterStations _ _ h := h

/-- Every effect keeps the Waiting List in agreement with the parked lists. -/
theorem waits_closed : Closed fun s t => s.Waits → t.Waits where
  trans h1 h2 h := h2 (h1 h)
  quiet ho h := h.of_clients (State.clients_of_outline ho)
  discardQueue s port h := h.of_clients (s.discardQueue_clients port)
  completeTransmission s port h := h.of_clients (s.completeTransmission_clients port)
  enterLingering _ n h := h.enterLingering n
  vacate _ n h := h.vacate n
  completeMove _ n count h := h.completeMove n count
  setClass _ n new h := h.setClass n new
  releasePass _ g h := h.releasePass g
  enterHold _ h := h.enterHold
  compose s side reset frame h := h.of_clients (s.compose_clients side reset frame)
  loopFrame s p frame h := h.of_clients (s.loopFrame_clients p frame)
  learnAndSubmit _ p frame h := h.learnAndSubmit p frame
  acceptData _ _ _ _ _ _ frame howner h := h.acceptData howner frame
  handOver _ x c a h := h.handOver x c a
  insertDeferral _ _ _ h := h
  removeDeferral _ _ h := h
  filterEntitlements _ _ h := h
  putEntitlement _ _ _ h := h
  filterStations _ _ h := h
  enrol _ _ _ _ _ _ _ h := h
  reduceRoles _ _ _ _ h := h
  append s port e _ h := h.of_clients (s.append_clients port e false)
  holdFrame _ n k _ h := h.holdFrame n k
  rederive _ side _ h := waits_coupling.rederive (fun _ _ _ h => h) _ side h

theorem waits_keptBySteps : KeptBySteps State.Waits State.Waits :=
  waits_closed.keptBySteps (fun h => h) (fun h => h) (fun _ h => h) (fun _ h _ => h)
    (fun h _ hc => (h.of_clients (State.claim_clients hc) :)) (fun s h => h.of_clients s.settleInHand_clients)
    fun _ _ _ _ => ⟨rfl, List.nodup_nil, fun _ => ⟨fun h => (List.not_mem_nil h).elim, fun ⟨_, h, _⟩ => nomatch h⟩,
      fun _ _ h => nomatch h⟩

end Sys2Proof.Machine

namespace Sys2Proof.Proofs

open Sys2Proof.Machine

/-- Settles O59: a record joins the Waiting List with its first parked entry and leaves it with its last. -/
theorem waitingListAgrees : Obligations.WaitingListAgrees := fun _ _ hinv hwaiting hstep =>
  have h := waits_keptBySteps.step ((waits_iff hinv.records.1).1 hwaiting) hstep
  (waits_iff h.wf).2 h

end Sys2Proof.Proofs
end

section
/-! SUPPORT. Reference counts: the balance between the counts of the slots and the entries that refer to them, while an operation is on
its way. -/

namespace Sys2Proof.Machine

/-! ### Sums over a table -/

/-- The sum of a measure over a table. -/
def Table.total {α : Type} (f : α → Nat) (t : Table α) : Nat := (t.map fun e => f e.2).sum

section Totals

variable {α : Type} (f : α → Nat)

theorem Table.total_put_of_none {t : Table α} {k : Nat} (h : t.get k = none) (v : α) : (t.put k v).total f = t.total f + f v := by
  induction t with
  | nil => simp [Table.put, Table.total]
  | cons d t ih =>
    obtain ⟨j, w⟩ := d
    simp only [Table.get] at h
    split at h
    · cases h
    · next hne =>
      simp only [Table.total, Table.put] at ih ⊢
      split
      · simp only [List.map_cons, List.sum_cons]
        omega
      · split
        · next heq => exact absurd heq.symm hne
        · have := ih h
          simp only [List.map_cons, List.sum_cons]
          omega

theorem Table.total_put_of_some {t : Table α} (hw : t.wf = true) {k : Nat} {w : α} (h : t.get k = some w) (v : α) :
    (t.put k v).total f + f w = t.total f + f v := by
  rw [Table.wf_iff] at hw
  induction t with
  | nil => simp [Table.get] at h
  | cons d t ih =>
    obtain ⟨j, x⟩ := d
    simp only [List.map_cons, List.pairwise_cons] at hw
    simp only [Table.get] at h
    split at h
    · next hj =>
      obtain rfl := Option.some.inj h
      simp only [Table.total, Table.put, hj, lt_irrefl, if_true, if_false, List.map_cons, List.sum_cons]
      omega
    · next hj =>
      have hlt : j < k := hw.1 k (List.mem_map_of_mem (f := Prod.fst) (Table.get_mem _ _ _ h))
      have := ih hw.2 h
      simp only [Table.total, Table.put, Nat.not_lt.2 hlt.le, Ne.symm hj, if_false, List.map_cons, List.sum_cons] at this ⊢
      omega

theorem Table.total_modify {t : Table α} (hw : t.wf = true) {k : Nat} {w : α} (h : t.get k = some w) (g : α → α) :
    (t.modify k g).total f + f w = t.total f + f (g w) := by
  unfold Table.modify
  rw [h]
  exact Table.total_put_of_some f hw h (g w)

theorem Table.total_del {t : Table α} (hw : t.wf = true) {k : Nat} {w : α} (h : t.get k = some w) :
    (t.del k).total f + f w = t.total f := by
  rw [Table.wf_iff] at hw
  induction t with
  | nil => simp [Table.get] at h
  | cons d t ih =>
    obtain ⟨j, x⟩ := d
    simp only [List.map_cons, List.pairwise_cons] at hw
    simp only [Table.get] at h
    simp only [Table.total, Table.del]
    split at h
    · next hj =>
      obtain rfl := Option.some.inj h
      have hrest : Table.del t k = t := by
        have hgone : ∀ e ∈ t, e.1 ≠ k := fun e he => by
          have := hw.1 e.1 (List.mem_map_of_mem he)
          omega
        clear ih hw h
        induction t with
        | nil => rfl
        | cons e t ih =>
          have he := hgone e List.mem_cons_self
          obtain ⟨i, y⟩ := e
          simp only [Table.del, if_neg he]
          rw [ih fun e he => hgone e (List.mem_cons_of_mem _ he)]
      simp only [hj, if_true, List.map_cons, List.sum_cons]
      rw [hrest]
      omega
    · next hj =>
      have := ih hw.2 h
      simp only [Table.total] at this
      simp only [hj, if_false, List.map_cons, List.sum_cons]
      omega

/-- Two sums over a list without repetition differ only by the one term in which the summands do. -/
theorem sum_map_update {β : Type} {l : List β} (hl : l.Nodup) {b : β} (hb : b ∈ l) {f g : β → Nat} (h : ∀ c, c ≠ b → g c = f c) :
    (l.map g).sum + f b = (l.map f).sum + g b := by
  induction l with
  | nil => cases hb
  | cons c l ih =>
    rw [List.nodup_cons] at hl
    simp only [List.map_cons, List.sum_cons]
    by_cases hcb : c = b
    · subst hcb
      have hrest : l.map g = l.map f := List.map_congr_left fun d hd => h d fun hdc => hl.1 (hdc ▸ hd)
      rw [hrest]
      omega
    · have := ih hl.2 ((List.mem_cons.1 hb).resolve_left fun h => hcb h.symm)
      rw [h c hcb]
      omega

end Totals

/-! ### The ports -/

theorem mem_numbers {n : Nat} [NeZero n] (i : Fin n) : i ∈ numbers n := by
  rw [numbers, List.mem_map]
  exact ⟨i.val, List.mem_range.2 i.isLt, Fin.ofNat_val_eq_self i⟩

theorem numbers_nodup (n : Nat) [NeZero n] : (numbers n).Nodup := by
  refine List.Nodup.map_on (fun i hi j hj h => ?_) List.nodup_range
  have := congrArg Fin.val h
  simpa [Fin.ofNat, Nat.mod_eq_of_lt (List.mem_range.1 hi), Nat.mod_eq_of_lt (List.mem_range.1 hj)] using this

theorem mem_allPorts (port : Port) : port ∈ allPorts := by
  unfold allPorts
  rcases port with p | c | side
  · exact List.mem_append_left _ (List.mem_append_left _ (List.mem_map_of_mem (mem_numbers p)))
  · exact List.mem_append_left _ (List.mem_append_right _ (List.mem_map_of_mem (mem_numbers c)))
  · exact List.mem_append_right _ (List.mem_map_of_mem (by cases side <;> simp [allSides]))

theorem allPorts_nodup : allPorts.Nodup := by
  unfold allPorts
  refine List.nodup_append.2 ⟨List.nodup_append.2 ⟨?_, ?_, ?_⟩, ?_, ?_⟩
  · exact (numbers_nodup 64).map fun _ _ h => Port.seat.inj h
  · exact (numbers_nodup 8).map fun _ _ h => Port.ceiling.inj h
  · intro p hp q hq
    obtain ⟨_, _, rfl⟩ := List.mem_map.1 hp
    obtain ⟨_, _, rfl⟩ := List.mem_map.1 hq
    simp
  · exact List.Nodup.map (fun _ _ h => Port.backbone.inj h) (by decide)
  · intro p hp q hq
    obtain ⟨_, _, rfl⟩ := List.mem_map.1 hq
    rcases List.mem_append.1 hp with hp | hp
    · obtain ⟨_, _, rfl⟩ := List.mem_map.1 hp
      simp
    · obtain ⟨_, _, rfl⟩ := List.mem_map.1 hp
      simp

/-! ### The balance -/

/-- The entries of the egress queues that refer to a slot. -/
def State.queued (s : State) (k : Nat) : Nat := (allPorts.map fun port => ((s.queue port).entries.map Entry.slot).count k).sum

/-- The entries of a record that refer to a slot. -/
def RecordOutline.refs (k : Nat) (a : RecordOutline) : Nat := a.hold.count k + a.parked.count k

/-- The entries of egress queues and records are all that refer to a slot. -/
theorem State.references_eq (s : State) (k : Nat) : s.references k = s.queued k + s.clients.shapes.total (RecordOutline.refs k) := by
  simp only [State.references, State.queued, Table.total, State.clients, Table.mapValues, List.map_map, List.count, List.countP_map]
  rfl

/-- While an operation is on its way the counts of the slots agree with the entries of the egress queues, those of the records as
they are to be, and a debt of references still to be given up or to be taken over by an entry. A slot with count 0 is held by the event,
and a fresh one is in use with count 0. -/
structure State.Balanced (s : State) (t : Table RecordOutline) (debt held : List Nat) (fresh : Option Nat) : Prop where
  slots_wf : s.fs.slots.wf = true
  table_wf : t.wf = true
  balance : ∀ k, s.refsOf k = s.queued k + t.total (RecordOutline.refs k) + debt.count k
  held : ∀ k x, s.fs.slots.get k = some x → x.refs = 0 → k ∈ held
  fresh : ∀ k ∈ fresh, ∃ x, s.fs.slots.get k = some x ∧ x.refs = 0

namespace State.Balanced

variable {s : State} {t : Table RecordOutline} {debt held : List Nat} {fresh : Option Nat}

theorem of_fs {u : State} (h : s.Balanced t debt held fresh) (hslots : u.fs.slots = s.fs.slots)
    (hqueues : ∀ port, (u.queue port).entries = (s.queue port).entries) : u.Balanced t debt held fresh where
  slots_wf := hslots ▸ h.slots_wf
  table_wf := h.table_wf
  balance k := by simpa only [State.refsOf, State.queued, hslots, hqueues] using h.balance k
  held k x := by rw [hslots]; exact h.held k x
  fresh k := by rw [hslots]; exact h.fresh k

theorem of_outline {u : State} (h : s.Balanced t debt held fresh) (ho : u.outline = s.outline) : u.Balanced t debt held fresh := by
  obtain ⟨hslots, hqueues, _⟩ := State.outline_eq_iff.1 ho
  exact h.of_fs hslots hqueues

/-- What is owed counts, not its order. -/
theorem of_count {debt' : List Nat} (h : s.Balanced t debt held fresh) (hc : ∀ k, debt'.count k = debt.count k) :
    s.Balanced t debt' held fresh :=
  { h with balance := fun k => by rw [hc, h.balance] }

/-! ### Slots -/

theorem refsOf_pos {k : Nat} (h : s.Balanced t (k :: debt) held fresh) : ∃ x, s.fs.slots.get k = some x ∧ 1 ≤ x.refs := by
  have hb := h.balance k
  rw [List.count_cons_self] at hb
  unfold State.refsOf at hb
  split at hb
  · omega
  · next x hx => exact ⟨x, hx, by omega⟩

/-- A change to the counts of the slots, and to the debt. -/
theorem of_slots {u : State} {debt' held' : List Nat} {fresh' : Option Nat} (h : s.Balanced t debt held fresh)
    (hwf : u.fs.slots.wf = true) (hqueues : u.queue = s.queue)
    (hrefs : ∀ k, u.refsOf k + debt.count k = s.refsOf k + debt'.count k)
    (hheld : ∀ k x, u.fs.slots.get k = some x → x.refs = 0 → k ∈ held')
    (hfresh : ∀ k ∈ fresh', ∃ x, u.fs.slots.get k = some x ∧ x.refs = 0) : u.Balanced t debt' held' fresh' where
  slots_wf := hwf
  table_wf := h.table_wf
  balance k := by
    have h1 := h.balance k
    have h2 := hrefs k
    simp only [State.queued, hqueues] at h1 ⊢
    omega
  held := hheld
  fresh := hfresh

end State.Balanced

theorem State.freeSlot_slots (s : State) (k : Nat) : (s.freeSlot k).fs.slots = s.fs.slots.del k := by
  unfold State.freeSlot
  dsimp only
  split <;> rfl

theorem State.freeSlot_queue (s : State) (k : Nat) : (s.freeSlot k).queue = s.queue := by
  have honFs : ∀ (t : State) (f : FrameStore → FrameStore), (∀ b, (f b).seatQ = b.seatQ ∧ (f b).linkQ = b.linkQ ∧ (f b).foreQ = b.foreQ
      ∧ (f b).aftQ = b.aftQ) → (t.onFs f).queue = t.queue := by
    intro t f hf
    obtain ⟨h1, h2, h3, h4⟩ := hf t.fs
    funext port
    rcases port with p | c | (_ | _) <;> simp [State.queue, h1, h2, h3, h4]
  unfold State.freeSlot
  dsimp only
  split
  · exact (honFs _ _ fun _ => ⟨rfl, rfl, rfl, rfl⟩).trans (honFs _ _ fun _ => ⟨rfl, rfl, rfl, rfl⟩)
  · exact honFs _ _ fun _ => ⟨rfl, rfl, rfl, rfl⟩

theorem State.refsOf_of_get {s : State} {k : Nat} {x : Slot} (h : s.fs.slots.get k = some x) : s.refsOf k = x.refs := by
  simp [State.refsOf, h]

theorem State.refsOf_freeSlot (s : State) (k j : Nat) : (s.freeSlot k).refsOf j = if j = k then 0 else s.refsOf j := by
  by_cases h : j = k <;> simp [State.refsOf, State.freeSlot_slots, Table.get_del, h]

theorem State.refsOf_congr {s u : State} {k : Nat} (h : u.fs.slots.get k = s.fs.slots.get k) : u.refsOf k = s.refsOf k := by
  simp [State.refsOf, h]

theorem State.refsOf_of_none {s : State} {k : Nat} (h : s.fs.slots.get k = none) : s.refsOf k = 0 := by simp [State.refsOf, h]

/-- What giving up a reference writes of the slots. -/
theorem State.dropRef_slots (s : State) {k : Nat} {x : Slot} (hx : s.fs.slots.get k = some x) :
    (s.dropRef k).fs.slots = if x.refs ≤ 1 then s.fs.slots.del k else s.fs.slots.put k { x with refs := x.refs - 1 } := by
  unfold State.dropRef
  rw [hx]
  dsimp only
  split
  · exact s.freeSlot_slots k
  · rfl

theorem State.dropRef_queue (s : State) (k : Nat) : (s.dropRef k).queue = s.queue := by
  unfold State.dropRef
  split
  · rfl
  · split
    · exact (State.queue_eq_of_fs rfl).trans (s.freeSlot_queue k)
    · funext port
      rcases port with p | c | (_ | _) <;> rfl

theorem State.addRef_queue (s : State) (k : Nat) : (s.addRef k).queue = s.queue := by
  funext port
  rcases port with p | c | (_ | _) <;> rfl

namespace State.Balanced

variable {s : State} {t : Table RecordOutline} {debt held : List Nat} {fresh : Option Nat}

/-- R32: a reference that was owed is given up. -/
theorem dropRef {k : Nat} (h : s.Balanced t (k :: debt) held fresh) : (s.dropRef k).Balanced t debt held fresh := by
  obtain ⟨x, hx, hpos⟩ := h.refsOf_pos
  have hslots := s.dropRef_slots hx
  have hget : ∀ j, (s.dropRef k).fs.slots.get j
      = if j = k then (if x.refs ≤ 1 then none else some { x with refs := x.refs - 1 }) else s.fs.slots.get j := fun j => by
    rw [hslots]
    split
    · rw [Table.get_del]
    · rw [Table.get_put]
  refine h.of_slots (s.dropRef_slots_wf k h.slots_wf) (s.dropRef_queue k) (fun j => ?_) (fun j y hy h0 => ?_) fun j hj => ?_
  · by_cases hjk : j = k
    · subst hjk
      have hleft : (s.dropRef j).refsOf j = x.refs - 1 := by
        have hj := hget j
        rw [if_pos rfl] at hj
        split at hj
        · rw [State.refsOf_of_none hj]
          omega
        · rw [State.refsOf_of_get hj]
      rw [hleft, State.refsOf_of_get hx, List.count_cons_self]
      omega
    · have hsame : (s.dropRef k).refsOf j = s.refsOf j := State.refsOf_congr (by rw [hget, if_neg hjk])
      rw [hsame, List.count_cons_of_ne (Ne.symm hjk)]
  · rw [hget] at hy
    split at hy
    · split at hy
      · cases hy
      · obtain rfl := Option.some.inj hy
        simp only at h0
        omega
    · exact h.held j y hy h0
  · obtain ⟨y, hy, h0⟩ := h.fresh j hj
    have hjk : j ≠ k := by
      rintro rfl
      obtain rfl := Option.some.inj (hx.symm.trans hy)
      omega
    exact ⟨y, by rw [hget, if_neg hjk, hy], h0⟩

/-- R35: an entry is to take a reference to a slot in use that nobody has claimed afresh. -/
theorem addRef {k : Nat} (h : s.Balanced t debt held none) (hk : s.fs.slots.get k ≠ none) :
    (s.addRef k).Balanced t (k :: debt) held none := by
  obtain ⟨x, hx⟩ := Option.ne_none_iff_exists'.1 hk
  have hget : ∀ j, (s.addRef k).fs.slots.get j = if j = k then some { x with refs := x.refs + 1 } else s.fs.slots.get j := fun j => by
    simp only [State.addRef, State.onFs, Table.get_modify, hx, Option.map_some]
  refine h.of_slots (s.addRef_slots_wf k h.slots_wf) (s.addRef_queue k) (fun j => ?_) (fun j y hy h0 => ?_) fun j hj => by cases hj
  · by_cases hjk : j = k
    · subst hjk
      rw [State.refsOf_of_get ((hget j).trans (if_pos rfl)), State.refsOf_of_get hx, List.count_cons_self]
      change x.refs + 1 + _ = _
      omega
    · have hsame : (s.addRef k).refsOf j = s.refsOf j := State.refsOf_congr (by rw [hget, if_neg hjk])
      rw [hsame, List.count_cons_of_ne (Ne.symm hjk)]
  · rw [hget] at hy
    split at hy
    · obtain rfl := Option.some.inj hy
      simp at h0
    · exact h.held j y hy h0

/-- The fresh slot is taken, so the event need not hold it. -/
theorem addRef_fresh {k : Nat} (h : s.Balanced t debt (k :: held) (some k)) : (s.addRef k).Balanced t (k :: debt) held none := by
  obtain ⟨x, hx, _⟩ := h.fresh k rfl
  have h' : s.Balanced t debt (k :: held) none := { h with fresh := fun j hj => by cases hj }
  have hadd := h'.addRef (k := k) (by simp [hx])
  refine { hadd with held := fun j y hy h0 => ?_ }
  refine (List.mem_cons.1 (hadd.held j y hy h0)).resolve_left ?_
  rintro rfl
  simp only [State.addRef, State.onFs, Table.get_modify_self, hx, Option.map_some, Option.some.injEq] at hy
  rw [← hy] at h0
  simp at h0

/-- A slot with count 0 is free again. -/
theorem freeSlot {k : Nat} (h : s.Balanced t debt (k :: held) fresh) (hzero : s.refsOf k = 0) :
    (s.freeSlot k).Balanced t debt held none := by
  refine h.of_slots (s.freeSlot_slots_wf k h.slots_wf) (s.freeSlot_queue k) (fun j => ?_) (fun j y hy h0 => ?_) fun j hj => by cases hj
  · rw [State.refsOf_freeSlot]
    split
    · next hjk => rw [hjk, hzero]
    · rfl
  · rw [State.freeSlot_slots, Table.get_del] at hy
    split at hy
    · cases hy
    · next hjk => exact (List.mem_cons.1 (h.held j y hy h0)).resolve_left hjk

/-- R31: at the end of a frame's arrival its slot need not be held. -/
theorem settle {k : Nat} (h : s.Balanced t debt (k :: held) fresh) : (s.settle k).Balanced t debt held none := by
  have hrest : (∀ x, s.fs.slots.get k = some x → x.refs ≠ 0) → s.Balanced t debt held none := fun hk =>
    { h with
      held := fun j y hy h0 => (List.mem_cons.1 (h.held j y hy h0)).resolve_left fun hjk => hk y (hjk ▸ hy) h0
      fresh := fun j hj => by cases hj }
  unfold State.settle
  split
  · next hnone => exact hrest fun x hx => by simp [hnone] at hx
  · next x hx =>
    split
    · next h0 => exact h.freeSlot (by rw [State.refsOf_of_get hx, h0])
    · next h0 => exact hrest fun y hy => (Option.some.inj (hx.symm.trans hy)) ▸ h0

/-- R31: a slot claimed. -/
theorem claim {s1 : State} {reserve k : Nat} {origin : Origin} {reset : Bool} {frame : State → Bytes}
    (h : s.Balanced t debt held none) (hc : s.claim reserve origin reset frame = some (k, s1)) :
    s1.Balanced t debt (k :: held) (some k) := by
  have hwf := s.claim_slots_wf hc h.slots_wf
  obtain ⟨_, rfl, rfl⟩ := State.claim_eq hc
  have hfree := Table.get_firstFree h.slots_wf 0
  generalize hx : ({ frame := frame (s.lowWater (s.freeSlots - 1)), origin := origin, refs := 0, resetResponse := reset } : Slot) = x
  have h0 : x.refs = 0 := by rw [← hx]
  have hlow : (s.lowWater (s.freeSlots - 1)).Balanced t debt held none := h.of_outline (s.lowWater_outline _)
  rw [hx] at hwf
  have hget : ∀ j, ((s.lowWater (s.freeSlots - 1)).onFs fun b => { b with slots := b.slots.put (s.fs.slots.firstFree 0) x }).fs.slots.get j
      = if j = s.fs.slots.firstFree 0 then some x else s.fs.slots.get j := fun j => by
    rw [State.onFs_fs, Table.get_put, State.lowWater_slots]
  refine hlow.of_slots hwf ?_ (fun j => ?_) (fun j y hy hy0 => ?_) fun j hj => ?_
  · funext port
    rcases port with p | c | (_ | _) <;> rfl
  · by_cases hj : j = s.fs.slots.firstFree 0
    · rw [State.refsOf_of_get ((hget j).trans (if_pos hj)), h0,
        State.refsOf_of_none (by rw [State.lowWater_slots, hj, hfree])]
    · exact congrArg (· + _) (State.refsOf_congr (by rw [hget, if_neg hj, State.lowWater_slots]))
  · rw [hget] at hy
    split at hy
    · next hj => exact List.mem_cons.2 (.inl hj)
    · exact List.mem_cons_of_mem _ (h.held j y hy hy0)
  · obtain rfl : s.fs.slots.firstFree 0 = j := Option.some.inj hj
    exact ⟨x, by rw [hget, if_pos rfl], h0⟩

/-! ### Queues -/

/-- The entries of a queue are replaced: the debt takes over the difference. -/
theorem setQueue {debt' : List Nat} {port : Port} {q : Egress} (h : s.Balanced t debt held fresh)
    (hq : ∀ k, (q.entries.map Entry.slot).count k + debt'.count k = ((s.queue port).entries.map Entry.slot).count k + debt.count k) :
    (s.setQueue port q).Balanced t debt' held fresh where
  slots_wf := (s.setQueue_slots port q).symm ▸ h.slots_wf
  table_wf := h.table_wf
  balance k := by
    have hsum := sum_map_update allPorts_nodup (mem_allPorts port)
      (f := fun p => ((s.queue p).entries.map Entry.slot).count k) (g := fun p => (((s.setQueue port q).queue p).entries.map Entry.slot).count k)
      fun p hp => by rw [s.queue_setQueue_of_ne q hp]
    have hb := h.balance k
    have hk := hq k
    simp only [State.queue_setQueue_self] at hsum
    simp only [State.refsOf, State.setQueue_slots] at hb ⊢
    simp only [State.queued] at hb ⊢
    omega
  held k x := by rw [s.setQueue_slots port q]; exact h.held k x
  fresh k := by rw [s.setQueue_slots port q]; exact h.fresh k

/-- R36: a reference that is owed is taken over by an entry, or the entry is refused. -/
theorem offer {e : Entry} (h : s.Balanced t (e.slot :: debt) held fresh) (port : Port) (looped : Bool) :
    (s.offer port e looped).1.Balanced t (if (s.offer port e looped).2 then debt else e.slot :: debt) held fresh := by
  unfold State.offer
  split
  · exact h.of_outline (s.countPort_outline port _)
  · refine State.Balanced.of_outline ?_ (State.beginTransmission_outline _ port)
    refine h.setQueue fun k => ?_
    simp only [List.map_append, List.map_cons, List.map_nil, List.count_append, List.count_cons, List.count_nil, if_true]
    omega

theorem offer_refused {e : Entry} (h : s.Balanced t debt held fresh) {port : Port} {looped : Bool}
    (hr : (s.offer port e looped).2 = false) : (s.offer port e looped).1.Balanced t debt held fresh := by
  unfold State.offer at hr ⊢
  split at hr
  · exact h.of_outline (s.countPort_outline port _)
  · cases hr

theorem offer_accepted {e : Entry} (h : s.Balanced t (e.slot :: debt) held fresh) {port : Port} {looped : Bool}
    (hr : (s.offer port e looped).2 = true) : (s.offer port e looped).1.Balanced t debt held fresh := by
  have := h.offer port looped
  rwa [if_pos hr] at this

end State.Balanced

theorem State.append_accepted {s : State} {port : Port} {e : Entry} {looped : Bool} (h : (s.append port e looped).2 = true) :
    (s.offer port e looped).2 = true ∧ (s.append port e looped).1 = (s.offer port e looped).1.addRef e.slot := by
  unfold State.append at h ⊢
  dsimp only at h ⊢
  cases ho : (s.offer port e looped).2 with
  | true => simp
  | false => simp [ho] at h

theorem State.append_refused {s : State} {port : Port} {e : Entry} {looped : Bool} (h : (s.append port e looped).2 = false) :
    (s.offer port e looped).2 = false ∧ (s.append port e looped).1 = (s.offer port e looped).1 := by
  unfold State.append at h ⊢
  dsimp only at h ⊢
  cases ho : (s.offer port e looped).2 with
  | true => simp [ho] at h
  | false => simp

/-- An entry joins a queue and its slot's count rises by 1: in either order. -/
theorem State.offer_addRef_fs (s : State) (port : Port) (e : Entry) (looped : Bool) (h : (s.offer port e looped).2 = true) :
    ((s.offer port e looped).1.addRef e.slot).fs.slots = (s.addRef e.slot).fs.slots
    ∧ ∀ other, (((s.offer port e looped).1.addRef e.slot).queue other).entries
      = if other = port then (s.queue port).entries ++ [e] else (s.queue other).entries := by
  unfold State.offer at h ⊢
  split at h
  · cases h
  · obtain ⟨hslots, hqueues, _⟩ := State.outline_eq_iff.1
      (State.beginTransmission_outline (s.onQueue port fun q => { q with entries := q.entries ++ [e] }) port)
    refine ⟨?_, fun other => ?_⟩
    · simp only [State.addRef, State.onFs, hslots]
      rw [State.onQueue, State.setQueue_slots]
    · rw [State.addRef_queue, hqueues, State.onQueue, State.queue_setQueue]
      split <;> rfl

namespace State.Balanced

variable {s : State} {t : Table RecordOutline} {debt held : List Nat} {fresh : Option Nat}

/-- An entry that joins a queue takes over what its slot's new reference owes. -/
theorem join {e : Entry} {debt' held' : List Nat} {fresh' : Option Nat} (h : (s.addRef e.slot).Balanced t (e.slot :: debt') held' fresh')
    {port : Port} {looped : Bool} (hr : (s.append port e looped).2 = true) : (s.append port e looped).1.Balanced t debt' held' fresh' := by
  obtain ⟨hoffer, heq⟩ := State.append_accepted hr
  obtain ⟨hslots, hqueues⟩ := s.offer_addRef_fs port e looped hoffer
  have hset : ((s.addRef e.slot).setQueue port { s.queue port with entries := (s.queue port).entries ++ [e] }).Balanced
      t debt' held' fresh' := by
    refine h.setQueue fun k => ?_
    simp only [State.addRef_queue, List.map_append, List.map_cons, List.map_nil, List.count_append, List.count_cons, List.count_nil]
    omega
  rw [heq]
  refine hset.of_fs ?_ fun other => ?_
  · rw [State.setQueue_slots, hslots]
  · rw [hqueues, State.queue_setQueue, State.addRef_queue]
    split <;> rfl

/-- R35: a frame in use appended, or refused. -/
theorem append {e : Entry} (h : s.Balanced t debt held none) (port : Port) (looped : Bool) (hk : s.fs.slots.get e.slot ≠ none) :
    (s.append port e looped).1.Balanced t debt held none := by
  cases hr : (s.append port e looped).2 with
  | true => exact (h.addRef hk).join hr
  | false =>
    obtain ⟨hoffer, heq⟩ := State.append_refused hr
    exact heq ▸ h.offer_refused hoffer

/-- R35: a fresh frame appended. -/
theorem append_fresh {e : Entry} (h : s.Balanced t debt (e.slot :: held) (some e.slot)) {port : Port} {looped : Bool}
    (hr : (s.append port e looped).2 = true) : (s.append port e looped).1.Balanced t debt held none :=
  h.addRef_fresh.join hr

theorem append_refused {e : Entry} (h : s.Balanced t debt held fresh) {port : Port} {looped : Bool}
    (hr : (s.append port e looped).2 = false) : (s.append port e looped).1.Balanced t debt held fresh := by
  obtain ⟨hoffer, heq⟩ := State.append_refused hr
  exact heq ▸ h.offer_refused hoffer

/-- Steps that each settle one reference owed settle them all. -/
theorem foldl {α : Type} {slot : α → Nat} {f : State → α → State}
    (hf : ∀ (u : State) a d, u.Balanced t (slot a :: d) held fresh → (f u a).Balanced t d held fresh) (l : List α) {u : State} {debt : List Nat}
    (h : u.Balanced t (l.map slot ++ debt) held fresh) : (l.foldl f u).Balanced t debt held fresh := by
  induction l generalizing u with
  | nil => exact h
  | cons a l ih => exact ih (hf u a _ h)

theorem dropEach {l : List Nat} {f : State → Nat → State} (hf : ∀ u k, (f u k).outline = (u.dropRef k).outline)
    (h : s.Balanced t (l ++ debt) held fresh) : (l.foldl f s).Balanced t debt held fresh :=
  State.Balanced.foldl (slot := id) (fun u k _ hu => (State.Balanced.dropRef hu).of_outline (hf u k)) l (by simpa using h)

theorem discardParked {parked : List Nat} (h : s.Balanced t (parked ++ debt) held fresh) :
    (s.discardParked parked).Balanced t debt held fresh :=
  h.dropEach fun _ _ => State.countSau_outline _ _

theorem discardHold {hold : List Nat} (h : s.Balanced t (hold ++ debt) held fresh) :
    (s.discardHold hold).Balanced t debt held fresh :=
  h.dropEach fun _ _ => State.countMc_outline _ _

theorem discardQueue (h : s.Balanced t debt held fresh) (port : Port) : (s.discardQueue port).Balanced t debt held fresh := by
  unfold State.discardQueue
  refine State.Balanced.of_outline ?_ (State.releaseWaiting_outline _ port)
  refine State.Balanced.foldl (slot := Entry.slot) (fun u e d hu => hu.dropRef) _ ?_
  refine h.setQueue fun k => ?_
  simp only [List.map_nil, List.count_nil, List.count_append]
  omega

theorem leaveSeat (h : s.Balanced t debt held fresh) (pl : Option Place) : (s.leaveSeat pl).Balanced t debt held fresh := by
  unfold State.leaveSeat
  split
  · exact h.discardQueue _
  · exact h

theorem abandonTarget (h : s.Balanced t debt held fresh) (pl : Place) : (s.abandonTarget pl).Balanced t debt held fresh := by
  unfold State.abandonTarget
  split
  · exact h.discardQueue _
  · exact h.of_outline (s.sendRadio_outline _ _)

theorem completeTransmission (h : s.Balanced t debt held fresh) (port : Port) :
    (s.completeTransmission port).Balanced t debt held fresh := by
  unfold State.completeTransmission
  dsimp only
  split
  · next x e rest htx hentries =>
    have hset : (s.setQueue port { s.queue port with
        entries := rest, tx := none, counts := { (s.queue port).counts with sent := bump (s.queue port).counts.sent } }).Balanced
        t (e.slot :: debt) held fresh := by
      refine h.setQueue fun k => ?_
      simp only [hentries, List.map_cons, List.count_cons]
      omega
    have hsent := (hset.of_outline (State.emit_outline _ (.frame port (sentBytes port e (s.slotFrame e.slot))))).dropRef
    have hout := (hsent.of_outline (State.releaseWaiting_outline _ port)).of_outline (State.beginTransmission_outline _ port)
    split
    · exact hout.of_outline (State.onSeat_outline _ _ _)
    · exact hout
  · exact h

/-- R65, R91: entries owed move to a queue, or are dropped. -/
theorem offerOrDrop {e : Entry} (h : s.Balanced t (e.slot :: debt) held fresh) (port : Port) (looped : Bool) {u : State}
    (hu : u.outline = ((s.offer port e looped).1.dropRef e.slot).outline) :
    (if (s.offer port e looped).2 then (s.offer port e looped).1 else u).Balanced t debt held fresh := by
  have hoffer := h.offer port looped
  cases hr : (s.offer port e looped).2 with
  | true => simpa [hr] using hoffer
  | false =>
    simp only [hr, Bool.false_eq_true, if_false] at hoffer ⊢
    exact hoffer.dropRef.of_outline hu

theorem flush {hold : List Nat} (pl : Place) (h : s.Balanced t (hold ++ debt) held fresh) :
    (s.flush pl hold).Balanced t debt held fresh := by
  have hslot : ∀ k, (pl.entry k).slot = k := fun k => by cases pl <;> rfl
  refine State.Balanced.foldl (slot := id) (fun u k d hu => ?_) hold (by simpa using h)
  have := hu
  have hu' : u.Balanced t ((pl.entry k).slot :: d) held fresh := by rwa [hslot]
  exact hu'.offerOrDrop pl.port false (by rw [State.countMc_outline, hslot])

theorem moveParked {k : Nat} (h : s.Balanced t (k :: debt) held fresh) (g : Grant) :
    (s.moveParked g k).1.Balanced t debt held fresh := by
  unfold State.moveParked
  dsimp only
  have := State.Balanced.offerOrDrop (e := { slot := k }) h (.backbone g.gateway) false
    (u := (((s.offer (.backbone g.gateway) { slot := k } false).1.dropRef k).countSau fun c =>
      { c with gatewayFullDrops := bump c.gatewayFullDrops })) (State.countSau_outline _ _)
  split
  · next hr => simpa [hr] using this
  · next hr => simpa [hr] using this

/-! ### Composed and looped frames -/

theorem compose (h : s.Balanced t debt held none) (side : Side) (reset : Bool) (frame : State → Bytes) :
    (s.compose side reset frame).1.Balanced t debt held none := by
  unfold State.compose
  split
  · exact h.of_outline (s.loseComposed_outline reset)
  · next k s1 hclaim =>
    have hc := h.claim hclaim
    dsimp only
    split
    · next hr => exact State.Balanced.append_fresh (e := { slot := k }) hc hr
    · next hr =>
      have hrefused := hc.append_refused (e := { slot := k }) (Bool.not_eq_true _ ▸ hr)
      obtain ⟨x, hx, h0⟩ := hrefused.fresh k rfl
      exact (hrefused.freeSlot (by rw [State.refsOf_of_get hx, h0])).of_outline (State.loseComposed_outline _ _)

theorem loopFrame (h : s.Balanced t debt held none) (p : SeatNo) (frame : Bytes) : (s.loopFrame p frame).Balanced t debt held none := by
  unfold State.loopFrame
  split
  · exact h.of_outline s.clientNoSlot_outline
  · next k s1 hclaim =>
    have hc := h.claim hclaim
    dsimp only
    split
    · next hr => exact (State.Balanced.append_fresh (e := { slot := k }) hc hr).of_outline (State.countSeat_outline _ _ _)
    · next hr => exact (hc.append_refused (e := { slot := k }) (Bool.not_eq_true _ ▸ hr)).settle

/-! ### The table of records -/

/-- A record changes: the debt takes over the difference between its entries. -/
theorem onTable {debt' : List Nat} {n : Nat} {a : RecordOutline} {g : RecordOutline → RecordOutline} (h : s.Balanced t debt held fresh)
    (ha : t.get n = some a) (hg : ∀ k, (g a).refs k + debt'.count k = a.refs k + debt.count k) :
    s.Balanced (t.modify n g) debt' held fresh :=
  { h with
    table_wf := Table.modify_wf _ n g h.table_wf
    balance := fun k => by
      have hb := h.balance k
      have hk := hg k
      have htotal := Table.total_modify (RecordOutline.refs k) h.table_wf ha g
      omega }

/-- A record changes that keeps its entries. -/
theorem sameRefs {n : Nat} {g : RecordOutline → RecordOutline} (h : s.Balanced t debt held fresh)
    (hg : ∀ a, t.get n = some a → ∀ k, (g a).refs k = a.refs k) : s.Balanced (t.modify n g) debt held fresh := by
  cases ha : t.get n with
  | none => rwa [Table.modify_of_none ha]
  | some a => exact h.onTable ha fun k => by rw [hg a ha k]

end State.Balanced

end Sys2Proof.Machine
end

section
/-! SUPPORT and PROOFS. Every slot's count is the number of entries that refer to it (O60). -/

namespace Sys2Proof.Machine

/-- The balance with the records as they are. -/
def State.Even (s : State) (debt held : List Nat) (fresh : Option Nat) : Prop := s.Balanced s.clients.shapes debt held fresh

/-- The invariant says that nothing is owed and no slot is held. -/
theorem refInv_iff {s : State} (hslots : s.fs.slots.wf = true) (hrecords : s.ct.records.wf = true) :
    RefInv s ↔ s.Even [] [] none := by
  constructor
  · rintro ⟨hrefs, hzero⟩
    refine ⟨hslots, by rw [State.shapes_wf, hrecords], fun k => ?_, fun k x hx h0 => ?_, fun k hk => by cases hk⟩
    · rw [hrefs, s.references_eq, List.count_nil, Nat.add_zero]
    · exact absurd h0 (hzero (k, x) (Table.get_mem _ _ _ hx))
  · intro h
    refine ⟨fun k => ?_, fun e he h0 => ?_⟩
    · rw [h.balance, s.references_eq, List.count_nil, Nat.add_zero]
    · exact absurd (h.held e.1 e.2 (Table.get_of_mem hslots he) h0) List.not_mem_nil

namespace State.Even

variable {s u : State} {debt held : List Nat} {fresh : Option Nat}

theorem wf (h : s.Even debt held fresh) : s.ct.records.wf = true := by
  rw [← State.shapes_wf]
  exact h.table_wf

theorem of_balanced {t : Table RecordOutline} (h : u.Balanced t debt held fresh) (ht : u.clients.shapes = t) :
    u.Even debt held fresh := by
  subst ht
  exact h

/-- What keeps the clients and the balance keeps it with the records as they are. -/
theorem of_clients {debt' held' : List Nat} {fresh' : Option Nat} (h : u.Balanced s.clients.shapes debt' held' fresh')
    (hc : u.clients = s.clients) : u.Even debt' held' fresh' :=
  of_balanced h (congrArg Clients.shapes hc)

theorem of_outline (h : s.Even debt held fresh) (ho : u.outline = s.outline) : u.Even debt held fresh :=
  of_clients (State.Balanced.of_outline h ho) (State.clients_of_outline ho)

/-- A record is written, and the debt takes over the difference between its entries. -/
theorem onRecord {debt' : List Nat} {n : Nat} {r : Record} {f : Record → Record} (h : s.Even debt held fresh) (hr : s.record n = some r)
    (hf : ∀ k, (f r).outline.refs k + debt'.count k = r.outline.refs k + debt.count k) :
    (s.onRecord n f).Even debt' held fresh := by
  have hshapes : (s.onRecord n f).clients = s.clients.on n fun _ => (f r).outline := State.onRecord_clients fun x hx => by
    rw [Option.some.inj (hr.symm.trans hx)]
  refine of_balanced (t := s.clients.shapes.modify n fun _ => (f r).outline) ?_ (congrArg Clients.shapes hshapes)
  exact State.Balanced.of_fs (State.Balanced.onTable h (State.shapes_get_of_record hr) hf) rfl fun _ => rfl

/-- A write that keeps the record's entries. -/
theorem onRecord_same {n : Nat} {f : Record → Record} (h : s.Even debt held fresh)
    (hf : ∀ r, s.record n = some r → ∀ k, (f r).outline.refs k = r.outline.refs k) : (s.onRecord n f).Even debt held fresh := by
  cases hr : s.record n with
  | none =>
    have hsame : (s.onRecord n f).ct.records = s.ct.records := Table.modify_of_none hr f
    refine of_balanced (State.Balanced.of_fs h rfl fun _ => rfl) ?_
    simp [State.clients, hsame]
  | some r => exact h.onRecord hr fun k => by rw [hf r hr k]

theorem onSau (h : s.Even debt held fresh) (f : ShareUnit → ShareUnit) : (s.onSau f).Even debt held fresh :=
  of_balanced (State.Balanced.of_fs h rfl fun _ => rfl) rfl

theorem discardQueue (h : s.Even debt held fresh) (port : Port) : (s.discardQueue port).Even debt held fresh :=
  of_clients (State.Balanced.discardQueue h port) (s.discardQueue_clients port)

theorem leaveSeat (h : s.Even debt held fresh) (pl : Option Place) : (s.leaveSeat pl).Even debt held fresh :=
  of_clients (State.Balanced.leaveSeat h pl) (s.leaveSeat_clients pl)

theorem abandonTarget (h : s.Even debt held fresh) (pl : Place) : (s.abandonTarget pl).Even debt held fresh :=
  of_clients (State.Balanced.abandonTarget h pl) (s.abandonTarget_clients pl)

theorem discardHold {hold : List Nat} (h : s.Even (hold ++ debt) held fresh) : (s.discardHold hold).Even debt held fresh :=
  of_clients (State.Balanced.discardHold h) (s.discardHold_clients hold)

theorem flush {hold : List Nat} (pl : Place) (h : s.Even (hold ++ debt) held fresh) : (s.flush pl hold).Even debt held fresh :=
  of_clients (State.Balanced.flush pl h) (s.flush_clients pl hold)

theorem settle {k : Nat} (h : s.Even debt (k :: held) fresh) : (s.settle k).Even debt held none :=
  of_clients (State.Balanced.settle h) (s.settle_clients k)

/-! ### Parked frames -/

/-- R87: a record's parked list is released. -/
theorem clearParked (h : s.Even debt held fresh) (n : Nat) : (s.clearParked n).Even debt held fresh := by
  cases hr : s.record n with
  | none => simpa [State.clearParked, hr] using h
  | some r =>
    have howed : s.Balanced (s.clients.shapes.modify n RecordOutline.unparked) (r.parked ++ debt) held fresh :=
      State.Balanced.onTable h (State.shapes_get_of_record hr) fun k => by
        simp only [RecordOutline.refs, RecordOutline.unparked, Record.outline, List.count_nil, List.count_append]
        omega
    refine of_balanced (t := s.clients.shapes.modify n RecordOutline.unparked) ?_ (congrArg Clients.shapes (State.clearParked_clients hr))
    unfold State.clearParked
    rw [hr]
    exact State.Balanced.of_fs howed.discardParked rfl fun _ => rfl

/-- R85: a fresh frame is parked, or its slot is free again. -/
theorem park {slot n : Nat} {r : Record} (hr : s.record n = some r) (h : s.Even debt (slot :: held) (some slot)) :
    (s.park slot n r).Even debt held none := by
  unfold State.park
  dsimp only
  split
  · have hadded : (s.addRef slot).Even (slot :: debt) held none := of_clients (State.Balanced.addRef_fresh h) (s.addRef_clients slot)
    have hjoined := hadded.onRecord (debt' := debt) (r := r) (f := fun x => { x with parked := x.parked ++ [slot] }) hr fun k => by
      simp only [RecordOutline.refs, Record.outline, List.count_append, List.count_cons, List.count_nil]
      omega
    have hcounted := hjoined.of_outline (State.countSau_outline _ fun c => { c with framesParked := bump c.framesParked })
    split
    · exact hcounted.onSau _
    · exact hcounted
  · have hmarked : (s.onRecord n fun x => { x with overShare := bump x.overShare }).Even debt (slot :: held) (some slot) :=
      h.onRecord_same fun _ _ _ => rfl
    exact ((hmarked.of_outline (State.countSau_outline _ fun c => { c with overShareDrops := bump c.overShareDrops })).onSau _).settle

theorem append_fresh {port : Port} {slot : Nat} (h : s.Even debt (slot :: held) (some slot))
    (hr : (s.append port { slot := slot } false).2 = true) : (s.append port { slot := slot } false).1.Even debt held none :=
  of_clients (State.Balanced.append_fresh (e := { slot := slot }) h hr) (s.append_clients _ _ _)

theorem append_refused {port : Port} {e : Entry} (h : s.Even debt held fresh)
    (hr : (s.append port e false).2 = false) : (s.append port e false).1.Even debt held fresh :=
  of_clients (State.Balanced.append_refused h hr) (s.append_clients _ _ _)

/-- R81 to R85: a fresh frame that reaches the unit is taken by an entry, or its slot is free again. -/
theorem submit {slot : Nat} (h : s.Even debt (slot :: held) (some slot)) (n : Nat) : (s.submit slot n).Even debt held none := by
  unfold State.submit
  split
  · exact (h.of_outline (s.countSau_outline _)).settle
  · next g pend _ =>
    cases hr : s.record n with
    | none => exact h.settle
    | some r =>
      have hrefused := fun hno => ((h.append_refused (port := .backbone g.gateway) (e := { slot := slot }) hno).of_outline
        (State.countSau_outline _ fun c => { c with gatewayFullDrops := bump c.gatewayFullDrops })).settle
      dsimp only
      unfold State.charge
      dsimp only
      split
      · split
        · next hyes => exact (h.append_fresh hyes).of_outline (State.countSau_outline _ _)
        · next hno => exact hrefused (Bool.not_eq_true _ ▸ hno)
      · split
        · exact h.park hr
        · split
          · split
            · next hyes =>
              refine of_outline (onSau ?_ _) (State.countSau_outline _ _)
              exact (h.append_fresh hyes).onRecord_same fun _ _ _ => rfl
            · next hno => exact hrefused (Bool.not_eq_true _ ▸ hno)
          · exact h.park hr

/-- R90, R91: what a record's turn releases is taken by entries or given up; what is left is owed to the record. -/
theorem releaseFrames_balanced {t : Table RecordOutline} (g : Grant) (n : Nat) (parked : List Nat) {s : State}
    (h : s.Balanced t (parked ++ debt) held fresh) :
    (s.releaseFrames g n parked).1.Balanced t ((s.releaseFrames g n parked).2 ++ debt) held fresh := by
  induction parked generalizing s with
  | nil => exact h
  | cons k rest ih =>
    have hmoved := State.Balanced.moveParked h g
    unfold State.releaseFrames
    dsimp only
    split
    · split
      · exact ih (State.Balanced.of_fs hmoved rfl fun _ => rfl)
      · exact ih hmoved
    · exact h

theorem releaseRecord (h : s.Even debt held fresh) (g : Grant) (cls : Class) (n : Nat) :
    (s.releaseRecord g cls n).Even debt held fresh := by
  cases hr : s.record n with
  | none => simpa [State.releaseRecord, hr] using h
  | some r =>
    unfold State.releaseRecord
    rw [hr]
    dsimp only
    split
    · have howed : s.Balanced (s.clients.shapes.modify n (RecordOutline.stillParked [])) (r.parked ++ debt) held fresh :=
        State.Balanced.onTable h (State.shapes_get_of_record hr) fun k => by
          simp only [RecordOutline.refs, RecordOutline.stillParked, Record.outline, List.count_nil, List.count_append]
          omega
      have hreleased := releaseFrames_balanced g n r.parked howed
      obtain ⟨hc, _⟩ := State.releaseFrames_clients g n r.parked s h.wf
      have hget : (s.clients.shapes.modify n (RecordOutline.stillParked [])).get n = some (r.outline.stillParked []) := by
        rw [Table.get_modify_self, State.shapes_get_of_record hr]
        rfl
      have hleft := hreleased.onTable (debt' := debt) (g := RecordOutline.stillParked (s.releaseFrames g n r.parked).2) hget fun k => by
        simp only [RecordOutline.refs, RecordOutline.stillParked, List.count_nil, List.count_append]
        omega
      rw [Table.modify_modify] at hleft
      have hon : ((s.releaseFrames g n r.parked).1.onRecord n fun x => { x with parked := (s.releaseFrames g n r.parked).2 }).Even
          debt held fresh := by
        refine of_balanced (State.Balanced.of_fs hleft rfl fun _ => rfl) ?_
        have hshapes := State.onRecord_clients (s := (s.releaseFrames g n r.parked).1) (n := n)
          (f := fun x => { x with parked := (s.releaseFrames g n r.parked).2 })
          (g := RecordOutline.stillParked (s.releaseFrames g n r.parked).2) fun _ _ => rfl
        rw [hc] at hshapes
        exact congrArg Clients.shapes hshapes
      split
      · exact hon.onSau _
      · exact hon
    · exact h

theorem releasePass (h : s.Even debt held fresh) (g : Grant) : (s.releasePass g).Even debt held fresh :=
  foldl_holds (p := fun t => t.Even debt held fresh)
    (fun _ cls ht => foldl_holds (p := fun t => t.Even debt held fresh) (fun _ n hu => hu.releaseRecord g cls n) _ ht) _ h

theorem serviceRelease (h : s.Even debt held fresh) (n : Nat) : (s.serviceRelease n).Even debt held fresh := by
  unfold State.serviceRelease
  split
  · next r g hr hg =>
    have howed : s.Balanced (s.clients.shapes.modify n RecordOutline.unparked) (r.parked.map id ++ debt) held fresh :=
      State.Balanced.onTable h (State.shapes_get_of_record hr) fun k => by
        simp only [RecordOutline.refs, RecordOutline.unparked, Record.outline, List.count_nil, List.count_append, List.map_id]
        omega
    have hmoved := State.Balanced.foldl (f := fun t k =>
        let o := t.moveParked g k
        if o.2 then o.1.countSau fun c => { c with framesUncharged := bump c.framesUncharged } else o.1)
      (fun u k d hu => by
        have := State.Balanced.moveParked hu g
        dsimp only
        split
        · exact this.of_outline (State.countSau_outline _ _)
        · exact this) r.parked howed
    have hfold := foldl_keeps State.clients
      (f := fun t k =>
        let o := t.moveParked g k
        if o.2 then o.1.countSau fun c => { c with framesUncharged := bump c.framesUncharged } else o.1)
      (fun t k => by dsimp only; split <;> simp) r.parked (b := s) rfl
    dsimp only at hmoved hfold ⊢
    generalize List.foldl _ s r.parked = w at hmoved hfold ⊢
    refine of_balanced (State.Balanced.of_fs hmoved rfl fun _ => rfl) ?_
    rw [State.leaveWaiting_clients, State.onRecord_clients (g := RecordOutline.unparked) fun _ _ => rfl, hfold]
    rfl
  · exact h

theorem setClass (h : s.Even debt held fresh) (n : Nat) (new : Class) : (s.setClass n new).Even debt held fresh := by
  have hsame : ∀ old st, (s.idleAfterChange old new st).hold = st.hold := by
    intro old st
    unfold State.idleAfterChange
    (repeat' split) <;> rfl
  have hset : ∀ old, (s.onRecord n fun x => { x with cls := new, st := s.idleAfterChange old new x.st }).Even debt held fresh :=
    fun old => h.onRecord_same fun r _ k => by simp only [RecordOutline.refs, Record.outline, hsame]
  unfold State.setClass
  split
  · exact h
  · split
    · exact h
    · dsimp only
      split
      · exact (hset _).serviceRelease n
      · exact hset _

end State.Even

/-- Emptying every parked list leaves its entries owed. -/
theorem total_unparked (t : Table RecordOutline) (k : Nat) : t.total (RecordOutline.refs k)
    = (t.mapValues RecordOutline.unparked).total (RecordOutline.refs k) + (t.flatMap fun e => e.2.parked).count k := by
  induction t with
  | nil => rfl
  | cons d t ih =>
    simp only [Table.total, Table.mapValues, List.map_cons, List.sum_cons, List.flatMap_cons, List.count_append] at ih ⊢
    simp only [RecordOutline.refs, RecordOutline.unparked, List.count_nil] at ih ⊢
    omega

namespace State.Even

variable {s u : State} {debt held : List Nat} {fresh : Option Nat}

/-- R96: every parked list is given up. -/
theorem enterHold (h : s.Even debt held fresh) : s.enterHold.Even debt held fresh := by
  have howed : s.Balanced (s.clients.shapes.mapValues RecordOutline.unparked)
      ((s.clients.shapes.flatMap fun e => e.2.parked) ++ debt) held fresh :=
    { h with
      table_wf := by rw [Table.mapValues_wf, h.table_wf]
      balance := fun k => by
        have hb := h.balance k
        rw [total_unparked, Nat.add_assoc, Nat.add_assoc, ← List.count_append] at hb
        rw [hb, Nat.add_assoc] }
  have hdiscard : ∀ (l : Table Record) {v : State}, v.Balanced (s.clients.shapes.mapValues RecordOutline.unparked)
      ((l.flatMap fun e => e.2.parked) ++ debt) held fresh →
      (l.foldl (fun t e => t.discardParked e.2.parked) v).Balanced (s.clients.shapes.mapValues RecordOutline.unparked) debt held fresh := by
    intro l
    induction l with
    | nil => exact fun hv => hv
    | cons e l ih =>
      intro v hv
      rw [List.flatMap_cons, List.append_assoc] at hv
      exact ih hv.discardParked
  have hflat : (s.clients.shapes.flatMap fun e => e.2.parked) = s.ct.records.flatMap fun e => e.2.parked := by
    simp only [State.clients, Table.mapValues, List.flatMap_map]
    rfl
  rw [hflat] at howed
  refine of_balanced ?_ (congrArg Clients.shapes s.enterHold_clients)
  exact State.Balanced.of_fs (hdiscard s.ct.records howed) rfl fun _ => rfl

/-! ### Clients -/

/-- R21: a record goes to LINGERING. -/
theorem enterLingering (h : s.Even debt held fresh) (n : Nat) : (s.enterLingering n).Even debt held fresh := by
  unfold State.enterLingering
  split
  · exact h
  · next r hr =>
    have hlinger : (s.onRecord n fun x => { x with st := .lingering (some (s.ct.lingerTime * 1000)) }).Even (r.st.hold ++ debt) held fresh :=
      h.onRecord hr fun k => by
        simp only [RecordOutline.refs, Record.outline, RecordState.hold, List.count_nil, List.count_append]
        omega
    split
    · exact h
    · next pl _ hst =>
      rw [hst] at hlinger
      exact (hlinger.leaveSeat (some pl)).clearParked n
    · next pl _ _ _ hold hst =>
      rw [hst] at hlinger
      have hleft := (hlinger.leaveSeat (some pl)).clearParked n
      exact hleft.discardHold.of_outline (State.countMc_outline _ _)

/-- R25: a record becomes VACANT. -/
theorem vacate (h : s.Even debt held fresh) (n : Nat) : (s.vacate n).Even debt held fresh := by
  unfold State.vacate
  split
  · exact h
  · next r hr =>
    have hr' : (s.leaveSeat r.st.place).record n = some r := by simpa [State.record] using hr
    have hcleared := (h.leaveSeat r.st.place).clearParked n
    have hshape : ((s.leaveSeat r.st.place).clearParked n).clients.shapes.get n = some r.outline.unparked := by
      rw [State.clearParked_clients hr', Clients.leave, Table.get_modify_self, State.shapes_get_of_record hr']
      rfl
    have howed : ((s.leaveSeat r.st.place).clearParked n).Balanced
        (((s.leaveSeat r.st.place).clearParked n).clients.shapes.del n) (r.st.hold ++ debt) held fresh :=
      { hcleared with
        table_wf := Table.del_wf _ n hcleared.table_wf
        balance := fun k => by
          have hb := hcleared.balance k
          have htotal := Table.total_del (RecordOutline.refs k) hcleared.table_wf hshape
          simp only [RecordOutline.refs, RecordOutline.unparked, Record.outline, List.count_nil] at htotal hb
          simp only [List.count_append]
          omega }
    refine of_balanced (State.Balanced.of_fs howed.discardHold rfl fun _ => rfl) ?_
    rw [← State.discardHold_clients ((s.leaveSeat r.st.place).clearParked n) r.st.hold]
    exact Table.del_mapValues _ _ _

/-- The record is attached, and what it held is owed. -/
theorem attach_holding {n : Nat} {r : Record} (h : s.Even debt held fresh) (hr : s.record n = some r) (pl : Place) :
    (s.attach n pl).Even (r.st.hold ++ debt) held fresh :=
  h.onRecord hr fun k => by
    simp only [RecordOutline.refs, Record.outline, RecordState.hold, List.count_nil, List.count_append]
    omega

/-- R61: a move completes: what was held is taken by entries of the target's queue or given up. -/
theorem completeMove (h : s.Even debt held fresh) (n : Nat) (count : McCounters → McCounters) :
    (s.completeMove n count).Even debt held fresh := by
  unfold State.completeMove
  split
  · exact h
  · next r hr =>
    split
    · next target c a deadline hold hst =>
      have howed : s.Balanced (s.clients.shapes.modify n (RecordOutline.attachedAt target)) (hold ++ debt) held fresh :=
        State.Balanced.onTable h (State.shapes_get_of_record hr) fun k => by
          simp only [RecordOutline.refs, RecordOutline.attachedAt, Record.outline, hst, RecordState.hold, List.count_nil, List.count_append]
          omega
      refine of_balanced (State.Balanced.of_fs (howed.flush target) rfl fun _ => rfl) ?_
      rw [State.countMc_clients, State.attach_clients, State.flush_clients]
      rfl
    · exact h

end State.Even

/-- Record `n` holds no frame, if in use. -/
def State.HoldsNone (s : State) (n : Nat) : Prop := ∀ r, s.record n = some r → r.st.hold = []

theorem State.holdsNone_iff {s : State} {n : Nat} : s.HoldsNone n ↔ ∀ a, s.clients.shapes.get n = some a → a.hold = [] := by
  constructor
  · intro h a ha
    rw [State.shapes_get, Option.map_eq_some_iff] at ha
    obtain ⟨r, hr, rfl⟩ := ha
    exact h r hr
  · exact fun h r hr => h r.outline (State.shapes_get_of_record hr)

theorem State.HoldsNone.of_clients {s u : State} {n : Nat} (hc : u.clients = s.clients) (h : s.HoldsNone n) : u.HoldsNone n := by
  rw [State.holdsNone_iff] at h ⊢
  rwa [hc]

/-- A change to a shape, after which it holds nothing, leaves a record that holds nothing so. -/
theorem State.HoldsNone.of_modify {s u : State} {n m : Nat} {g : RecordOutline → RecordOutline}
    (hu : u.clients.shapes = s.clients.shapes.modify m g) (hg : ∀ a, (g a).hold = []) (h : s.HoldsNone n) : u.HoldsNone n := by
  rw [State.holdsNone_iff] at h ⊢
  intro b hb
  rw [hu, Table.get_modify] at hb
  split at hb
  · obtain ⟨a, _, rfl⟩ := Option.map_eq_some_iff.1 hb
    exact hg a
  · exact h b hb

theorem State.HoldsNone.clearSeat {s : State} {n : Nat} (h : s.HoldsNone n) (p : SeatNo) (m : Option Nat) :
    (s.clearSeat p m).HoldsNone n := by
  unfold State.clearSeat
  (repeat' split)
  · exact h
  · exact h
  · next k _ _ _ =>
    obtain hc | hc := s.enterLingering_clients k
    · exact h.of_clients hc
    · exact h.of_modify (congrArg Clients.shapes hc) fun _ => rfl

theorem State.HoldsNone.supersede {s : State} {n : Nat} (h : s.HoldsNone n) (c : LinkNo) (a : AssocNo) : (s.supersede c a).HoldsNone n := by
  unfold State.supersede
  split
  · exact h
  · next k _ _ =>
    obtain hc | ⟨_, pl, _, _, _, hc⟩ := s.completeMove_clients k fun n => { n with supersessions := bump n.supersessions }
    · exact h.of_clients hc
    · exact h.of_modify (congrArg Clients.shapes hc) fun _ => rfl

namespace State.Even

variable {s u : State} {debt held : List Nat} {fresh : Option Nat}

theorem attach {n : Nat} (h : s.Even debt held fresh) (hn : s.HoldsNone n) (pl : Place) : (s.attach n pl).Even debt held fresh :=
  h.onRecord_same fun r hr k => by
    simp only [RecordOutline.refs, Record.outline, hn r hr]
    rfl

theorem supersede (h : s.Even debt held fresh) (c : LinkNo) (a : AssocNo) : (s.supersede c a).Even debt held fresh := by
  unfold State.supersede
  split
  · exact h
  · exact h.completeMove _ _

theorem beginMove {n : Nat} (h : s.Even debt held fresh) (hn : s.HoldsNone n) (c : LinkNo) (a : AssocNo) (target : Place) :
    (s.beginMove n c a target).Even debt held fresh := by
  unfold State.beginMove
  refine of_outline ?_ (State.countMc_outline _ _)
  have hmoving := (h.supersede c a).onRecord_same (f := fun r => { r with st := .moving target c a none [] }) (n := n) fun r hr k => by
    simp only [RecordOutline.refs, Record.outline, hn.supersede c a r hr]
    rfl
  have hholds : ((s.supersede c a).onRecord n fun r => { r with st := .moving target c a none [] }).HoldsNone n := by
    refine (hn.supersede c a).of_modify (m := n) (g := RecordOutline.movingTo target c a []) ?_ fun _ => rfl
    have hc : ((s.supersede c a).onRecord n fun r => { r with st := .moving target c a none [] }).clients
        = (s.supersede c a).clients.on n (RecordOutline.movingTo target c a []) := State.onRecord_clients fun _ _ => rfl
    exact congrArg Clients.shapes hc
  refine (hmoving.of_outline (State.sendRadio_outline _ c (.release a))).onRecord_same fun r hr k => ?_
  simp only [RecordOutline.refs, Record.outline, hholds.of_clients (State.sendRadio_clients _ c (.release a)) r hr]
  rfl

/-- A MOVING record keeps its hold queue when its target changes. -/
theorem onRecord_target {n : Nat} {r : Record} {old : Place} {c : LinkNo} {a : AssocNo} {deadline : Timer} {hold : List Nat}
    (h : s.Even debt held fresh) (hr : s.record n = some r) (hst : r.st = .moving old c a deadline hold) (target : Place) :
    (s.onRecord n fun x => { x with st := .moving target c a deadline hold }).Even debt held fresh :=
  h.onRecord hr fun k => by simp only [RecordOutline.refs, Record.outline, RecordState.hold, hst]

theorem abandonTarget_record (s : State) (pl : Place) (n : Nat) :
    (s.abandonTarget pl).record n = s.record n := by
  unfold State.abandonTarget
  cases pl <;> simp [State.record]

theorem retarget (h : s.Even debt held fresh) (n : Nat) (target : Place) : (s.retarget n target).Even debt held fresh := by
  unfold State.retarget
  split
  · exact h
  · next r hr =>
    split
    · next old c a deadline hold hst =>
      exact ((h.abandonTarget old).onRecord_target ((abandonTarget_record s old n).trans hr) hst target).of_outline
        (State.countMc_outline _ _)
    · exact h

theorem cancelMove (h : s.Even debt held fresh) (n : Nat) (pl : Place) : (s.cancelMove n pl).Even debt held fresh := by
  unfold State.cancelMove
  split
  · exact h
  · next r hr =>
    split
    · next old c a deadline hold hst =>
      have hattached := (h.abandonTarget old).attach_holding ((abandonTarget_record s old n).trans hr) pl
      rw [hst] at hattached
      exact (hattached.flush pl).of_outline (State.countMc_outline _ _)
    · exact h

theorem clearSeat (h : s.Even debt held fresh) (p : SeatNo) (n : Option Nat) : (s.clearSeat p n).Even debt held fresh := by
  unfold State.clearSeat
  (repeat' split)
  · exact h
  · exact h
  · exact h.enterLingering _

/-- R58: a frame in use is held, or its slot is left as it is. -/
theorem holdFrame {slot : Nat} (h : s.Even debt held none) (n : Nat) (hk : s.fs.slots.get slot ≠ none) :
    (s.holdFrame n slot).Even debt held none := by
  have hsettle : ∀ {v : State}, v.Even debt held none → (v.settle slot).Even debt held none := fun hv =>
    State.Even.settle { hv with held := fun k x hx h0 => List.mem_cons_of_mem _ (hv.held k x hx h0) }
  unfold State.holdFrame
  split
  · exact hsettle h
  · next r hr =>
    split
    · next target c a deadline hold hst =>
      split
      · have hadded : (s.addRef slot).Even (slot :: debt) held none := of_clients (State.Balanced.addRef h hk) (s.addRef_clients slot)
        refine hadded.onRecord (r := r) hr fun k => ?_
        simp only [RecordOutline.refs, Record.outline, RecordState.hold, hst, List.count_append, List.count_cons, List.count_nil]
        omega
      · exact hsettle (h.of_outline (s.countMc_outline _))
    · exact hsettle h

/-- R4, R7: a record obtained held no frame and had none parked. -/
theorem create (h : s.Even debt held fresh) (hwaits : s.Waits) {x : Addr} {pl : Place} {n : Nat} (hcreate : s.create x pl = some (n, u)) :
    u.Even debt held fresh := by
  have hclients := State.create_clients hcreate
  simp only [State.create, Option.map_eq_some_iff, Prod.mk.injEq] at hcreate
  obtain ⟨⟨m, reclaimed⟩, hobtain, rfl, rfl⟩ := hcreate
  refine of_balanced (t := s.clients.shapes.put m (s.newRecord x pl).outline) ?_ (congrArg Clients.shapes hclients)
  refine State.Balanced.of_fs (s := s) ?_ rfl fun _ => rfl
  have hnew : ∀ k, (s.newRecord x pl).outline.refs k = 0 := fun k => by
    simp [RecordOutline.refs, Record.outline, State.newRecord, RecordState.hold]
  refine { h with table_wf := Table.put_wf _ m _ h.table_wf, balance := fun k => ?_ }
  have hb := h.balance k
  cases hget : s.clients.shapes.get m with
  | none =>
    have := Table.total_put_of_none (RecordOutline.refs k) hget (s.newRecord x pl).outline
    have := hnew k
    omega
  | some a =>
    have := Table.total_put_of_some (RecordOutline.refs k) h.table_wf hget (s.newRecord x pl).outline
    have hold : a.refs k = 0 := by
      have hshape := hget
      rw [State.shapes_get, Option.map_eq_some_iff] at hget
      obtain ⟨r, hr, rfl⟩ := hget
      have hplace := State.place_of_obtain h.wf hobtain hr
      have hparked := (hwaits.2.2.2 m _ hshape).2
      cases hst : r.st <;> simp [hst, RecordState.place] at hplace
      have hnone : r.parked = [] := hparked (by simp [Record.outline, hst, RecordState.isLingering])
      simp [RecordOutline.refs, Record.outline, hst, RecordState.hold, hnone]
    have := hnew k
    omega

theorem holdsNone_of_record {n : Nat} {r : Record} (hr : s.record n = some r) (hhold : r.st.hold = []) :
    s.HoldsNone n := fun x hx => by
  obtain rfl : r = x := Option.some.inj (hr.symm.trans hx)
  exact hhold

theorem learnSeat (h : s.Even debt held fresh) (hwaits : s.Waits) (p : SeatNo) (x : Addr) :
    (s.learnSeat p x).1.Even debt held fresh := by
  unfold State.learnSeat
  split
  · dsimp only
    split
    · next hcreate => exact (h.clearSeat p none).create (hwaits.clearSeat p none) hcreate
    · exact (h.clearSeat p none).of_outline (by simp)
  · next n r hx =>
    obtain ⟨hr, _⟩ := State.findRecord_some h.wf hx
    have hcleared := h.clearSeat p (some n)
    split
    · next q idle hst =>
      have hn : s.HoldsNone n := holdsNone_of_record hr (by rw [hst]; rfl)
      split
      · exact h.attach hn _
      · exact (hcleared.discardQueue _).attach ((hn.clearSeat p _).of_clients (State.discardQueue_clients _ _)) _
    · next c a idle hst =>
      have hn : s.HoldsNone n := holdsNone_of_record hr (by rw [hst]; rfl)
      exact hcleared.beginMove (hn.clearSeat p _) _ _ _
    · split
      · exact h
      · exact hcleared.retarget _ _
    · next hst =>
      have hn : s.HoldsNone n := holdsNone_of_record hr (by rw [hst]; rfl)
      exact hcleared.attach (hn.clearSeat p _) _

theorem takeNumber (h : s.Even debt held fresh) (hwaits : s.Waits) (x : Addr) (c : LinkNo) (a : AssocNo) :
    (s.takeNumber x c a).Even debt held fresh := by
  unfold State.takeNumber
  split
  · split
    · next hcreate => exact h.create hwaits hcreate
    · exact h
  · next n r hx =>
    obtain ⟨hr, _⟩ := State.findRecord_some h.wf hx
    split
    · next hst => exact h.attach (holdsNone_of_record hr (by rw [hst]; rfl)) _
    · next hst =>
      exact (h.discardQueue _).attach ((holdsNone_of_record hr (by rw [hst]; rfl)).of_clients (State.discardQueue_clients _ _)) _
    · next hst =>
      have hn : s.HoldsNone n := holdsNone_of_record hr (by rw [hst]; rfl)
      split
      · exact h.attach hn _
      · exact h.beginMove hn _ _ _
    · next hst =>
      split
      · exact h.cancelMove _ _
      · split
        · exact h.onRecord_target hr hst _
        · exact h.retarget _ _

theorem handOver (h : s.Even debt held fresh) (hwaits : s.Waits) (x : Addr) (c : LinkNo) (a : AssocNo) :
    (s.handOver x c a).Even debt held fresh := by
  have hclear : (s.clearNumber x c a).Even debt held fresh ∧ (s.clearNumber x c a).Waits := by
    unfold State.clearNumber
    cases s.displaced x c a with
    | none => exact ⟨h, hwaits⟩
    | some m => exact ⟨h.enterLingering m, hwaits.enterLingering m⟩
  rw [State.handOver_eq]
  exact hclear.1.takeNumber hclear.2 x c a

theorem claim {reserve k : Nat} {origin : Origin} {reset : Bool} {frame : State → Bytes} (h : s.Even debt held none)
    (hc : s.claim reserve origin reset frame = some (k, u)) : u.Even debt (k :: held) (some k) :=
  of_clients (State.Balanced.claim h hc) (State.claim_clients hc)

theorem learnAndSubmit (h : s.Even debt held none) (hwaits : s.Waits) (p : SeatNo) (frame : Bytes) :
    (s.learnAndSubmit p frame).Even debt held none := by
  unfold State.learnAndSubmit
  split
  · exact h.of_outline s.clientNoSlot_outline
  · next k s1 hclaim =>
    have hclaimed := (h.claim hclaim).of_outline (State.countSeat_outline _ p fun c => { c with accepted := bump c.accepted })
    have hlearned := hclaimed.learnSeat ((hwaits.of_clients (State.claim_clients hclaim)).of_clients (State.countSeat_clients _ p _))
      p (frameSrc frame)
    dsimp only
    split
    · exact hlearned.submit _
    · exact hlearned.settle

/-- R53: a record that owns a DATA message by its place holds no frame. -/
theorem dataOwner_holdsNone (hw : s.ct.records.wf = true) {c : LinkNo} {a : AssocNo} {x : Addr} {n : Nat}
    (h : s.dataOwner c a x = .record n true) : s.HoldsNone n := by
  have howner : ∀ {o : Option (Nat × Record)} {e : Nat × Record}, ownerIf x o = some e → o = some e := by
    intro o e ho
    unfold ownerIf at ho
    (repeat' split at ho) <;> simp_all
  unfold State.dataOwner at h
  dsimp only at h
  split at h
  · next m r hm _ =>
    obtain ⟨rfl, hatt⟩ := DataOwner.record.inj h
    refine holdsNone_of_record (State.atPlace_some hw (howner ‹_›)).1 ?_
    unfold Record.isAttached at hatt
    split at hatt
    · next hst => rw [hst]; rfl
    · cases hatt
  · cases h
  · split at h <;> cases h

theorem acceptData (h : s.Even debt held none) {c : LinkNo} {n : Nat} {attached : Bool} {a : AssocNo} {x : Addr}
    (howner : s.dataOwner c a x = .record n attached) (frame : Bytes) :
    (s.acceptData c n attached (.ceiling c a) frame).Even debt held none := by
  unfold State.acceptData
  split
  · exact h.of_outline s.clientNoSlot_outline
  · next k s1 hclaim =>
    have hclaimed := (h.claim hclaim).of_outline (State.countLink_outline _ c fun y => { y with accepted := bump y.accepted })
    dsimp only
    split
    · next hatt =>
      subst hatt
      have hn := (dataOwner_holdsNone h.wf howner).of_clients
        ((State.countLink_clients s1 c fun y => { y with accepted := bump y.accepted }).trans (State.claim_clients hclaim))
      exact (hclaimed.attach hn _).submit _
    · exact hclaimed.submit _

end State.Even

/-! ### The slot in hand -/

theorem State.dropRef_inHand (s : State) (k : Nat) : (s.dropRef k).ev.inHand = s.ev.inHand := by
  unfold State.dropRef
  (repeat' split) <;> simp

/-- No elementary update touches the slot of the frame in hand. -/
theorem inHandKept_fineClosed : FineClosed fun s t => t.ev.inHand = s.ev.inHand where
  trans h1 h2 := h2.trans h1
  quiet ho := (State.outline_eq_iff.1 ho).2.2.2.2.2.2.2.1
  setQueue _ _ _ := rfl
  claim hc := by
    obtain ⟨_, hev, _⟩ := State.claim_keeps _ hc
    exact congrArg EventLog.inHand hev
  addRef _ _ := rfl
  freeSlot s k := by simp
  dropRef s k := s.dropRef_inHand k
  onRecord _ _ _ := rfl
  delRecord _ _ := rfl
  mapRecords _ _ := rfl
  obtained _ _ _ _ _ := rfl
  onSau _ _ := rfl
  insertDeferral _ _ _ := rfl
  removeDeferral _ _ := rfl
  filterEntitlements _ _ := rfl
  putEntitlement _ _ _ := rfl
  filterStations _ _ := rfl
  enrol _ _ _ _ _ _ _ := rfl
  reduceRoles _ _ _ _ := rfl

theorem inHandKept_closed : Closed fun s t => t.ev.inHand = s.ev.inHand :=
  inHandKept_fineClosed.closed fun _ side _ => inHandKept_fineClosed.coupling.rederive (fun _ _ _ => rfl) _ side

/-! ### Every effect -/

/-- What an effect keeps: the Waiting List in agreement, and with that the balance. -/
def KeepsEven (s t : State) : Prop :=
  (s.Waits → t.Waits) ∧ ∀ held, s.Waits → s.Even [] held none → t.Even [] held none

theorem KeepsEven.trans {s t u : State} (h1 : KeepsEven s t) (h2 : KeepsEven t u) : KeepsEven s u := by
  obtain ⟨hw1, he1⟩ := h1
  obtain ⟨hw2, he2⟩ := h2
  exact ⟨fun h => hw2 (hw1 h), fun held hw he => he2 held (hw1 hw) (he1 held hw he)⟩

theorem KeepsEven.of_outline {s t : State} (ho : t.outline = s.outline) : KeepsEven s t :=
  ⟨waits_closed.quiet ho, fun _ _ he => he.of_outline ho⟩

theorem keepsEven_coupling : CouplingClosed KeepsEven where
  trans := KeepsEven.trans
  quiet := KeepsEven.of_outline
  discardQueue s port := ⟨waits_closed.discardQueue s port, fun _ _ he => he.discardQueue port⟩
  compose s side reset frame := ⟨waits_closed.compose s side reset frame, fun _ _ he =>
    .of_clients (State.Balanced.compose he side reset frame) (s.compose_clients side reset frame)⟩
  enterHold s := ⟨waits_closed.enterHold s, fun _ _ he => he.enterHold⟩
  filterStations s p := ⟨waits_closed.filterStations s p, fun _ _ he => .of_balanced (State.Balanced.of_fs he rfl fun _ => rfl) rfl⟩

/-- An update of a block that holds neither frames nor records. -/
theorem KeepsEven.of_fs_ct_sau {s t : State} (hfs : t.fs = s.fs) (hct : t.ct = s.ct) (hsau : t.sau = s.sau) : KeepsEven s t := by
  have hc := State.clients_congr hct hsau
  refine ⟨fun h => h.of_clients hc, fun _ _ he => .of_clients (State.Balanced.of_fs he (by rw [hfs]) fun port => ?_) hc⟩
  rw [State.queue_eq_of_fs hfs]

/-- Every effect keeps the balance. -/
theorem keepsEven_closed : Closed KeepsEven where
  trans := KeepsEven.trans
  quiet := KeepsEven.of_outline
  discardQueue := keepsEven_coupling.discardQueue
  completeTransmission s port := ⟨waits_closed.completeTransmission s port, fun _ _ he =>
    .of_clients (State.Balanced.completeTransmission he port) (s.completeTransmission_clients port)⟩
  enterLingering s n := ⟨waits_closed.enterLingering s n, fun _ _ he => he.enterLingering n⟩
  vacate s n := ⟨waits_closed.vacate s n, fun _ _ he => he.vacate n⟩
  completeMove s n count := ⟨waits_closed.completeMove s n count, fun _ _ he => he.completeMove n count⟩
  setClass s n new := ⟨waits_closed.setClass s n new, fun _ _ he => he.setClass n new⟩
  releasePass s g := ⟨waits_closed.releasePass s g, fun _ _ he => he.releasePass g⟩
  enterHold := keepsEven_coupling.enterHold
  compose := keepsEven_coupling.compose
  loopFrame s p frame := ⟨waits_closed.loopFrame s p frame, fun _ _ he =>
    .of_clients (State.Balanced.loopFrame he p frame) (s.loopFrame_clients p frame)⟩
  learnAndSubmit s p frame := ⟨waits_closed.learnAndSubmit s p frame, fun _ hw he => he.learnAndSubmit hw p frame⟩
  acceptData s c n attached a x frame howner :=
    ⟨waits_closed.acceptData s c n attached a x frame howner, fun _ _ he => he.acceptData howner frame⟩
  handOver s x c a := ⟨waits_closed.handOver s x c a, fun _ hw he => he.handOver hw x c a⟩
  insertDeferral _ _ _ := .of_fs_ct_sau rfl rfl rfl
  removeDeferral _ _ := .of_fs_ct_sau rfl rfl rfl
  filterEntitlements _ _ := .of_fs_ct_sau rfl rfl rfl
  putEntitlement _ _ _ := .of_fs_ct_sau rfl rfl rfl
  filterStations _ _ := .of_fs_ct_sau rfl rfl rfl
  enrol _ _ _ _ _ _ _ := .of_fs_ct_sau rfl rfl rfl
  reduceRoles _ _ _ _ := .of_fs_ct_sau rfl rfl rfl
  append s port e hk := ⟨waits_closed.append s port e hk, fun _ _ he =>
    .of_clients (State.Balanced.append he port false hk) (s.append_clients port e false)⟩
  holdFrame s n k hk := ⟨waits_closed.holdFrame s n k hk, fun _ _ he => he.holdFrame n hk⟩
  rederive s side f := .trans (t := s.onSide side f) (.of_fs_ct_sau rfl rfl rfl)
    (keepsEven_coupling.rederive (fun _ _ _ => .of_fs_ct_sau rfl rfl rfl) _ side)

/-- Between events no slot is held. -/
def State.AtRest (s : State) : Prop := s.Waits ∧ s.Even [] [] none

/-- Within an event only the slot in hand is held. -/
def State.InEvent (s : State) : Prop := s.Waits ∧ s.Even [] s.ev.inHand.toList none

theorem State.InEvent.of_keeps {s t : State} (hh : t.ev.inHand = s.ev.inHand) (hk : KeepsEven s t) (h : s.InEvent) : t.InEvent := by
  obtain ⟨hw, he⟩ := h
  obtain ⟨hwk, hek⟩ := hk
  refine ⟨hwk hw, ?_⟩
  rw [hh]
  exact hek _ hw he

theorem State.InEvent.settleInHand {s : State} (h : s.InEvent) : s.settleInHand.AtRest := by
  obtain ⟨hw, he⟩ := h
  refine ⟨hw.of_clients s.settleInHand_clients, ?_⟩
  unfold State.settleInHand
  cases hh : s.ev.inHand with
  | none => rwa [hh] at he
  | some k =>
    rw [hh] at he
    have hsettled : (s.settle k).Even [] [] none := State.Even.settle he
    exact .of_balanced (State.Balanced.of_fs hsettled rfl fun _ => rfl) rfl

/-- Right after a reset no slot is in use and no entry refers to one. -/
theorem State.even_of_empty {s : State} (hfs : s.fs = {}) (hct : s.ct = {}) : s.Even [] [] none := by
  have hqueue : ∀ port, (s.queue port).entries = [] := fun port => by
    rcases port with p | c | (_ | _) <;> simp [State.queue, hfs]
  have hshapes : s.clients.shapes = [] := by
    rw [State.clients, hct]
    rfl
  refine ⟨by rw [hfs]; rfl, by rw [hshapes]; rfl, fun k => ?_, fun k x hx => ?_, fun k h => nomatch h⟩
  · rw [State.refsOf_of_none (by rw [hfs]; rfl), hshapes]
    simp [State.queued, hqueue, Table.total]
  · rw [hfs] at hx
    cases hx

theorem atRest_keptBySteps : KeptBySteps State.AtRest State.InEvent :=
  (inHandKept_closed.and keepsEven_closed).keptBySteps
    (fun ⟨_, hw, he⟩ h => ⟨hw h.1, he [] h.1 h.2⟩) (fun ⟨hh, hk⟩ h => h.of_keeps hh hk)
    (fun _ ⟨hw, he⟩ => ⟨hw, .of_balanced (State.Balanced.of_fs he rfl fun _ => rfl) rfl⟩)
    (fun s ⟨hw, he⟩ hh => ⟨hw, by rwa [hh]⟩)
    (fun ⟨hw, he⟩ _ hc => ⟨(hw.of_clients (State.claim_clients hc) :),
      .of_balanced (State.Balanced.of_fs { he.claim hc with fresh := fun _ h => nomatch h } rfl fun _ => rfl) rfl⟩)
    (fun _ h => h.settleInHand)
    fun _ _ _ _ => ⟨waits_keptBySteps.reset _ _ _ _, State.even_of_empty rfl rfl⟩

end Sys2Proof.Machine

namespace Sys2Proof.Proofs

open Sys2Proof.Machine

/-- Settles O60: what an operation adds to or takes from a count is what it adds to or takes from the entries, and a slot that no entry
took is free again at the end of its event. -/
theorem referencesAreCounted : Obligations.ReferencesAreCounted := by
  intro s t hinv hwaiting hrefs hstep
  have hw := (waits_iff hinv.records.1).1 hwaiting
  have hrest : s.AtRest := ⟨hw, (refInv_iff hinv.slots.1 hinv.records.1).1 hrefs⟩
  obtain ⟨_, he⟩ := atRest_keptBySteps.step hrest hstep
  exact (refInv_iff he.slots_wf he.wf).2 he

/-- Settles O56: right after a reset there is no slot in use, no record, no entry, no station, no deferral and nobody waits. -/
theorem invariantsAtReset : Obligations.InvariantsAtReset :=
  ⟨inv_of_empty rfl rfl rfl rfl rfl, ⟨List.nodup_nil, List.nodup_nil, List.nodup_nil⟩,
    (waits_iff rfl).2 (waits_keptBySteps.reset State.reset .powerOn 0 false),
    (refInv_iff rfl rfl).2 (State.even_of_empty rfl rfl)⟩

end Sys2Proof.Proofs
end

section
/-! SUPPORT and PROOFS. The queue and the tick (O1, O2), resets and the beginning of a load (O6, O8), and commands that have no effect
(O5). -/

namespace Sys2Proof.Machine

/-! ### The tick -/

section CountDown

variable (s : State)

theorem State.countDown_side (side : Side) : s.countDown.side side = (s.side side).tick := by cases side <;> rfl

theorem State.countDown_seat (p : SeatNo) : s.countDown.seat p = (s.seat p).tick := by
  simp [State.countDown, State.seat]

theorem State.countDown_link (c : LinkNo) : s.countDown.link c = (s.link c).tick := by
  simp [State.countDown, State.link]

theorem State.countDown_record (n : Nat) : s.countDown.record n = (s.record n).map fun r => { r with st := r.st.tick } :=
  Table.get_mapValues (α := Record) (β := Record) (fun r => { r with st := r.st.tick }) s.ct.records n

/-- The tick of a running part whose load has begun. -/
theorem State.tick_running {s : State} (hline : s.resetLine = false) (hload : s.loadAwaited = false) :
    s.tick = { s.countDown with pending := s.countDown.pending ++ s.countDown.dueEvents } := by
  simp [State.tick, hline, hload]

end CountDown

theorem step_of_empty {s : State} (h : s.pending = []) : step s = .next s.tick := by simp [step, h]

theorem step_of_cons {s : State} {c : Instr} {rest : List Instr} (h : s.pending = c :: rest) :
    step s = exec c { s with pending := rest } := by simp [step, h]

/-! ### Events -/

/-- While the reset line is asserted an event only begins. -/
theorem State.event_of_line {s : State} (h : s.resetLine = true) (f : State → State) : s.event f = s.beginEvent := by
  simp [State.event, h]

theorem State.event_running {s : State} (h : s.resetLine = false) (f : State → State) :
    s.event f = (f s.beginEvent).endEvent := by
  simp [State.event, h]

theorem State.pinEvent_running {s : State} (h : s.resetLine = false) (f : State → State) :
    s.pinEvent f = (f s.beginEvent).endEvent := by
  simp [State.pinEvent, h]

/-- A command whose event does what `f` says reaches what `f` makes of the part. -/
theorem reaches_of_event {i : Instr} {s : State} {f : State → State} (hi : exec i s = .next (s.event f)) (h : s.resetLine = false) :
    reaches i s (f s.beginEvent) := by
  rw [reaches, hi, State.event_running h]

theorem reaches_of_pinEvent {i : Instr} {s : State} {f : State → State} (hi : exec i s = .next (s.pinEvent f))
    (h : s.resetLine = false) : reaches i s (f s.beginEvent) := by
  rw [reaches, hi, State.pinEvent_running h]

theorem reaches_of_eventWhen {i : Instr} {s : State} {due : Bool} {f : State → State} (hi : exec i s = .next (s.eventWhen due f))
    (h : s.resetLine = false) (hdue : due = true) : reaches i s (f s.beginEvent) := by
  rw [reaches, hi, State.eventWhen, State.event_running h, if_pos hdue]

/-- A command whose event has nothing to do only begins and ends one. -/
theorem reaches_nothing {i : Instr} {s : State} {due : Bool} {f : State → State} (hi : exec i s = .next (s.eventWhen due f))
    (h : s.resetLine = false) (hdue : due = false) : reaches i s s.beginEvent := by
  rw [reaches, hi, State.eventWhen, State.event_running h, hdue]
  rfl

/-- A command whose event leaves the part as it was at the event's beginning. -/
theorem reaches_same {i : Instr} {s : State} {f : State → State} (hi : exec i s = .next (s.event f)) (h : s.resetLine = false)
    (hf : f s.beginEvent = s.beginEvent) : reaches i s s.beginEvent := by
  have := reaches_of_event hi h
  rwa [hf] at this

/-- A pin's event that leaves the part as it was at the event's beginning. -/
theorem exec_pin_same {i : Instr} {s : State} {f : State → State} (hi : exec i s = .next (s.pinEvent f))
    (hf : f s.beginEvent = s.beginEvent) : exec i s = .next (if s.resetLine then s.beginEvent else s.beginEvent.endEvent) := by
  rw [hi, State.pinEvent, hf]

/-! ### Record timers that are not due -/

theorem State.idleExpiry_of_not_due {s : State} {n : Nat}
    (h : ((s.record n).any fun r => match r.st with | .attached _ t => isDue t | _ => false) = false) : s.idleExpiry n = s := by
  unfold State.idleExpiry
  cases hr : s.record n with
  | none => rfl
  | some r =>
    rw [hr, Option.any_some] at h
    cases hst : r.st <;> simp_all

theorem State.lingerExpiry_of_not_due {s : State} {n : Nat}
    (h : ((s.record n).any fun r => match r.st with | .lingering t => isDue t | _ => false) = false) : s.lingerExpiry n = s := by
  unfold State.lingerExpiry
  cases hr : s.record n with
  | none => rfl
  | some r =>
    rw [hr, Option.any_some] at h
    cases hst : r.st <;> simp_all

theorem State.deadlineExpiry_of_not_due {s : State} {n : Nat}
    (h : ((s.record n).any fun r => match r.st with | .moving _ _ _ t _ => isDue t | _ => false) = false) :
    s.deadlineExpiry n = s := by
  unfold State.deadlineExpiry
  cases hr : s.record n with
  | none => rfl
  | some r =>
    rw [hr, Option.any_some] at h
    cases hst : r.st <;> simp_all

/-! ### Resets -/

theorem State.afterReset_atResetValues (s : State) (cause : ResetCause) (count : Nat) : (s.afterReset cause count).atResetValues := by
  refine ⟨rfl, rfl, rfl, rfl, rfl, rfl, rfl, fun p => ?_, fun t => ?_, rfl, rfl, fun c => ?_, rfl, rfl, rfl, rfl, rfl,
    rfl, rfl, rfl, rfl, rfl⟩
  · simp [State.afterReset, State.seat]
  · simp [State.afterReset, State.trunk]
  · rw [s.afterReset_link cause count]

theorem State.afterReset_memory (s : State) (cause : ResetCause) (count : Nat) : resetMemory s (s.afterReset cause count) := by
  have hmemory : (s.afterReset cause count).memory = s.memoryAfterReset := rfl
  rw [resetMemory, hmemory]
  unfold State.memoryAfterReset
  split
  · next stage items hu => exact ⟨fun _ _ _ => ⟨rfl, rfl⟩, fun h => absurd hu (h stage items)⟩
  · next hu => exact ⟨fun stage items h => absurd h (hu stage items), fun _ => rfl⟩

/-- What the end of an event leaves of the blocks that it does not write. -/
theorem State.closeEvent_sl (u : State) : u.closeEvent.sl = u.sl := by simp

theorem State.closeEvent_memory (u : State) : u.closeEvent.memory = u.memory := by simp

end Sys2Proof.Machine

namespace Sys2Proof.Proofs

open Sys2Proof.Machine

/-- Settles O1: by the definition of a step. -/
theorem stepTakesFrontCommand : Obligations.StepTakesFrontCommand := fun _ _ _ h => step_of_cons h

/-- Settles O2: a tick counts down, and then queues what fell due. -/
theorem emptyQueueStepIsATick : Obligations.EmptyQueueStepIsATick := by
  intro s hempty hline hload
  refine ⟨_, (step_of_empty hempty).trans (congrArg _ (State.tick_running hline hload)), rfl, rfl, rfl, s.countDown_side, rfl,
    s.countDown_seat, rfl, s.countDown_link, rfl, s.countDown_record, rfl, rfl, rfl, rfl, rfl, rfl, rfl, rfl, ?_⟩
  have hpending : s.countDown.pending = [] := hempty
  rw [hpending]
  rfl

/-- Settles O5: the line asserted, an event only begins; an expiry that is not due, and a signal that is already there or already gone,
leave the part to begin and end one. -/
theorem commandsWithoutEffect : Obligations.CommandsWithoutEffect := by
  refine ⟨fun i s hline hi => ?_, fun i s hline hdue => ?_, fun s t => ⟨fun cut hsignal => ?_, fun status hsignal => ?_⟩⟩
  · cases i
    case resetLineAsserted => exact congrArg _ (if_pos hline)
    case powerOn | resetLineReleased | trunkSignalLoss | trunkSignalReturn | seatLinkIndicationChange | seatSpeedChange
      | ceilingStatusTick => cases hi
    all_goals exact congrArg _ (State.event_of_line hline _)
  · cases i
    case accessTimerExpiry | relayTimeout | surveyWindowEnd | deferralExpiry | activityTimerExpiry | barredFrameMarkExpiry | refill
      | minuteTimerExpiry | pageTimerExpiry | silenceTimerExpiry | checkErrorWindowEnd | linkFailureTimerExpiry | spacingTimerExpiry =>
      exact reaches_nothing rfl hline (Option.some.inj hdue)
    case idleTimerExpiry n => exact reaches_same rfl hline (State.idleExpiry_of_not_due (s := s.beginEvent) (Option.some.inj hdue))
    case lingerTimerExpiry n => exact reaches_same rfl hline (State.lingerExpiry_of_not_due (s := s.beginEvent) (Option.some.inj hdue))
    case releaseDeadlineExpiry n =>
      exact reaches_same rfl hline (State.deadlineExpiry_of_not_due (s := s.beginEvent) (Option.some.inj hdue))
    all_goals cases hdue
  · exact exec_pin_same rfl (if_pos (by simp [State.beginEvent, State.trunk] at hsignal ⊢; exact hsignal))
  · exact exec_pin_same rfl (if_pos hsignal)

/-- Settles O6: each of the three is a reset of every block. -/
theorem resetsGiveResetValues : Obligations.ResetsGiveResetValues := by
  refine ⟨fun s => ?_, fun s hline => ?_, fun u hdue => ?_⟩
  · exact ⟨_, rfl, s.beginEvent.afterReset_atResetValues .powerOn 0, rfl, rfl, rfl, s.beginEvent.afterReset_memory .powerOn 0⟩
  · refine ⟨{ s.beginEvent.afterReset .resetLine s.nextResetCount with resetLine := true }, ?_, ?_, rfl, rfl, rfl, rfl, ?_⟩
    · exact congrArg _ (if_neg (by simp [State.beginEvent, hline]))
    · exact s.beginEvent.afterReset_atResetValues .resetLine s.nextResetCount
    · exact s.beginEvent.afterReset_memory .resetLine s.nextResetCount
  · have hend : u.endEvent = u.closeEvent.cabinetReset := by simp [State.endEvent, hdue]
    have hsl := u.closeEvent_sl
    have hmemory := u.closeEvent_memory
    rw [hend, resetMemory, ← hsl, ← hmemory]
    generalize u.closeEvent = v
    exact ⟨v.afterReset_atResetValues .cabinetRequest v.nextResetCount, rfl, rfl, rfl, v.afterReset_memory .cabinetRequest v.nextResetCount⟩

/-- Settles O8: a load begins with the number of its read, and writes the Loader alone. -/
theorem startUpLoadBegins : Obligations.StartUpLoadBegins := by
  refine ⟨fun s hline => ?_, fun s hempty hline hload => ?_, fun s hline hload => ?_⟩
  · have hreleased : s.beginEvent.lineReleased = ({ s.beginEvent with resetLine := false } : State).beginLoad := if_pos hline
    exact ⟨_, congrArg Host.Outcome.next hreleased, rfl, rfl, rfl, rfl, rfl, rfl, rfl⟩
  · rw [step_of_empty hempty, State.tick, if_neg (by simp [hline]), if_pos hload, hempty]
    rfl
  · have hload' : s.beginEvent.startLoad = s.beginEvent.beginLoad := if_pos hload
    exact ⟨_, reaches_of_event rfl hline, by rw [hload']; exact ⟨rfl, rfl, rfl, rfl, rfl, rfl, rfl, rfl⟩⟩

end Sys2Proof.Proofs
end

section
/-! SUPPORT and PROOFS. Reading the blocks after an event's effects; the store's failure (O13), the survey and the Deferral List
(O34), and the radio messages that are not taken (O28). -/

namespace Sys2Proof.Machine

/-! ### Seats, links, trunks and causes -/

section Reading

variable (s : State)

theorem State.link_onLink (c d : LinkNo) (f : Link → Link) :
    (s.onLink c f).link d = if d = c then f (s.link d) else s.link d := by
  unfold State.onLink State.link
  by_cases h : d = c
  · subst h; simp
  · have hne : ¬ c.val = d.val := fun e => h (Fin.ext e.symm)
    simp [h, hne]

@[simp] theorem State.link_onLink_same (c : LinkNo) (f : Link → Link) : (s.onLink c f).link c = f (s.link c) := by
  rw [State.link_onLink, if_pos rfl]

theorem State.link_onLink_of_ne {c d : LinkNo} (f : Link → Link) (h : d ≠ c) : (s.onLink c f).link d = s.link d := by
  rw [State.link_onLink, if_neg h]

theorem State.seat_onSeat (p q : SeatNo) (f : Seat → Seat) :
    (s.onSeat p f).seat q = if q = p then f (s.seat q) else s.seat q := by
  unfold State.onSeat State.seat
  by_cases h : q = p
  · subst h; simp
  · have hne : ¬ p.val = q.val := fun e => h (Fin.ext e.symm)
    simp [h, hne]

@[simp] theorem State.seat_onSeat_same (p : SeatNo) (f : Seat → Seat) : (s.onSeat p f).seat p = f (s.seat p) := by
  rw [State.seat_onSeat, if_pos rfl]

theorem State.seat_onSeat_of_ne {p q : SeatNo} (f : Seat → Seat) (h : q ≠ p) : (s.onSeat p f).seat q = s.seat q := by
  rw [State.seat_onSeat, if_neg h]

theorem State.trunk_onTrunk (t k : TrunkNo) (f : Trunk → Trunk) :
    (s.onTrunk t f).trunk k = if k = t then f (s.trunk k) else s.trunk k := by
  unfold State.onTrunk State.trunk
  by_cases h : k = t
  · subst h; simp
  · have hne : ¬ t.val = k.val := fun e => h (Fin.ext e.symm)
    simp [h, hne]

@[simp] theorem State.trunk_onTrunk_same (t : TrunkNo) (f : Trunk → Trunk) : (s.onTrunk t f).trunk t = f (s.trunk t) := by
  rw [State.trunk_onTrunk, if_pos rfl]

@[simp] theorem State.trunk_onSeat (p : SeatNo) (f : Seat → Seat) (t : TrunkNo) : (s.onSeat p f).trunk t = s.trunk t := rfl

@[simp] theorem State.seat_onTrunk (t : TrunkNo) (f : Trunk → Trunk) (p : SeatNo) : (s.onTrunk t f).seat p = s.seat p := rfl

@[simp] theorem State.countLink_eq (c : LinkNo) (f : LinkCounters → LinkCounters) :
    s.countLink c f = s.onLink c fun x => { x with counts := f x.counts } := rfl

@[simp] theorem State.countSeat_eq (p : SeatNo) (f : SeatCounters → SeatCounters) :
    s.countSeat p f = s.onSeat p fun x => { x with counts := f x.counts } := rfl

/-- Two updates of one link are one. -/
theorem State.onLink_onLink (c : LinkNo) (f g : Link → Link) :
    (s.onLink c f).onLink c g = s.onLink c fun x => g (f x) := by
  simp [State.onLink, State.onClb]

/-- Two updates of one seat are one. -/
theorem State.onSeat_onSeat (p : SeatNo) (f g : Seat → Seat) :
    (s.onSeat p f).onSeat p g = s.onSeat p fun x => g (f x) := by
  simp [State.onSeat, State.onSpb]

/-! ### Readers of one block -/

theorem State.link_eq_of_clb {s t : State} (h : t.clb = s.clb) : t.link = s.link := by funext c; unfold State.link; rw [h]
theorem State.seat_eq_of_spb {s t : State} (h : t.spb = s.spb) : t.seat = s.seat := by funext p; unfold State.seat; rw [h]
theorem State.trunk_eq_of_spb {s t : State} (h : t.spb = s.spb) : t.trunk = s.trunk := by funext k; unfold State.trunk; rw [h]
theorem State.record_eq_of_ct {s t : State} (h : t.ct = s.ct) : t.record = s.record := by funext n; unfold State.record; rw [h]
theorem State.raised_eq_of_me {s t : State} (h : t.me = s.me) : t.raised = s.raised := by funext c; unfold State.raised; rw [h]
theorem State.coupled_eq_of_cu {s t : State} (h : t.cu = s.cu) : t.coupled = s.coupled := by
  funext side; unfold State.coupled; rw [State.side_eq_of_cu h]

/-- A cause stands at its index among the causes. -/
theorem allCauses_index (c : Cause) : allCauses[c.index.val]? = some c := by cases c <;> rfl

theorem Cause.index_injective : Function.Injective Cause.index := fun c d h =>
  Option.some.inj (by rw [← allCauses_index c, ← allCauses_index d, h])

theorem State.raised_raise (c d : Cause) : (s.raise c).raised d = if d = c then bump (s.raised d) else s.raised d := by
  unfold State.raise State.raised
  by_cases h : d = c
  · subst h; simp
  · have hne : ¬ c.index.val = d.index.val := fun e => h (Cause.index_injective (Fin.ext e)).symm
    simp [h, hne]

@[simp] theorem State.raised_raise_same (c : Cause) : (s.raise c).raised c = bump (s.raised c) := by
  rw [State.raised_raise, if_pos rfl]

/-! ### The beginning of an event -/

@[simp] theorem State.beginEvent_pending : s.beginEvent.pending = s.pending := rfl
@[simp] theorem State.beginEvent_resetLine : s.beginEvent.resetLine = s.resetLine := rfl
@[simp] theorem State.beginEvent_memory : s.beginEvent.memory = s.memory := rfl
@[simp] theorem State.beginEvent_ct : s.beginEvent.ct = s.ct := rfl
@[simp] theorem State.beginEvent_mc : s.beginEvent.mc = s.mc := rfl
@[simp] theorem State.beginEvent_sau : s.beginEvent.sau = s.sau := rfl
@[simp] theorem State.beginEvent_el : s.beginEvent.el = s.el := rfl
@[simp] theorem State.beginEvent_fs : s.beginEvent.fs = s.fs := rfl
@[simp] theorem State.beginEvent_spb : s.beginEvent.spb = s.spb := rfl
@[simp] theorem State.beginEvent_clb : s.beginEvent.clb = s.clb := rfl
@[simp] theorem State.beginEvent_cu : s.beginEvent.cu = s.cu := rfl
@[simp] theorem State.beginEvent_me : s.beginEvent.me = s.me := rfl
@[simp] theorem State.beginEvent_sl : s.beginEvent.sl = s.sl := rfl
@[simp] theorem State.beginEvent_link (c : LinkNo) : s.beginEvent.link c = s.link c := rfl
@[simp] theorem State.beginEvent_seat (p : SeatNo) : s.beginEvent.seat p = s.seat p := rfl
@[simp] theorem State.beginEvent_trunk (t : TrunkNo) : s.beginEvent.trunk t = s.trunk t := rfl
@[simp] theorem State.beginEvent_side (side : Side) : s.beginEvent.side side = s.side side := rfl
@[simp] theorem State.beginEvent_queue (port : Port) : s.beginEvent.queue port = s.queue port := rfl
@[simp] theorem State.beginEvent_record (n : Nat) : s.beginEvent.record n = s.record n := rfl
@[simp] theorem State.beginEvent_raised (c : Cause) : s.beginEvent.raised c = s.raised c := rfl
@[simp] theorem State.beginEvent_coupled (side : Side) : s.beginEvent.coupled side = s.coupled side := rfl
@[simp] theorem State.beginEvent_responses : s.beginEvent.ev.responses = [] := rfl
@[simp] theorem State.beginEvent_out : s.beginEvent.ev.out = [] := rfl
@[simp] theorem State.beginEvent_atPlace (pl : Place) : s.beginEvent.atPlace pl = s.atPlace pl := rfl
@[simp] theorem State.beginEvent_occupant (p : SeatNo) : s.beginEvent.occupant p = s.occupant p := rfl
@[simp] theorem State.beginEvent_byAddr (x : Addr) : s.beginEvent.byAddr x = s.byAddr x := rfl
@[simp] theorem State.beginEvent_byFormer (c : LinkNo) (a : AssocNo) : s.beginEvent.byFormer c a = s.byFormer c a := rfl
@[simp] theorem State.beginEvent_freeSlots : s.beginEvent.freeSlots = s.freeSlots := rfl

end Reading

/-! ### What an event changes -/

/-- `State.onlyChanges`, block by block. -/
theorem State.onlyChanges_iff {s t : State} {written : List Block} : s.onlyChanges t written ↔
    (Block.ct ∉ written → t.ct = s.ct) ∧ (Block.mc ∉ written → t.mc = s.mc) ∧ (Block.sau ∉ written → t.sau = s.sau)
    ∧ (Block.el ∉ written → t.el = s.el) ∧ (Block.fs ∉ written → t.fs = s.fs) ∧ (Block.spb ∉ written → t.spb = s.spb)
    ∧ (Block.clb ∉ written → t.clb = s.clb) ∧ (Block.cu ∉ written → t.cu = s.cu) ∧ (Block.me ∉ written → t.me = s.me)
    ∧ (Block.sl ∉ written → t.sl = s.sl) ∧ (Block.memory ∉ written → t.memory = s.memory)
    ∧ t.pending = s.pending ∧ t.resetLine = s.resetLine := by
  constructor
  · rintro ⟨h, hp, hl⟩
    exact ⟨h .ct, h .mc, h .sau, h .el, h .fs, h .spb, h .clb, h .cu, h .me, h .sl, h .memory, hp, hl⟩
  · rintro ⟨hct, hmc, hsau, hel, hfs, hspb, hclb, hcu, hme, hsl, hmemory, hp, hl⟩
    refine ⟨fun b hb => ?_, hp, hl⟩
    cases b
    exacts [hct hb, hmc hb, hsau hb, hel hb, hfs hb, hspb hb, hclb hb, hcu hb, hme hb, hsl hb, hmemory hb]

/-- The beginning of an event changes no block. -/
theorem State.onlyChanges_beginEvent (s : State) (written : List Block) : s.onlyChanges s.beginEvent written := by
  simp [State.onlyChanges_iff]

theorem State.onlyChanges.trans {s t u : State} {written : List Block} (h : s.onlyChanges t written)
    (h' : t.onlyChanges u written) : s.onlyChanges u written := by
  obtain ⟨hb, hp, hl⟩ := h
  obtain ⟨hb', hp', hl'⟩ := h'
  refine ⟨fun b hw => ?_, hp'.trans hp, hl'.trans hl⟩
  have h1 := hb b hw
  have h2 := hb' b hw
  cases b <;> exact Eq.trans h2 h1

theorem State.onlyChanges.mono {s t : State} {written more : List Block} (h : s.onlyChanges t written)
    (hsub : written ⊆ more) : s.onlyChanges t more :=
  ⟨fun b hb => h.1 b fun hw => hb (hsub hw), h.2⟩

/-- What a command reaches, its event's function evaluated. -/
theorem reaches_event {i : Instr} {s u : State} {f : State → State} (hi : exec i s = .next (s.event f)) (h : s.resetLine = false)
    (hf : f s.beginEvent = u) : reaches i s u := hf ▸ reaches_of_event hi h

theorem reaches_pinEvent {i : Instr} {s u : State} {f : State → State} (hi : exec i s = .next (s.pinEvent f))
    (h : s.resetLine = false) (hf : f s.beginEvent = u) : reaches i s u := hf ▸ reaches_of_pinEvent hi h

theorem reaches_eventWhen {i : Instr} {s u : State} {due : Bool} {f : State → State}
    (hi : exec i s = .next (s.eventWhen due f)) (h : s.resetLine = false) (hdue : due = true) (hf : f s.beginEvent = u) :
    reaches i s u := hf ▸ reaches_of_eventWhen hi h hdue

/-! ### The store that fails -/

/-- An image whose check word is missing is invalid. -/
theorem Image.settings_of_no_check {m : Image} (h : m.check = none) : m.settings = none := by
  simp [Image.settings, h]

theorem failedImage_of_later {m : Image} {stage : Stage} {free : Nat} (h : stage ≠ .first) :
    (failedImage m stage free).settings = none := by
  rw [failedImage, if_neg (by simp [h])]
  exact Image.settings_of_no_check rfl

theorem failedImage_first (m : Image) (free : Nat) :
    failedImage m .first free = m ∨ (failedImage m .first free).settings = none := by
  unfold failedImage
  split
  · exact Or.inl rfl
  · exact Or.inr (Image.settings_of_no_check rfl)

/-- What a command does that ends a store with a failure (R216). -/
theorem State.storeFailed_ends (s : State) {stage : Stage} {r : Return} (hr : s.sl.pendingReturn = some r) :
    let u := s.storeFailed stage
    u.sl.unit = .idle ∧ u.sl.accessTimer = none ∧ u.sl.outcome = some .writeFailed
      ∧ u.sl.counts.storeFaults = bump s.sl.counts.storeFaults ∧ u.raised .settingsFault = bump (s.raised .settingsFault)
      ∧ longResponse u r .settingsFault [] ∧ u.settings = s.settings
      ∧ u.memory = failedImage s.memory stage s.free := by
  dsimp only
  unfold State.storeFailed
  dsimp only
  rw [hr]
  exact ⟨rfl, rfl, rfl, rfl, State.raised_raise_same _ _, List.mem_append_right _ (List.mem_singleton_self _), rfl, rfl⟩

/-! ### Surveys -/

theorem Link.crowded_iff (x : Link) : x.crowded = true ↔
    ∃ v, x.survey = some v ∧ x.profile.threshold ≠ 0 ∧ x.profile.threshold * v.length ≤ v.busy * 100 := by
  unfold Link.crowded
  cases x.survey <;> simp

end Sys2Proof.Machine

namespace Sys2Proof.Proofs

open Sys2Proof.Machine

/-- Settles O13: both commands come to `storeFailed`. -/
theorem storeFailureEndsTheStore : Obligations.StoreFailureEndsTheStore := by
  intro s stage items r i hline hunit hreturn hi
  have hreaches : reaches i s (s.beginEvent.storeFailed stage) := by
    rcases hi with rfl | ⟨rfl, htimer⟩
    · exact reaches_event rfl hline (by simp [State.writeFailure, hunit])
    · exact reaches_eventWhen rfl hline (by rw [htimer]; rfl) (by simp [State.accessExpiry, hunit])
  obtain ⟨hidle, haccess, houtcome, hcount, hraised, hresponse, hsettings, hmemory⟩ :=
    s.beginEvent.storeFailed_ends (stage := stage) (r := r) hreturn
  refine ⟨_, hreaches, hidle, haccess, houtcome, hcount, hraised, hresponse, hsettings, fun hstage => ?_, fun hstage => ?_⟩
  · rw [hmemory]; exact failedImage_of_later hstage
  · rw [hmemory, hstage]; exact failedImage_first _ _

/-- Settles O34: the window's end, the definition of crowding, and the entry's removal. -/
theorem surveyAndDeferralEnd : Obligations.SurveyAndDeferralEnd := by
  refine ⟨fun s c w hline hw hleft => ?_, Link.crowded_iff, fun s d hline hd hleft => ?_⟩
  · have hdue : (s.link c).windowDone = true := by simp [Link.windowDone, hw, hleft]
    refine ⟨_, reaches_of_eventWhen rfl hline hdue, fun d hd => ?_, ?_, ?_⟩
    · exact State.link_onLink_of_ne _ _ hd
    · simp [State.onlyChanges_iff, State.windowEnd]
    · simp [State.windowEnd, hw, Link.newWindow]
  · have hdue : s.deferralDue d.addr = true := List.any_eq_true.2 ⟨d, hd, by simp [hleft]⟩
    refine ⟨_, reaches_of_eventWhen rfl hline hdue, rfl, rfl, rfl, ?_⟩
    simp [State.onlyChanges_iff, State.deferralOver]

/-- A radio's command is the event that hands its message, or its malformed bytes, to the block. -/
theorem exec_radioMessage {i : Instr} {c : LinkNo} {m : Option RadioMessage} (h : radioMessage i = some (c, m)) (s : State) :
    exec i s = .next (s.event fun t => t.fromRadio c m) := by
  cases i <;> simp only [radioMessage, reduceCtorEq, Option.some.injEq, Prod.mk.injEq] at h <;>
    obtain ⟨rfl, rfl⟩ := h <;> rfl

/-- Settles O28: by the three tests that come before a message is taken. -/
theorem radioMessageNotTaken : Obligations.RadioMessageNotTaken := by
  intro i c m s hline hm
  have hexec := exec_radioMessage hm s
  refine ⟨fun hheld => ?_, fun hheld hbad => ?_, fun hheld hready hgood => ?_⟩
  · exact ⟨_, reaches_same hexec hline (if_pos hheld), s.onlyChanges_beginEvent _⟩
  · have hmalformed : s.beginEvent.fromRadio c m = s.beginEvent.countLink c fun k => { k with malformed := bump k.malformed } := by
      unfold State.fromRadio
      cases m with
      | none => simp [hheld]
      | some m => rw [Option.all_some] at hbad; simp [hheld, hbad]
    refine ⟨_, reaches_event hexec hline hmalformed, fun d hd => State.link_onLink_of_ne _ _ hd, ?_, ?_⟩
    · simp
    · simp [State.onlyChanges_iff]
  · have hnotReady : s.beginEvent.fromRadio c m = s.beginEvent.countLink c fun k => { k with notReady := bump k.notReady } := by
      unfold State.fromRadio
      cases m with
      | none => simp at hgood
      | some m => rw [Option.all_some] at hgood; simp [hheld, hgood, hready]
    refine ⟨_, reaches_event hexec hline hnotReady, fun d hd => State.link_onLink_of_ne _ _ hd, ?_, ?_⟩
    · simp
    · simp [State.onlyChanges_iff]

end Sys2Proof.Proofs
end

section
/-! SUPPORT and PROOFS. The rules of the Frame Store's operations: what they make of the slots, the queues and the ports, and what control
messages leave on record. Completed transmissions (O21) rest on them. -/

namespace Sys2Proof.Machine

/-! ### Reference counts -/

section References

variable (s : State)

theorem State.refsOf_eq_of_slots {s t : State} (h : t.fs.slots = s.fs.slots) : t.refsOf = s.refsOf := by
  funext k; unfold State.refsOf; rw [h]

theorem State.slotFrame_eq_of_slots {s t : State} (h : t.fs.slots = s.fs.slots) : t.slotFrame = s.slotFrame := by
  funext k; unfold State.slotFrame; rw [h]

theorem State.freeSlots_eq_of_slots {s t : State} (h : t.fs.slots = s.fs.slots) : t.freeSlots = s.freeSlots := by
  unfold State.freeSlots; rw [h]

theorem State.refsOf_dropRef (k j : Nat) : (s.dropRef k).refsOf j = s.refsOf j - if k = j then 1 else 0 := by
  cases hx : s.fs.slots.get k with
  | none =>
    have hsame : s.dropRef k = s := by simp [State.dropRef, hx]
    rw [hsame]
    split
    · next h => rw [← h, State.refsOf_of_none hx]
    · rfl
  | some x =>
    have hslots := s.dropRef_slots hx
    have hk := State.refsOf_of_get hx
    have hone : x.refs ≤ 1 → (s.dropRef k).fs.slots = s.fs.slots.del k := fun h => by rw [hslots, if_pos h]
    have hmore : ¬ x.refs ≤ 1 → (s.dropRef k).fs.slots = s.fs.slots.put k { x with refs := x.refs - 1 } := fun h => by
      rw [hslots, if_neg h]
    by_cases hle : x.refs ≤ 1
    · have hget : (s.dropRef k).fs.slots.get j = if j = k then none else s.fs.slots.get j := by rw [hone hle, Table.get_del]
      by_cases hj : k = j
      · subst hj
        rw [State.refsOf_of_none (by rw [hget, if_pos rfl]), hk, if_pos rfl]
        omega
      · rw [State.refsOf_congr (s := s) (by rw [hget, if_neg (Ne.symm hj)]), if_neg hj, Nat.sub_zero]
    · have hget : (s.dropRef k).fs.slots.get j = if j = k then some { x with refs := x.refs - 1 } else s.fs.slots.get j := by
        rw [hmore hle, Table.get_put]
      by_cases hj : k = j
      · subst hj
        rw [State.refsOf_of_get (by rw [hget, if_pos rfl]), hk, if_pos rfl]
      · rw [State.refsOf_congr (s := s) (by rw [hget, if_neg (Ne.symm hj)]), if_neg hj, Nat.sub_zero]

/-- Steps that each give up the reference of one entry, one after the other. -/
theorem refsOf_foldl_drop {α : Type} {f : State → α → State} {slot : α → Nat} {k : Nat}
    (hf : ∀ t a, (f t a).refsOf k = t.refsOf k - if slot a = k then 1 else 0) (l : List α) (s : State) :
    (l.foldl f s).refsOf k = s.refsOf k - l.countP fun a => slot a == k := by
  induction l generalizing s with
  | nil => rfl
  | cons a rest ih =>
    rw [List.foldl_cons, ih, hf, List.countP_cons]
    simp only [beq_iff_eq]
    omega

theorem State.refsOf_dropRefs (es : List Entry) (k : Nat) :
    (es.foldl (fun t e => t.dropRef e.slot) s).refsOf k = s.refsOf k - es.countP fun e => e.slot == k :=
  refsOf_foldl_drop (fun t e => t.refsOf_dropRef e.slot k) es s

theorem State.dropRefs_queue (es : List Entry) : (es.foldl (fun t e => t.dropRef e.slot) s).queue = s.queue :=
  foldl_keeps State.queue (fun t e => t.dropRef_queue e.slot) es rfl

theorem State.dropRefs_keeps (es : List Entry) : (es.foldl (fun t e => t.dropRef e.slot) s).spb = s.spb
    ∧ (es.foldl (fun t e => t.dropRef e.slot) s).cu = s.cu ∧ (es.foldl (fun t e => t.dropRef e.slot) s).clb = s.clb := by
  have h := foldl_keeps (fun t : State => (t.spb, t.cu, t.clb)) (f := fun (t : State) (e : Entry) => t.dropRef e.slot)
    (by intros; simp) es (b := s) rfl
  simpa only [Prod.mk.injEq] using h

theorem State.dropRef_out (k : Nat) : (s.dropRef k).ev.out = s.ev.out := by
  unfold State.dropRef
  split
  · rfl
  · split <;> simp [State.freeSlot_keeps]

theorem State.dropRefs_out (es : List Entry) : (es.foldl (fun t e => t.dropRef e.slot) s).ev.out = s.ev.out :=
  foldl_keeps (fun t : State => t.ev.out) (fun t e => t.dropRef_out e.slot) es rfl

end References

/-! ### What control messages leave on record -/

/-- A seat but for the record of its lamp commands. -/
def Seat.uncommanded (x : Seat) : Seat :=
  { x with lastCommanded := none, counts := { x.counts with lampCommands := 0 } }

/-- A backbone port but for its count of pages sent. -/
def Backbone.unpaged (b : Backbone) : Backbone := { b with counts := { b.counts with pagesSent := 0 } }

/-- A backbone port that has sent one more page. -/
def Backbone.pageSent (b : Backbone) : Backbone := { b with counts := { b.counts with pagesSent := bump b.counts.pagesSent } }

/-- A seat that has been sent one more lamp command. -/
def Seat.commanded (out : LampOutput) (x : Seat) : Seat :=
  { x with lastCommanded := some out, counts := { x.counts with lampCommands := bump x.counts.lampCommands } }

theorem State.goOut_page (s : State) (side : Side) (bytes : Bytes) :
    s.goOut (.backbone side) (.page bytes) = (s.onSide side Backbone.pageSent).emit (.page side bytes) := rfl

theorem State.goOut_lamp (s : State) (p : SeatNo) (out : LampOutput) : s.goOut (.seat p) (.lamp out)
    = (s.onSeat p (Seat.commanded out)).emit (.lamp (trunkOf p) (lampBytes p out s.spb.blink)) := rfl

theorem State.goOut_page_side (s : State) (side : Side) (bytes : Bytes) (x : Side) :
    (s.goOut (.backbone side) (.page bytes)).side x = if x = side then (s.side x).pageSent else s.side x :=
  s.side_onSide side x Backbone.pageSent

theorem State.goOut_lamp_seat (s : State) (p : SeatNo) (out : LampOutput) (q : SeatNo) :
    (s.goOut (.seat p) (.lamp out)).seat q = if q = p then (s.seat q).commanded out else s.seat q :=
  s.seat_onSeat p q (Seat.commanded out)

/-- The Seat Port and Ceiling Link blocks and the Coupling Unit stand the same but for what control messages on one port record. -/
structure State.Told (s t : State) (port : Port) : Prop where
  seats : ∀ p, port ≠ .seat p → t.seat p = s.seat p
  seat : ∀ p, (t.seat p).uncommanded = (s.seat p).uncommanded
  trunk : t.trunk = s.trunk
  lamps : t.spb.rules = s.spb.rules ∧ t.spb.brightness = s.spb.brightness ∧ t.spb.blinkRunning = s.spb.blinkRunning
    ∧ t.spb.blink = s.spb.blink
  spb : (∀ p, port ≠ .seat p) → t.spb = s.spb
  sides : ∀ x, port ≠ .backbone x → t.side x = s.side x
  side : ∀ x, (t.side x).unpaged = (s.side x).unpaged
  unit : t.cu.epoch = s.cu.epoch ∧ t.cu.setChanges = s.cu.setChanges ∧ t.cu.vehicle = s.cu.vehicle
    ∧ t.cu.vehicleSetting = s.cu.vehicleSetting
  cu : (∀ x, port ≠ .backbone x) → t.cu = s.cu
  clb : t.clb = s.clb

namespace State.Told

variable {s t u : State} {port : Port}

theorem of_eq (hspb : t.spb = s.spb) (hcu : t.cu = s.cu) (hclb : t.clb = s.clb) : s.Told t port where
  seats p _ := congrFun (State.seat_eq_of_spb hspb) p
  seat p := congrArg _ (congrFun (State.seat_eq_of_spb hspb) p)
  trunk := State.trunk_eq_of_spb hspb
  lamps := by rw [hspb]; exact ⟨rfl, rfl, rfl, rfl⟩
  spb _ := hspb
  sides x _ := congrFun (State.side_eq_of_cu hcu) x
  side x := congrArg _ (congrFun (State.side_eq_of_cu hcu) x)
  unit := by rw [hcu]; exact ⟨rfl, rfl, rfl, rfl⟩
  cu _ := hcu
  clb := hclb

theorem refl (s : State) (port : Port) : s.Told s port := of_eq rfl rfl rfl

theorem trans (h : s.Told t port) (h' : t.Told u port) : s.Told u port where
  seats p hp := (h'.seats p hp).trans (h.seats p hp)
  seat p := (h'.seat p).trans (h.seat p)
  trunk := h'.trunk.trans h.trunk
  lamps := by
    obtain ⟨hr, hb, hrun, hblink⟩ := h.lamps
    obtain ⟨hr', hb', hrun', hblink'⟩ := h'.lamps
    exact ⟨hr'.trans hr, hb'.trans hb, hrun'.trans hrun, hblink'.trans hblink⟩
  spb hp := (h'.spb hp).trans (h.spb hp)
  sides x hx := (h'.sides x hx).trans (h.sides x hx)
  side x := (h'.side x).trans (h.side x)
  unit := by
    obtain ⟨he, hs, hv, hvs⟩ := h.unit
    obtain ⟨he', hs', hv', hvs'⟩ := h'.unit
    exact ⟨he'.trans he, hs'.trans hs, hv'.trans hv, hvs'.trans hvs⟩
  cu hx := (h'.cu hx).trans (h.cu hx)
  clb := h'.clb.trans h.clb

theorem goOut (s : State) (port : Port) (m : Control) : s.Told (s.goOut port m) port := by
  unfold State.goOut
  split
  · next side bytes =>
    have hside := s.goOut_page_side side bytes
    exact {
      seats := fun _ _ => rfl, seat := fun _ => rfl, trunk := rfl, lamps := ⟨rfl, rfl, rfl, rfl⟩, spb := fun _ => rfl
      sides := fun x hx => (hside x).trans (if_neg fun h => hx (congrArg Port.backbone h.symm))
      side := fun x => (congrArg Backbone.unpaged (hside x)).trans (by split <;> rfl)
      unit := by cases side <;> exact ⟨rfl, rfl, rfl, rfl⟩
      cu := fun h => absurd rfl (h side)
      clb := rfl }
  · exact of_eq rfl rfl rfl
  · next p out =>
    have hseat := s.goOut_lamp_seat p out
    exact {
      seats := fun q hq => (hseat q).trans (if_neg fun h => hq (congrArg Port.seat h.symm))
      seat := fun q => (congrArg Seat.uncommanded (hseat q)).trans (by split <;> rfl)
      trunk := rfl, lamps := ⟨rfl, rfl, rfl, rfl⟩, spb := fun h => absurd rfl (h p), sides := fun _ _ => rfl
      side := fun _ => rfl, unit := ⟨rfl, rfl, rfl, rfl⟩, cu := fun _ => rfl, clb := rfl }
  · exact refl s _

theorem goOuts (port : Port) (ms : List Control) (s : State) : s.Told (ms.foldl (fun t m => t.goOut port m) s) port := by
  induction ms generalizing s with
  | nil => exact refl s port
  | cons m rest ih => exact (goOut s port m).trans (ih _)

theorem releaseWaiting (s : State) (port : Port) : s.Told (s.releaseWaiting port) port := by
  have hqueue : s.Told (s.onQueue port fun q => { q with waiting := [] }) port := of_eq rfl rfl rfl
  unfold State.releaseWaiting
  dsimp only
  split
  · exact hqueue.trans (goOuts port _ _)
  · exact hqueue

theorem sendControl (s : State) (port : Port) (m : Control) : s.Told (s.sendControl port m) port := by
  unfold State.sendControl
  split
  · exact refl s port
  · split
    · exact of_eq rfl rfl rfl
    · exact goOut s port m

theorem discardQueue (s : State) (port : Port) : s.Told (s.discardQueue port) port := by
  unfold State.discardQueue
  dsimp only
  refine Told.trans (of_eq ?_ ?_ ?_) (releaseWaiting _ port)
  · rw [(State.dropRefs_keeps _ _).1]; rfl
  · rw [(State.dropRefs_keeps _ _).2.1]; rfl
  · rw [(State.dropRefs_keeps _ _).2.2]; rfl

theorem up (h : s.Told t port) (p : SeatNo) : (t.seat p).up = (s.seat p).up :=
  have hseat := congrArg Seat.up (h.seat p)
  hseat

theorem profile (h : s.Told t port) (p : SeatNo) : (t.seat p).profile = (s.seat p).profile :=
  have hseat := congrArg Seat.profile (h.seat p)
  hseat

theorem state (h : s.Told t port) (x : Side) : (t.side x).state = (s.side x).state :=
  have hside := congrArg Backbone.state (h.side x)
  hside

theorem coupled (h : s.Told t port) (x : Side) : t.coupled x = s.coupled x := by
  unfold State.coupled
  rw [h.state x]

theorem pagingHeld (h : s.Told t port) (x : Side) : (t.side x).pagingHeld = (s.side x).pagingHeld :=
  have hside := congrArg Backbone.pagingHeld (h.side x)
  hside

theorem transmits (h : s.Told t port) (other : Port) : t.transmits other = s.transmits other := by
  rcases other with p | c | x
  · exact h.up p
  · simp only [State.transmits, State.link_eq_of_clb h.clb]
  · exact h.coupled x

theorem inLoopback (h : s.Told t port) (other : Port) : t.inLoopback other = s.inLoopback other := by
  rcases other with p | c | x
  · exact congrArg SeatProfile.loopback (h.profile p)
  · rfl
  · rfl

theorem controlOpen (h : s.Told t port) (other : Port) : t.controlOpen other = s.controlOpen other := by
  rcases other with p | c | x
  · simp only [State.controlOpen, h.trunk]
  · simp only [State.controlOpen, State.link_eq_of_clb h.clb]
  · simp only [State.controlOpen, h.pagingHeld x]

end State.Told

/-! ### The queue of a port -/

section Queues

variable (s : State)

@[simp] theorem State.goOut_queue (port : Port) (m : Control) : (s.goOut port m).queue = s.queue :=
  State.queue_eq_of_fs (by simp)

theorem State.releaseWaiting_fs (port : Port) :
    (s.releaseWaiting port).fs = (s.onQueue port fun q => { q with waiting := [] }).fs := by
  unfold State.releaseWaiting
  dsimp only
  split
  · exact foldl_keeps State.fs (fun t m => by simp) _ rfl
  · rfl

theorem State.releaseWaiting_queue_self (port : Port) :
    (s.releaseWaiting port).queue port = { s.queue port with waiting := [] } := by
  rw [State.queue_eq_of_fs (s.releaseWaiting_fs port), State.onQueue, State.queue_setQueue_self]

theorem State.releaseWaiting_queue_of_ne {port other : Port} (h : other ≠ port) :
    (s.releaseWaiting port).queue other = s.queue other := by
  rw [State.queue_eq_of_fs (s.releaseWaiting_fs port), State.onQueue, State.queue_setQueue_of_ne _ _ h]

theorem State.releaseWaiting_slots (port : Port) : (s.releaseWaiting port).fs.slots = s.fs.slots := by
  rw [s.releaseWaiting_fs port, State.onQueue, State.setQueue_slots]

theorem State.releaseWaiting_out (port : Port) :
    (s.releaseWaiting port).ev.out = s.ev.out ++ s.waitingOutputs port := by
  unfold State.releaseWaiting State.waitingOutputs
  dsimp only
  split
  · rw [State.goOuts_out]; rfl
  · simp

/-- What waits on a port is read of its queue and of whether the port is open. -/
theorem State.waitingOutputs_congr {s t : State} {port : Port} (hq : (t.queue port).waiting = (s.queue port).waiting)
    (hopen : t.controlOpen port = s.controlOpen port) (hblink : t.spb.blink = s.spb.blink) :
    t.waitingOutputs port = s.waitingOutputs port := by
  simp only [State.waitingOutputs, hq, hopen, hblink]

theorem State.discardQueue_queue_of_ne {port other : Port} (h : other ≠ port) :
    (s.discardQueue port).queue other = s.queue other := by
  unfold State.discardQueue
  dsimp only
  rw [State.releaseWaiting_queue_of_ne _ h, State.dropRefs_queue, State.queue_setQueue_of_ne _ _ h]

theorem State.discardQueue_queue_self (port : Port) :
    (s.discardQueue port).queue port = { s.queue port with
      entries := [], tx := none, waiting := []
      counts := { (s.queue port).counts with
        lost := bumpBy (s.queue port).counts.lost (if (s.queue port).tx.isSome then 1 else 0)
        discarded := bumpBy (s.queue port).counts.discarded
          ((s.queue port).entries.length - if (s.queue port).tx.isSome then 1 else 0) } } := by
  unfold State.discardQueue
  dsimp only
  rw [State.releaseWaiting_queue_self, State.dropRefs_queue, State.queue_setQueue_self]

theorem State.discardQueue_entries (port : Port) : ((s.discardQueue port).queue port).entries = [] := by
  rw [State.discardQueue_queue_self]

theorem State.discardQueue_refsOf (port : Port) (k : Nat) :
    (s.discardQueue port).refsOf k = s.refsOf k - (s.queue port).entries.countP fun e => e.slot == k := by
  unfold State.discardQueue
  dsimp only
  rw [State.refsOf_eq_of_slots (State.releaseWaiting_slots _ port), State.refsOf_dropRefs,
    State.refsOf_eq_of_slots (s.setQueue_slots port _)]

theorem State.discardQueue_out (port : Port) : (s.discardQueue port).ev.out = s.ev.out ++ s.waitingOutputs port := by
  unfold State.discardQueue
  dsimp only
  obtain ⟨hspb, hcu, hclb⟩ := State.dropRefs_keeps
    (s.setQueue port { s.queue port with
      entries := [], tx := none
      counts := { (s.queue port).counts with
        lost := bumpBy (s.queue port).counts.lost (if (s.queue port).tx.isSome then 1 else 0)
        discarded := bumpBy (s.queue port).counts.discarded
          ((s.queue port).entries.length - if (s.queue port).tx.isSome then 1 else 0) } }) (s.queue port).entries
  rw [State.releaseWaiting_out, State.dropRefs_out]
  congr 1
  refine State.waitingOutputs_congr ?_ ?_ (congrArg SeatPortBlock.blink hspb)
  · rw [State.dropRefs_queue, State.queue_setQueue_self]
  · exact (State.Told.of_eq hspb hcu hclb : s.Told _ port).controlOpen port

/-! ### Transmissions -/

theorem State.beginTransmission_queue_of_ne {port other : Port} (h : other ≠ port) :
    (s.beginTransmission port).queue other = s.queue other := by
  unfold State.beginTransmission
  dsimp only
  (repeat' split) <;> simp [State.queue_setQueue_of_ne _ _ h]

theorem State.beginTransmission_slots (port : Port) : (s.beginTransmission port).fs.slots = s.fs.slots :=
  congrArg Outline.slots (s.beginTransmission_outline port)

theorem State.beginTransmission_mark (port : Port) : (s.beginTransmission port).fs.mark = s.fs.mark := by
  unfold State.beginTransmission
  dsimp only
  (repeat' split) <;> simp

theorem State.beginTransmission_fsCounts (port : Port) : (s.beginTransmission port).fs.counts = s.fs.counts := by
  unfold State.beginTransmission
  dsimp only
  (repeat' split) <;> simp

theorem State.beginTransmission_queue_self (port : Port) :
    ((s.beginTransmission port).queue port).entries = (s.queue port).entries
    ∧ ((s.beginTransmission port).queue port).counts = (s.queue port).counts
    ∧ ((s.beginTransmission port).queue port).waiting = (s.queue port).waiting := by
  unfold State.beginTransmission
  dsimp only
  (repeat' split) <;> simp

/-- An idle port begins with the head of its queue when it transmits (R38). -/
theorem State.beginTransmission_tx {s : State} {port : Port} (h : (s.queue port).tx = none) :
    ((s.beginTransmission port).queue port).tx.isSome = (!(s.queue port).entries.isEmpty && s.transmits port) := by
  unfold State.beginTransmission
  dsimp only
  rw [h]
  cases he : (s.queue port).entries with
  | nil => simp [h]
  | cons e rest =>
    simp only
    split
    · next ht => simp [ht]
    · next ht => simp [ht, h]

end Queues

/-! ### A completion -/

/-- The part when the frame of entry `e` has gone out and nothing else of its completion has been done. -/
def State.frameSent (s : State) (port : Port) (e : Entry) (rest : List Entry) : State :=
  ((s.setQueue port { s.queue port with
      entries := rest, tx := none, counts := { (s.queue port).counts with sent := bump (s.queue port).counts.sent } }).emit
    (.frame port (sentBytes port e (s.slotFrame e.slot)))).dropRef e.slot

/-- The part when a completion has also sent what waited and begun the next frame. -/
def State.sentOn (s : State) (port : Port) (e : Entry) (rest : List Entry) : State :=
  ((s.frameSent port e rest).releaseWaiting port).beginTransmission port

/-- A seat is active when a frame has gone out to it (R131). -/
def State.markActive (s : State) : Port → State
  | .seat p => s.onSeat p fun x => { x with activity := some 100 }
  | _ => s

section Completion

variable {s : State} {port : Port} {e : Entry} {rest : List Entry} {x : Transmission}

theorem State.completeTransmission_eq (htx : (s.queue port).tx = some x) (he : (s.queue port).entries = e :: rest) :
    s.completeTransmission port = (s.sentOn port e rest).markActive port := by
  unfold State.completeTransmission
  dsimp only
  rw [htx, he]
  rcases port with p | c | side <;> rfl

theorem State.completeTransmission_idle (htx : (s.queue port).tx = none) : s.completeTransmission port = s := by
  unfold State.completeTransmission
  dsimp only
  rw [htx]

theorem State.markActive_fs (s : State) (port : Port) : (s.markActive port).fs = s.fs := by cases port <;> rfl

theorem State.markActive_ev (s : State) (port : Port) : (s.markActive port).ev = s.ev := by cases port <;> rfl

theorem State.markActive_seat_of_ne (s : State) {port : Port} {p : SeatNo} (h : port ≠ .seat p) :
    (s.markActive port).seat p = s.seat p := by
  cases port with
  | seat q => exact s.seat_onSeat_of_ne _ fun e => h (congrArg Port.seat e.symm)
  | ceiling c => rfl
  | backbone side => rfl

theorem State.frameSent_told (s : State) (port : Port) (e : Entry) (rest : List Entry) : s.Told (s.frameSent port e rest) port :=
  State.Told.of_eq (by simp [State.frameSent]) (by simp [State.frameSent]) (by simp [State.frameSent])

theorem State.sentOn_told (s : State) (port : Port) (e : Entry) (rest : List Entry) : s.Told (s.sentOn port e rest) port :=
  (s.frameSent_told port e rest).trans ((State.Told.releaseWaiting _ port).trans
    (State.Told.of_eq (by simp [State.sentOn]) (by simp [State.sentOn]) (by simp [State.sentOn])))

theorem State.frameSent_queue_self (s : State) (port : Port) (e : Entry) (rest : List Entry) :
    (s.frameSent port e rest).queue port = { s.queue port with
      entries := rest, tx := none, counts := { (s.queue port).counts with sent := bump (s.queue port).counts.sent } } := by
  rw [State.frameSent, State.dropRef_queue]
  exact s.queue_setQueue_self port _

theorem State.frameSent_queue_of_ne (s : State) {port other : Port} (e : Entry) (rest : List Entry) (h : other ≠ port) :
    (s.frameSent port e rest).queue other = s.queue other := by
  rw [State.frameSent, State.dropRef_queue]
  exact s.queue_setQueue_of_ne _ h

theorem State.frameSent_refsOf (s : State) (port : Port) (e : Entry) (rest : List Entry) (k : Nat) :
    (s.frameSent port e rest).refsOf k = s.refsOf k - if e.slot = k then 1 else 0 := by
  rw [State.frameSent, State.refsOf_dropRef]
  congr 1
  exact congrFun (State.refsOf_eq_of_slots (s.setQueue_slots port _)) k

theorem State.frameSent_out (s : State) (port : Port) (e : Entry) (rest : List Entry) :
    (s.frameSent port e rest).ev.out = s.ev.out ++ [.frame port (sentBytes port e (s.slotFrame e.slot))] := by
  rw [State.frameSent, State.dropRef_out]
  rfl

theorem State.sentOn_out (s : State) (port : Port) (e : Entry) (rest : List Entry) : (s.sentOn port e rest).ev.out
    = s.ev.out ++ .frame port (sentBytes port e (s.slotFrame e.slot)) :: s.waitingOutputs port := by
  have htold := s.frameSent_told port e rest
  have hwait : (s.frameSent port e rest).waitingOutputs port = s.waitingOutputs port :=
    State.waitingOutputs_congr (by rw [State.frameSent_queue_self]) (htold.controlOpen port) htold.lamps.2.2.2
  have hout := (s.frameSent port e rest).releaseWaiting_out port
  rw [hwait, State.frameSent_out] at hout
  have hev : (s.sentOn port e rest).ev = ((s.frameSent port e rest).releaseWaiting port).ev := by simp [State.sentOn]
  rw [hev, hout, List.append_assoc]
  rfl

theorem State.sentOn_refsOf (s : State) (port : Port) (e : Entry) (rest : List Entry) (k : Nat) :
    (s.sentOn port e rest).refsOf k = s.refsOf k - if e.slot = k then 1 else 0 := by
  rw [State.sentOn, State.refsOf_eq_of_slots (State.beginTransmission_slots _ port),
    State.refsOf_eq_of_slots (State.releaseWaiting_slots _ port), State.frameSent_refsOf]

theorem State.sentOn_queue_self (s : State) (port : Port) (e : Entry) (rest : List Entry) :
    ((s.sentOn port e rest).queue port).entries = rest
    ∧ ((s.sentOn port e rest).queue port).counts = { (s.queue port).counts with sent := bump (s.queue port).counts.sent }
    ∧ ((s.sentOn port e rest).queue port).waiting = []
    ∧ ((s.sentOn port e rest).queue port).tx.isSome = (!rest.isEmpty && s.transmits port) := by
  have hqueue := (s.frameSent port e rest).releaseWaiting_queue_self port
  rw [State.frameSent_queue_self] at hqueue
  have htold := (s.frameSent_told port e rest).trans (State.Told.releaseWaiting _ port)
  obtain ⟨hentries, hcounts, hwaiting⟩ := ((s.frameSent port e rest).releaseWaiting port).beginTransmission_queue_self port
  refine ⟨hentries.trans (by rw [hqueue]), hcounts.trans (by rw [hqueue]), hwaiting.trans (by rw [hqueue]), ?_⟩
  have htx := State.beginTransmission_tx (s := (s.frameSent port e rest).releaseWaiting port) (port := port) (by rw [hqueue])
  rw [hqueue, htold.transmits port] at htx
  exact htx

theorem State.sentOn_queue_of_ne (s : State) {port other : Port} (e : Entry) (rest : List Entry) (h : other ≠ port) :
    (s.sentOn port e rest).queue other = s.queue other := by
  rw [State.sentOn, State.beginTransmission_queue_of_ne _ h, State.releaseWaiting_queue_of_ne _ h,
    State.frameSent_queue_of_ne _ _ _ h]

end Completion

end Sys2Proof.Machine

namespace Sys2Proof.Proofs

open Sys2Proof.Machine

/-- Settles O21: the completion is `frameSent`, then what waited, then the next frame; a discard is read off `discardQueue`. -/
theorem transmissionCompletes : Obligations.TransmissionCompletes := by
  refine ⟨fun s port e rest x hline htx he => ?_, fun s port hline htx => ?_, fun s port => ?_⟩
  · have hdone : s.beginEvent.completeTransmission port = (s.beginEvent.sentOn port e rest).markActive port :=
      State.completeTransmission_eq (s := s.beginEvent) htx he
    obtain ⟨hentries, hcounts, hwaiting, hnext⟩ := s.beginEvent.sentOn_queue_self port e rest
    have hqueue := State.queue_eq_of_fs ((s.beginEvent.sentOn port e rest).markActive_fs port)
    have hslots : ((s.beginEvent.sentOn port e rest).markActive port).fs.slots = (s.beginEvent.sentOn port e rest).fs.slots := by
      rw [State.markActive_fs]
    have htold := s.beginEvent.sentOn_told port e rest
    have hrefs : ∀ k, ((s.beginEvent.sentOn port e rest).markActive port).refsOf k = s.refsOf k - if e.slot = k then 1 else 0 :=
      fun k => by rw [State.refsOf_eq_of_slots hslots, State.sentOn_refsOf]; rfl
    refine ⟨_, reaches_event rfl hline hdone, by rw [hqueue, hentries], by rw [hqueue, hcounts]; rfl, by rw [hqueue, hwaiting],
      ?_, by rw [hrefs, if_pos rfl], fun j hj => by rw [hrefs, if_neg (Ne.symm hj)]; rfl, by rw [hqueue, hnext]; rfl,
      fun q hq => by rw [hqueue, State.sentOn_queue_of_ne _ _ _ hq]; rfl, fun p hp => ?_, fun p hp => ?_, ?_⟩
    · rw [State.markActive_ev, State.sentOn_out]
      rfl
    · subst hp
      simp [State.markActive]
    · rw [State.markActive_seat_of_ne _ hp, htold.seats p hp]
      rfl
    · rw [← hdone]
      simp [State.onlyChanges_iff]
  · exact reaches_same rfl hline (State.completeTransmission_idle htx)
  · exact ⟨s.discardQueue_queue_self port, fun p hp => s.discardQueue_queue_of_ne hp, s.discardQueue_out port⟩

end Sys2Proof.Proofs
end

section
/-! SUPPORT. How a request reaches its owner (R42, R44, R188, R190, R191): its frame takes a slot, is carried to the engine, and is noted
there; the request is then carried out on a part that stands, but for those effects, as it stood before. -/

namespace Sys2Proof.Machine

/-! ### The low-water mark -/

theorem State.lowWater_me (s : State) (free : Nat) :
    (s.lowWater free).me = s.me ∨ (s.lowWater free).me = (s.raise .storeLow).me := by
  unfold State.lowWater
  split
  · exact Or.inr rfl
  · exact Or.inl rfl

/-- A claim that leaves more than 128 slots free, and any claim while the mark is SPENT, raises nothing (R33). -/
theorem State.lowWater_eq_self {s : State} {free : Nat} (h : s.fs.mark = .spent ∨ 128 < free) : s.lowWater free = s := by
  unfold State.lowWater
  rw [if_neg]
  rintro ⟨harmed, hle⟩
  rcases h with h | h
  · rw [harmed] at h; cases h
  · omega

theorem State.lowWater_fs (s : State) (free : Nat) : (s.lowWater free).fs.slots = s.fs.slots
    ∧ (s.lowWater free).queue = s.queue ∧ (s.lowWater free).fs.counts = s.fs.counts := by
  unfold State.lowWater
  split
  · exact ⟨rfl, by funext port; rcases port with p | c | (_ | _) <;> rfl, rfl⟩
  · exact ⟨rfl, rfl, rfl⟩

/-! ### What an entry that is raised at keeps -/

theorem Station.enter_kept (st : Station) (c : Cause) (level threshold : Nat) :
    (st.enter c level threshold).kept = st.kept := by
  unfold Station.enter
  split <;> rfl

theorem Station.enter_side (st : Station) (c : Cause) (level threshold : Nat) :
    (st.enter c level threshold).side = st.side := by
  unfold Station.enter
  split <;> rfl

theorem Station.enter_roles (st : Station) (c : Cause) (level threshold : Nat) :
    (st.enter c level threshold).roles = st.roles := by
  unfold Station.enter
  split <;> rfl

theorem Station.enter_addr (st : Station) (c : Cause) (level threshold : Nat) :
    (st.enter c level threshold).addr = st.addr := by
  unfold Station.enter
  split <;> rfl

theorem mem_allCauses (c : Cause) : c ∈ allCauses := by cases c <;> decide

theorem mem_addCause {c d : Cause} {set : List Cause} : d ∈ addCause c set ↔ d = c ∨ d ∈ set := by
  simp [addCause, mem_allCauses]

/-- A pending set only grows when a cause enters it (R201). -/
theorem Station.enter_pending {st : Station} {d : Cause} (h : d ∈ st.pending) (c : Cause) (level threshold : Nat) :
    d ∈ (st.enter c level threshold).pending := by
  unfold Station.enter
  split
  · exact h
  · exact mem_addCause.2 (Or.inr h)

/-! ### A request noted -/

/-- A request counted, and the side of its station's entry updated (R190). -/
def Engine.noted (m : Engine) (x : Addr) (side : Side) : Engine :=
  { m with
    counts := { m.counts with requests := bump m.counts.requests }
    stations := m.stations.map fun st => if st.addr = x then { st with side := side } else st }

/-- The engine once a frame has claimed a slot. -/
def State.engineAfterClaim (s : State) : Engine := (s.beginEvent.lowWater (s.freeSlots - 1)).me

/-- What a frame that is handed to the engine leaves of the part: it holds a slot, it may be in transit to the other port, and its claim
may have raised STORE_LOW. `whole` says that the frame is for the part alone, `engine` how the engine stands. -/
structure State.Carried (s : State) (side : Side) (whole : Prop) (engine : Engine) (w : State) : Prop where
  pending : w.pending = s.pending
  resetLine : w.resetLine = s.resetLine
  memory : w.memory = s.memory
  ct : w.ct = s.ct
  mc : w.mc = s.mc
  sau : w.sau = s.sau
  el : w.el = s.el
  spb : w.spb = s.spb
  clb : w.clb = s.clb
  cu : w.cu = s.cu
  sl : w.sl = s.sl
  me : w.me = engine
  responses : w.ev.responses = []
  relamp : w.ev.relamp = []
  out : w.ev.out = []
  counts : w.fs.counts = s.fs.counts
  mark : s.fs.mark = .spent ∨ 129 < s.freeSlots → w.fs.mark = s.fs.mark
  queues : ∀ port, port ≠ .backbone (otherSide side) → w.queue port = s.queue port
  transit : ∃ es : List Entry, es.length ≤ 1 ∧ (whole → es = [])
    ∧ (w.queue (.backbone (otherSide side))).entries = (s.queue (.backbone (otherSide side))).entries ++ es
  whole : whole → w.queue = s.queue
  slots : Inv s → ∃ k, s.fs.slots.get k = none ∧ w.fs.slots.get k ≠ none ∧ ∀ j, j ≠ k → w.fs.slots.get j = s.fs.slots.get j

/-! ### Appending -/

theorem State.append_none {s : State} {port : Port} {e : Entry} {looped : Bool} (h : s.appendTest port looped = none) :
    s.append port e looped
      = ((((s.onQueue port fun q => { q with entries := q.entries ++ [e] }).beginTransmission port).addRef e.slot), true) := by
  simp [State.append, State.offer, h]

theorem State.append_some {s : State} {port : Port} {e : Entry} {looped : Bool} {why : Refused}
    (h : s.appendTest port looped = some why) : s.append port e looped = (s.countPort port fun c => why.count c, false) := by
  simp [State.append, State.offer, h]

theorem State.append_queue_of_ne (s : State) {port other : Port} (e : Entry) (looped : Bool) (h : other ≠ port) :
    (s.append port e looped).1.queue other = s.queue other := by
  cases ht : s.appendTest port looped with
  | none =>
    rw [State.append_none ht]
    dsimp only
    rw [State.addRef_queue, State.beginTransmission_queue_of_ne _ h, State.onQueue, State.queue_setQueue_of_ne _ _ h]
  | some why =>
    rw [State.append_some ht]
    exact s.queue_setQueue_of_ne _ h

theorem State.append_entries (s : State) (port : Port) (e : Entry) (looped : Bool) :
    ((s.append port e looped).1.queue port).entries
      = (s.queue port).entries ++ if s.appendTest port looped = none then [e] else [] := by
  cases ht : s.appendTest port looped with
  | none =>
    rw [State.append_none ht]
    dsimp only
    rw [State.addRef_queue, (State.beginTransmission_queue_self _ port).1, State.onQueue, State.queue_setQueue_self]
    simp
  | some why =>
    rw [State.append_some ht]
    simp [State.countPort, State.onQueue]

theorem State.append_counts (s : State) (port : Port) (e : Entry) (looped : Bool) :
    ((s.append port e looped).1.queue port).counts = match s.appendTest port looped with
      | none => (s.queue port).counts
      | some why => why.count (s.queue port).counts := by
  cases ht : s.appendTest port looped with
  | none =>
    rw [State.append_none ht]
    dsimp only
    rw [State.addRef_queue, (State.beginTransmission_queue_self _ port).2.1, State.onQueue, State.queue_setQueue_self]
  | some why =>
    rw [State.append_some ht]
    simp [State.countPort, State.onQueue]

theorem State.append_slots (s : State) (port : Port) (e : Entry) (looped : Bool) : (s.append port e looped).1.fs.slots
    = if s.appendTest port looped = none then s.fs.slots.modify e.slot fun x => { x with refs := x.refs + 1 } else s.fs.slots := by
  cases ht : s.appendTest port looped with
  | none =>
    rw [State.append_none ht]
    have hslots : ((s.onQueue port fun q => { q with entries := q.entries ++ [e] }).beginTransmission port).fs.slots = s.fs.slots :=
      (State.beginTransmission_slots _ port).trans (s.setQueue_slots port _)
    simp only [State.addRef, State.onFs, hslots, if_true]
  | some why =>
    rw [State.append_some ht]
    simp [State.countPort, State.onQueue]

theorem State.append_fs (s : State) (port : Port) (e : Entry) (looped : Bool) :
    (s.append port e looped).1.fs.mark = s.fs.mark ∧ (s.append port e looped).1.fs.counts = s.fs.counts := by
  cases ht : s.appendTest port looped with
  | none =>
    rw [State.append_none ht]
    have hmark := State.beginTransmission_mark (s.onQueue port fun q => { q with entries := q.entries ++ [e] }) port
    have hcounts := State.beginTransmission_fsCounts (s.onQueue port fun q => { q with entries := q.entries ++ [e] }) port
    exact ⟨hmark.trans (s.setQueue_mark port _), hcounts.trans (s.setQueue_fsCounts port _)⟩
  | some why =>
    rw [State.append_some ht]
    exact ⟨s.setQueue_mark port _, s.setQueue_fsCounts port _⟩

/-! ### A frame that claims a slot -/

/-- The part once a frame has claimed slot `k`. -/
def State.claimed (s : State) (x : Slot) (k : Nat) : State :=
  (s.lowWater (s.freeSlots - 1)).onFs fun b => { b with slots := b.slots.put k x }

/-- A claim that the reserve allows (R31). -/
theorem State.claim_of_lt {s : State} {reserve : Nat} (h : reserve < s.freeSlots) (origin : Origin) (reset : Bool)
    (frame : State → Bytes) : s.claim reserve origin reset frame
      = some (s.fs.slots.firstFree 0, s.claimed
          { frame := frame (s.lowWater (s.freeSlots - 1)), origin := origin, refs := 0, resetResponse := reset }
          (s.fs.slots.firstFree 0)) := by
  rw [State.claim, if_neg (by omega)]
  rfl

theorem State.claim_of_le {s : State} {reserve : Nat} (h : s.freeSlots ≤ reserve) (origin : Origin) (reset : Bool)
    (frame : State → Bytes) : s.claim reserve origin reset frame = none := by
  rw [State.claim, if_pos h]

section Claimed

variable (s : State) (x : Slot) (k : Nat)

theorem State.claimed_slots : (s.claimed x k).fs.slots = s.fs.slots.put k x :=
  congrArg (fun t : Table Slot => t.put k x) (s.lowWater_fs _).1

theorem State.claimed_queue : (s.claimed x k).queue = s.queue := by
  rw [← (s.lowWater_fs (s.freeSlots - 1)).2.1]
  funext port
  rcases port with p | c | (_ | _) <;> rfl

theorem State.claimed_counts : (s.claimed x k).fs.counts = s.fs.counts := (s.lowWater_fs _).2.2

theorem State.claimed_mark (h : s.fs.mark = .spent ∨ 129 < s.freeSlots) : (s.claimed x k).fs.mark = s.fs.mark := by
  have hself : s.lowWater (s.freeSlots - 1) = s := State.lowWater_eq_self (h.imp id fun h => by omega)
  rw [State.claimed, hself]
  rfl

theorem State.claimed_me : (s.claimed x k).me = (s.lowWater (s.freeSlots - 1)).me := rfl

@[simp] theorem State.claimed_keeps : (s.claimed x k).pending = s.pending ∧ (s.claimed x k).ev = s.ev ∧
    (s.claimed x k).free = s.free ∧ (s.claimed x k).resetLine = s.resetLine ∧ (s.claimed x k).memory = s.memory ∧
    (s.claimed x k).ct = s.ct ∧ (s.claimed x k).mc = s.mc ∧ (s.claimed x k).sau = s.sau ∧ (s.claimed x k).el = s.el ∧
    (s.claimed x k).spb = s.spb ∧ (s.claimed x k).clb = s.clb ∧ (s.claimed x k).cu = s.cu ∧ (s.claimed x k).sl = s.sl := by
  simp [State.claimed]

end Claimed

/-! ### A frame carried to the engine -/

section Carried

variable {s : State} {side : Side}

/-- The part as a frame from a backbone port finds it, once its slot is claimed and it is in hand. -/
def State.inHandOf (s : State) (f : Inbound) : State :=
  (s.beginEvent.claimed { frame := f.frame, origin := .backbone f.side, refs := 0, resetResponse := false }
    (s.fs.slots.firstFree 0)).onEv fun e => { e with inHand := some (s.fs.slots.firstFree 0) }

theorem State.acceptFrame_eq (h : 16 < s.freeSlots) (f : Inbound) :
    s.beginEvent.acceptFrame f = (s.inHandOf f).forward f (s.fs.slots.firstFree 0) := by
  unfold State.acceptFrame
  rw [State.claim_of_lt (s := s.beginEvent) (reserve := backboneReserve) h]
  rfl

theorem State.inHandOf_queue (s : State) (f : Inbound) : (s.inHandOf f).queue = s.queue :=
  State.claimed_queue s.beginEvent _ _

theorem State.inHandOf_slots (s : State) (f : Inbound) : (s.inHandOf f).fs.slots = s.fs.slots.put (s.fs.slots.firstFree 0)
    { frame := f.frame, origin := .backbone f.side, refs := 0, resetResponse := false } :=
  State.claimed_slots s.beginEvent _ _

theorem State.inHandOf_carried (s : State) (f : Inbound) (whole : Prop) :
    s.Carried f.side whole s.engineAfterClaim (s.inHandOf f) where
  pending := by simp [State.inHandOf]
  resetLine := by simp [State.inHandOf]
  memory := by simp [State.inHandOf]
  ct := by simp [State.inHandOf]
  mc := by simp [State.inHandOf]
  sau := by simp [State.inHandOf]
  el := by simp [State.inHandOf]
  spb := by simp [State.inHandOf]
  clb := by simp [State.inHandOf]
  cu := by simp [State.inHandOf]
  sl := by simp [State.inHandOf]
  me := rfl
  responses := by simp [State.inHandOf]
  relamp := by simp [State.inHandOf, State.beginEvent]
  out := by simp [State.inHandOf]
  counts := State.claimed_counts s.beginEvent _ _
  mark := State.claimed_mark s.beginEvent _ _
  queues port _ := by rw [State.inHandOf_queue]
  transit := ⟨[], by simp, fun _ => rfl, by rw [State.inHandOf_queue]; simp⟩
  whole _ := s.inHandOf_queue f
  slots hinv := ⟨s.fs.slots.firstFree 0, Table.get_firstFree hinv.slots.1 0, by
    rw [State.inHandOf_slots, Table.get_put_self]; exact Option.some_ne_none _, fun j hj => by
    rw [State.inHandOf_slots, Table.get_put_of_ne _ _ _ _ hj]⟩

theorem State.Carried.append {w : State} {m : Engine} (hw : s.Carried side True m w) {k : Nat} (hk : Inv s → s.fs.slots.get k = none
    ∧ w.fs.slots.get k ≠ none ∧ ∀ j, j ≠ k → w.fs.slots.get j = s.fs.slots.get j) :
    s.Carried side False m (w.append (.backbone (otherSide side)) { slot := k } false).1 where
  pending := by simpa using hw.pending
  resetLine := by simpa using hw.resetLine
  memory := by simpa using hw.memory
  ct := by simpa using hw.ct
  mc := by simpa using hw.mc
  sau := by simpa using hw.sau
  el := by simpa using hw.el
  spb := by simpa using hw.spb
  clb := by simpa using hw.clb
  cu := by simpa using hw.cu
  sl := by simpa using hw.sl
  me := by simpa using hw.me
  responses := by simpa using hw.responses
  relamp := by simpa using hw.relamp
  out := by simpa using hw.out
  counts := (State.append_fs _ _ _ _).2.trans hw.counts
  mark h := (State.append_fs _ _ _ _).1.trans (hw.mark h)
  queues port hport := by rw [State.append_queue_of_ne _ _ _ hport, hw.whole trivial]
  transit := ⟨if w.appendTest (.backbone (otherSide side)) false = none then [{ slot := k }] else [], by split <;> simp,
    False.elim, by rw [State.append_entries, hw.whole trivial]⟩
  whole := False.elim
  slots hinv := by
    obtain ⟨hfree, hin, hothers⟩ := hk hinv
    refine ⟨k, hfree, w.append_slot_in_use _ _ _ hin, fun j hj => ?_⟩
    rw [State.append_slots]
    split
    · rw [Table.get_modify, if_neg hj, hothers j hj]
    · exact hothers j hj

/-- A frame in hand that is sent on to the other port too. -/
theorem State.transit_carried (s : State) (f : Inbound) :
    s.Carried f.side False s.engineAfterClaim ((s.inHandOf f).transit f.side (s.fs.slots.firstFree 0)) := by
  unfold State.transit
  split
  · refine (s.inHandOf_carried f True).append fun hinv => ⟨Table.get_firstFree hinv.slots.1 0, ?_, fun j hj => ?_⟩
    · rw [State.inHandOf_slots, Table.get_put_self]; exact Option.some_ne_none _
    · rw [State.inHandOf_slots, Table.get_put_of_ne _ _ _ _ hj]
  · exact s.inHandOf_carried f False

theorem State.engineAfterClaim_addressing (s : State) : s.engineAfterClaim.addressing = s.me.addressing := by
  rcases s.beginEvent.lowWater_me (s.freeSlots - 1) with h | h <;> rw [State.engineAfterClaim, h] <;> rfl

/-- A frame of the management type that is addressed to the part goes to the engine (R43, R44). -/
theorem State.acceptFrame_handsOver {f : Inbound} {m : Option Message} (hfree : 16 < s.freeSlots)
    (hm : f.management = some m)
    (hdst : f.dst = s.me.addressing.cabinet ∨ (f.dst = allCabinets ∧ s.me.addressing.allEnable = true)
      ∨ (f.dst = s.me.addressing.group ∧ s.me.addressing.groupEnable = true ∧ f.dst ≠ allCabinets)) :
    ∃ w, s.beginEvent.acceptFrame f = w.handToEngine m ∧ s.Carried f.side (f.dst = s.me.addressing.cabinet) s.engineAfterClaim w := by
  have haddr : (s.inHandOf f).me.addressing = s.me.addressing := s.engineAfterClaim_addressing
  rw [State.acceptFrame_eq hfree, State.forward, haddr]
  by_cases hcab : f.dst = s.me.addressing.cabinet
  · exact ⟨_, by simp [hcab, State.handOverIf, hm], s.inHandOf_carried f _⟩
  · have hcarried : s.Carried f.side (f.dst = s.me.addressing.cabinet) s.engineAfterClaim
        ((s.inHandOf f).transit f.side (s.fs.slots.firstFree 0)) :=
      { s.transit_carried f with
        transit := by
          obtain ⟨es, hlen, _, hes⟩ := (s.transit_carried f).transit
          exact ⟨es, hlen, fun h => absurd h hcab, hes⟩
        whole := fun h => absurd h hcab }
    rcases hdst with h | ⟨hall, henable⟩ | ⟨hgroup, henable, hne⟩
    · exact absurd h hcab
    · exact ⟨_, by rw [if_neg hcab, if_pos hall]; simp [State.handOverIf, hm, henable], hcarried⟩
    · exact ⟨_, by rw [if_neg hcab, if_neg hne, if_pos ⟨hgroup, henable⟩]; simp [State.handOverIf, hm], hcarried⟩

end Carried

/-! ### A request taken -/

/-- The part as the owner of a request finds it: the request's frame carried to the engine, and the request noted there. -/
def State.Taken (s : State) (h : ReqHeader) (t : State) : Prop :=
  s.Carried h.side (h.dest = .cabinet) (s.engineAfterClaim.noted h.station h.side) t

theorem State.Carried.note {s w : State} {side : Side} {whole : Prop} {m : Engine} (hw : s.Carried side whole m w) (x : Addr)
    (y : Side) : s.Carried side whole (m.noted x y) (w.onMe fun e => e.noted x y) :=
  { hw with me := congrArg (fun e : Engine => e.noted x y) hw.me }

theorem State.takeRequest_eq (s : State) (m : Message) : s.takeRequest m
    = let t := s.onMe fun e => e.noted m.details.station m.details.side
      match m.content with
      | .unknown => (t.countMe fun c => { c with unknown := bump c.unknown }).respond m.details .unknownRequest [] false
      | .badFormat => (t.countMe fun c => { c with badFormat := bump c.badFormat }).respond m.details .badFormat [] false
      | .request q => t.carryOut m.details q := rfl

theorem exec_request (h : ReqHeader) (q : Request) (s : State) :
    exec (requestInstr h q) s = .next (s.event fun t => t.requestArrival h q) := by
  cases q <;> rfl

theorem State.beginEvent_destAddress (s : State) (d : Dest) : s.beginEvent.destAddress d = s.destAddress d := by
  cases d <;> rfl

/-- An address that the part answers to is one that R43 hands to the engine. -/
theorem State.addressed_handed {s : State} {d : Dest} (h : s.addressed d) :
    s.destAddress d = s.me.addressing.cabinet ∨ (s.destAddress d = allCabinets ∧ s.me.addressing.allEnable = true)
      ∨ (s.destAddress d = s.me.addressing.group ∧ s.me.addressing.groupEnable = true ∧ s.destAddress d ≠ allCabinets) := by
  cases d with
  | cabinet => exact Or.inl rfl
  | allCabinets => exact Or.inr (Or.inl ⟨rfl, h⟩)
  | group =>
    obtain ⟨henable, hne⟩ := h
    exact Or.inr (Or.inr ⟨rfl, henable, hne⟩)

theorem State.answerable_congr {s t : State} (h : t.me.addressing = s.me.addressing) (x : Addr) :
    t.answerable x = s.answerable x := by
  simp only [State.answerable, h]

/-- A request that the part takes is carried out, after its frame has been carried to the engine and noted. -/
theorem served_of_takes {s : State} {h : ReqHeader} (hs : s.takes h) {q : Request} (hq : q.inFormat = true) :
    ∃ t, s.Taken h t ∧ ∀ u, t.carryOut (returnOf h q) q = u → served s h q u := by
  obtain ⟨hline, hcoupled, hfree, haddressed, hanswerable⟩ := hs
  obtain ⟨w, haccept, hw⟩ := State.acceptFrame_handsOver (s := s) (f := s.beginEvent.requestInbound h q) hfree rfl
    (by simpa [State.requestInbound, State.beginEvent_destAddress] using State.addressed_handed haddressed)
  have hcarried : s.Carried h.side (h.dest = .cabinet) s.engineAfterClaim w :=
    { hw with
      transit := by
        obtain ⟨es, hlen, hnil, hes⟩ := hw.transit
        exact ⟨es, hlen, fun hd => hnil (by rw [State.requestInbound, hd]; rfl), hes⟩
      whole := fun hd => hw.whole (by rw [State.requestInbound, hd]; rfl) }
  have harrival : s.beginEvent.requestArrival h q = w.handToEngine (some (requestMessage h q)) := by
    rw [State.requestArrival, State.onCoupledPort, if_pos (by exact hcoupled), haccept]
  have hanswers : w.answerable h.station = true :=
    (State.answerable_congr (s := s) (by rw [hw.me, State.engineAfterClaim_addressing]) _).trans hanswerable
  refine ⟨_, hcarried.note h.station h.side, fun u hu => reaches_event (exec_request h q s) hline ?_⟩
  rw [harrival]
  unfold State.handToEngine
  dsimp only
  rw [if_pos (by exact hanswers), State.takeRequest_eq]
  simp only [requestMessage, hq, if_true]
  exact hu

end Sys2Proof.Machine
end

section
/-! SUPPORT. What a request that has been taken leaves of the part, and how it is answered (R190, R191, R197). -/

namespace Sys2Proof.Machine

/-! ### The engine once a request is noted -/

/-- An entry whose side a request of station `x` may set. -/
theorem Station.sided_of_kept {e st : Station} (hkept : e.kept = st.kept) (hside : e.side = st.side)
    (hpending : ∀ c ∈ st.pending, c ∈ e.pending) (x : Addr) (side : Side) :
    (if e.addr = x then { e with side := side } else e).kept = st.kept
    ∧ (if e.addr = x then { e with side := side } else e).side = (if st.addr = x then side else st.side)
    ∧ ∀ c ∈ st.pending, c ∈ (if e.addr = x then { e with side := side } else e).pending := by
  have haddr : e.addr = st.addr := congrArg Prod.fst hkept
  rw [← haddr]
  split
  · exact ⟨hkept, rfl, hpending⟩
  · exact ⟨hkept, hside, hpending⟩

section Engine

variable (s : State) (x : Addr) (side : Side)

/-- The entries of the Station Table when a request has been noted: each keeps its own, its pending set grows at most, and that of the
request's station has the side of the request. -/
theorem State.noted_stations : ∃ g : Station → Station, (s.engineAfterClaim.noted x side).stations = s.me.stations.map g
    ∧ ∀ st, (g st).kept = st.kept ∧ (g st).side = (if st.addr = x then side else st.side) ∧ ∀ c ∈ st.pending, c ∈ (g st).pending := by
  rcases s.beginEvent.lowWater_me (s.freeSlots - 1) with h | h
  · refine ⟨fun st => if st.addr = x then { st with side := side } else st, ?_, fun st => ?_⟩
    · rw [State.engineAfterClaim, h]
      rfl
    · dsimp only
      split <;> exact ⟨rfl, rfl, fun _ hc => hc⟩
  · refine ⟨fun st =>
      let e := st.enter .storeLow s.beginEvent.ev.levels[Cause.storeLow.index] (thresholdFor s.beginEvent.ev.thresholds st)
      if e.addr = x then { e with side := side } else e, ?_, fun st => ?_⟩
    · rw [State.engineAfterClaim, h]
      simp only [Engine.noted, State.raise, State.onMe, State.beginEvent, List.map_map]
      rfl
    · exact Station.sided_of_kept (Station.enter_kept _ _ _ _) (Station.enter_side _ _ _ _)
        (fun c hc => Station.enter_pending hc _ _ _) x side

theorem State.noted_levels : (s.engineAfterClaim.noted x side).levels = s.me.levels := by
  rcases s.beginEvent.lowWater_me (s.freeSlots - 1) with h | h <;> rw [State.engineAfterClaim, h] <;> rfl

theorem State.noted_addressing : (s.engineAfterClaim.noted x side).addressing = s.me.addressing := s.engineAfterClaim_addressing

/-- The engine's counters when a request has been noted; those of the causes apart. -/
theorem State.noted_counts : (s.engineAfterClaim.noted x side).counts = { s.me.counts with
    requests := bump s.me.counts.requests, raised := (s.engineAfterClaim.noted x side).counts.raised } := by
  rcases s.beginEvent.lowWater_me (s.freeSlots - 1) with h | h <;> rw [State.engineAfterClaim, h] <;> rfl

theorem State.noted_raised {c : Cause} (hc : c ≠ .storeLow) :
    (s.engineAfterClaim.noted x side).counts.raised[c.index] = s.raised c := by
  rcases s.beginEvent.lowWater_me (s.freeSlots - 1) with h | h
  · rw [State.engineAfterClaim, h]; rfl
  · have hraised := s.beginEvent.raised_raise .storeLow c
    rw [if_neg hc] at hraised
    rw [State.engineAfterClaim, h]
    exact hraised

/-- While the mark is SPENT, or with more than 129 slots free, a request's claim raises nothing (R33). -/
theorem State.engineAfterClaim_eq {s : State} (h : s.fs.mark = .spent ∨ 129 < s.freeSlots) : s.engineAfterClaim = s.me := by
  rw [State.engineAfterClaim, State.lowWater_eq_self (s := s.beginEvent) (h.imp id fun h => by omega)]
  rfl

end Engine

/-! ### Stations found by address -/

theorem Station.kept_addr {st st' : Station} (h : st'.kept = st.kept) : st'.addr = st.addr := congrArg Prod.fst h
theorem Station.kept_roles {st st' : Station} (h : st'.kept = st.kept) : st'.roles = st.roles := congrArg (fun k => k.2.1) h

theorem find?_map_station {g : Station → Station} (hg : ∀ st, (g st).kept = st.kept) (x : Addr) (l : List Station) :
    (l.map g).find? (fun st => st.addr == x) = (l.find? fun st => st.addr == x).map g := by
  induction l with
  | nil => rfl
  | cons st rest ih =>
    rw [List.map_cons, List.find?_cons, List.find?_cons, Station.kept_addr (hg st)]
    split
    · rfl
    · exact ih

namespace State.Taken

variable {s t : State} {h : ReqHeader}

theorem stations (ht : s.Taken h t) : ∃ g : Station → Station, t.me.stations = s.me.stations.map g
    ∧ ∀ st, (g st).kept = st.kept ∧ (g st).side = (if st.addr = h.station then h.side else st.side)
      ∧ ∀ c ∈ st.pending, c ∈ (g st).pending := by
  obtain ⟨g, hmap, hg⟩ := s.noted_stations h.station h.side
  exact ⟨g, by rw [Carried.me ht, hmap], hg⟩

theorem stationAt (ht : s.Taken h t) (x : Addr) : ∃ g : Station → Station, t.stationAt x = (s.stationAt x).map g
    ∧ ∀ st, (g st).kept = st.kept ∧ (g st).side = (if st.addr = h.station then h.side else st.side)
      ∧ ∀ c ∈ st.pending, c ∈ (g st).pending := by
  obtain ⟨g, hmap, hg⟩ := ht.stations
  exact ⟨g, by rw [State.stationAt, hmap]; exact find?_map_station (fun st => (hg st).1) x _, hg⟩

theorem rolesHeld (ht : s.Taken h t) (x : Addr) : t.rolesHeld x = s.rolesHeld x := by
  obtain ⟨g, hat, hg⟩ := ht.stationAt x
  rw [State.rolesHeld, State.rolesHeld, hat]
  cases s.stationAt x with
  | none => rfl
  | some st => exact Station.kept_roles (hg st).1

theorem stationAt_isSome (ht : s.Taken h t) (x : Addr) : (t.stationAt x).isSome = (s.stationAt x).isSome := by
  obtain ⟨g, hat, _⟩ := ht.stationAt x
  rw [hat, Option.isSome_map]

theorem kept (ht : s.Taken h t) : t.me.stations.map Station.kept = s.me.stations.map Station.kept := by
  obtain ⟨g, hmap, hg⟩ := ht.stations
  rw [hmap, List.map_map]
  exact List.map_congr_left fun st _ => (hg st).1

theorem addressing (ht : s.Taken h t) : t.me.addressing = s.me.addressing := by
  rw [Carried.me ht, State.noted_addressing]

theorem levels (ht : s.Taken h t) : t.me.levels = s.me.levels := by rw [Carried.me ht, State.noted_levels]

theorem engineCounts (ht : s.Taken h t) :
    t.me.counts = { s.me.counts with requests := bump s.me.counts.requests, raised := t.me.counts.raised } := by
  rw [Carried.me ht, State.noted_counts]

theorem raised (ht : s.Taken h t) {c : Cause} (hc : c ≠ .storeLow) : t.raised c = s.raised c := by
  rw [State.raised, Carried.me ht, State.noted_raised _ _ _ hc]

theorem requestOnly (ht : s.Taken h t) (written : List Block) : s.requestOnly t h written := by
  refine ⟨State.onlyChanges_iff.2 ?_, ht.addressing, ht.levels, ht.kept, Carried.queues ht⟩
  exact ⟨fun _ => Carried.ct ht, fun _ => Carried.mc ht, fun _ => Carried.sau ht, fun _ => Carried.el ht,
    fun hfs => absurd (by simp) hfs, fun _ => Carried.spb ht, fun _ => Carried.clb ht, fun _ => Carried.cu ht,
    fun hme => absurd (by simp) hme, fun _ => Carried.sl ht, fun _ => Carried.memory ht, Carried.pending ht, Carried.resetLine ht⟩

end State.Taken

/-- Further effects of the owner, on blocks that `written` names: the queues, and what `requestOnly` says of the engine, stand. -/
theorem State.requestOnly.after {s t u : State} {h : ReqHeader} {written : List Block} (ht : s.requestOnly t h written)
    (hu : t.onlyChanges u written) (hq : u.queue = t.queue) (hm : u.me = t.me) : s.requestOnly u h written := by
  obtain ⟨hc, ha, hl, hk, hqueues⟩ := ht
  refine ⟨hc.trans (hu.mono fun b hb => ?_), by rw [hm, ha], by rw [hm, hl], by rw [hm, hk], fun port hport => by
    rw [hq, hqueues port hport]⟩
  simp [hb]

/-! ### The answer -/

theorem State.respond_keeps (s : State) (r : Return) (status : Status) (args : Bytes) (reset : Bool) (written : List Block) :
    s.onlyChanges (s.respond r status args reset) written := by
  simp [State.onlyChanges_iff, State.respond]

theorem State.requestOnly.respond {s u : State} {h : ReqHeader} {written : List Block} (hu : s.requestOnly u h written)
    (r : Return) (status : Status) (args : Bytes) (reset : Bool) : s.requestOnly (u.respond r status args reset) h written := hu

theorem State.requestOnly.countMe {s u : State} {h : ReqHeader} {written : List Block} (hu : s.requestOnly u h written)
    (f : MeCounters → MeCounters) : s.requestOnly (u.countMe f) h written := by
  obtain ⟨hc, ha, hl, hk, hqueues⟩ := hu
  exact ⟨hc.trans (by simp [State.onlyChanges_iff]), ha, hl, hk, hqueues⟩

/-- The only response is the request's own. -/
theorem State.respond_answers {u : State} (hu : u.ev.responses = []) (h : ReqHeader) (q : Request) (status : Status) (args : Bytes)
    (reset : Bool) (hreset : reset = decide (q = .cabinetReset ∧ status = .ok)) :
    (u.respond (returnOf h q) status args reset).answers h q status args := by
  rw [State.answers, State.respond, State.pushResponse]
  simp [hu, hreset, ownResponse, returnOf]

section CarryOut

variable {t u : State} {h : ReqHeader} {q : Request}

theorem State.carryOut_notHolder (hp : t.permits h.station q = false) : t.carryOut (returnOf h q) q
    = (t.countMe fun c => { c with notHolder := bump c.notHolder }).respond (returnOf h q) .notHolder [] false := by
  simp [State.carryOut, returnOf, hp]

theorem State.carryOut_waits (hp : t.permits h.station q = true) (hw : t.waitsForLoad q = true) :
    t.carryOut (returnOf h q) q = t.respond (returnOf h q) .busy [] false := by
  simp [State.carryOut, returnOf, hp, hw]

theorem State.carryOut_answered {status : Status} {args : Bytes} (hp : t.permits h.station q = true)
    (hw : t.waitsForLoad q = false) (ho : t.perform (returnOf h q) q = (u, some (status, args))) :
    t.carryOut (returnOf h q) q = u.respond (returnOf h q) status args (q == .cabinetReset) := by
  have hperm : t.permits (returnOf h q).station q = true := hp
  simp only [State.carryOut, hperm, hw, ho]
  simp

theorem State.carryOut_begun (hp : t.permits h.station q = true) (hw : t.waitsForLoad q = false)
    (ho : t.perform (returnOf h q) q = (u, none)) : t.carryOut (returnOf h q) q = u := by
  have hperm : t.permits (returnOf h q).station q = true := hp
  simp only [State.carryOut, hperm, hw, ho]
  simp

end CarryOut

/-- The role check reads the roles and entries that a request that is noted leaves as they were (R197). -/
theorem State.Taken.permits {s t : State} {h : ReqHeader} (ht : s.Taken h t) (x : Addr) (q : Request) :
    t.permits x q = s.permits x q := by
  unfold State.permits
  rw [ht.rolesHeld, ht.stationAt_isSome]

theorem State.Taken.waitsForLoad {s t : State} {h : ReqHeader} (ht : s.Taken h t) (q : Request) :
    t.waitsForLoad q = s.waitsForLoad q := by
  cases q <;> simp [State.waitsForLoad, Carried.sl ht]

section Served

variable {s : State} {h : ReqHeader} {q : Request}

/-- A request that its owner answers in the event: the owner's outcome on the part as the request finds it. -/
theorem served_answered (hs : s.takes h) (hq : q.inFormat = true) (hp : s.permits h.station q = true)
    (hw : s.waitsForLoad q = false) : ∃ t, s.Taken h t ∧ ∀ u status args, t.perform (returnOf h q) q = (u, some (status, args)) →
      u.ev.responses = [] → (q = .cabinetReset → status = .ok) →
      ∃ v, v = u.respond (returnOf h q) status args (q == .cabinetReset) ∧ served s h q v ∧ v.answers h q status args := by
  obtain ⟨t, ht, hserved⟩ := served_of_takes hs hq
  refine ⟨t, ht, fun u status args ho hu hreset => ⟨_, rfl, hserved _ ?_, State.respond_answers hu h q status args _ ?_⟩⟩
  · exact State.carryOut_answered ((ht.permits _ _).trans hp) ((ht.waitsForLoad _).trans hw) ho
  · by_cases hq' : q = .cabinetReset
    · simp [hq', hreset hq']
    · simp [hq']

/-- A request that its owner refuses changes nothing but what taking it changed (R198). -/
theorem served_refused (hs : s.takes h) (hq : q.inFormat = true) (hp : s.permits h.station q = true)
    (hw : s.waitsForLoad q = false) {status : Status}
    (ho : ∀ t, s.Taken h t → t.perform (returnOf h q) q = t.refuse status) (hreset : q ≠ .cabinetReset) :
    ∃ u, served s h q u ∧ u.answers h q status [] ∧ s.requestOnly u h [] := by
  obtain ⟨t, ht, hserved⟩ := served_answered hs hq hp hw
  obtain ⟨v, rfl, hv, hanswers⟩ := hserved t status [] (ho t ht) (State.Carried.responses ht) fun h => absurd h hreset
  exact ⟨_, hv, hanswers, (ht.requestOnly []).respond _ _ _ _⟩

/-- A request whose answer tells and changes nothing. -/
theorem served_told (hs : s.takes h) (hq : q.inFormat = true) (hp : s.permits h.station q = true)
    (hw : s.waitsForLoad q = false) {args : State → Bytes}
    (ho : ∀ t, s.Taken h t → t.perform (returnOf h q) q = t.accept (args t)) 
    (hargs : ∀ t r, args (t.pushResponse r) = args t) :
    ∃ u, served s h q u ∧ u.answers h q .ok (args u) ∧ s.requestOnly u h [] := by
  obtain ⟨t, ht, hserved⟩ := served_answered hs hq hp hw
  obtain ⟨v, rfl, hv, hanswers⟩ := hserved t .ok (args t) (ho t ht) (State.Carried.responses ht) fun _ => rfl
  refine ⟨_, hv, ?_, (ht.requestOnly []).respond _ _ _ _⟩
  rw [State.respond, hargs]
  exact hanswers

/-- A long request that begins is answered at a later event (R199). -/
theorem served_begun (hs : s.takes h) (hq : q.inFormat = true) (hp : s.permits h.station q = true)
    (hw : s.waitsForLoad q = false) : ∃ t, s.Taken h t ∧ ∀ u, t.perform (returnOf h q) q = (u, none) → served s h q u := by
  obtain ⟨t, ht, hserved⟩ := served_of_takes hs hq
  exact ⟨t, ht, fun u ho => hserved u
    (State.carryOut_begun ((ht.permits _ _).trans hp) ((ht.waitsForLoad _).trans hw) ho)⟩

end Served

end Sys2Proof.Machine
end

section
/-! SUPPORT and PROOFS. The fields of the settings requests, and the carriage settings (O53). -/

namespace Sys2Proof.Machine

/-! ### Fields within their values -/

theorem within_eq_some {lo hi n : Nat} (h : lo ≤ n) (h' : n ≤ hi) : within lo hi n = some n := if_pos ⟨h, h'⟩

theorem within_eq_none {lo hi n : Nat} (h : n < lo ∨ hi < n) : within lo hi n = none := if_neg (by omega)

/-- A level byte and what it gives. -/
theorem levelOf_eq_some {b : Byte} (h : b.toNat ≤ 7) : levelOf b = some b.toNat := if_pos h

theorem levelOf_eq_none {b : Byte} (h : 7 < b.toNat) : levelOf b = none := if_neg (by omega)

theorem causeOf_eq_none {b : Byte} (h : b = 0 ∨ 11 < b.toNat) : causeOf b = none := by
  unfold causeOf
  split
  · rfl
  · rcases h with rfl | h
    · exact absurd rfl ‹_›
    · rw [List.getElem?_eq_none (by simp [allCauses]; omega)]

theorem allCauses_nodup : allCauses.Nodup := by decide

/-- No two cause codes name one cause. -/
theorem causeOf_injective {a b : Byte} {c : Cause} (ha : causeOf a = some c) (hb : causeOf b = some c) : a = b := by
  unfold causeOf at ha hb
  split at ha
  · cases ha
  · next hna =>
    split at hb
    · cases hb
    · next hnb =>
      obtain ⟨hla, ha⟩ := List.getElem?_eq_some_iff.1 ha
      obtain ⟨hlb, hb⟩ := List.getElem?_eq_some_iff.1 hb
      have hidx := (List.Nodup.getElem_inj_iff allCauses_nodup).1 (ha.trans hb.symm)
      have hza : a.toNat ≠ 0 := fun h => hna (BitVec.eq_of_toNat_eq h)
      have hzb : b.toNat ≠ 0 := fun h => hnb (BitVec.eq_of_toNat_eq h)
      exact BitVec.eq_of_toNat_eq (by omega)

theorem seatOf_injective {a b : Byte} {p : SeatNo} (ha : seatOf a = some p) (hb : seatOf b = some p) : a = b := by
  unfold seatOf at ha hb
  split at ha
  · split at hb
    · have hab := (Option.some.inj ha).trans (Option.some.inj hb).symm
      exact BitVec.eq_of_toNat_eq (Fin.mk.inj hab)
    · cases hb
  · cases ha

theorem boolOf_eq_none {b : Byte} (h : 1 < b.toNat) : boolOf b = none := by
  unfold boolOf
  rw [if_neg (fun e => by rw [e] at h; exact absurd h (by decide)), if_neg (fun e => by rw [e] at h; exact absurd h (by decide))]

theorem boolOf_eq_some {b : Byte} (h : b.toNat ≤ 1) : boolOf b = some (b == 1) := by
  have hb : b = 0 ∨ b = 1 := by
    rcases Nat.le_one_iff_eq_zero_or_eq_one.1 h with h | h
    · exact Or.inl (BitVec.eq_of_toNat_eq h)
    · exact Or.inr (BitVec.eq_of_toNat_eq h)
  rcases hb with rfl | rfl <;> rfl

/-- Addressing settings outside their values (R189). -/
theorem addressingOf_eq_none {x g : Addr} {a b : Byte} (h : isMulticast x = true ∨ x = 0 ∨ x = allCabinets ∨ isMulticast g = false
    ∨ g = broadcast ∨ g = allCabinets ∨ 1 < a.toNat ∨ 1 < b.toNat) : addressingOf x a g b = none := by
  unfold addressingOf
  split
  · next ha hb =>
    refine if_pos ?_
    rcases h with h | h | h | h | h | h | h | h
    · simp [h]
    · simp [h]
    · simp [h]
    · simp [h]
    · simp [h]
    · simp [h]
    · rw [boolOf_eq_none h] at ha; cases ha
    · rw [boolOf_eq_none h] at hb; cases hb
  · rfl

theorem State.isNeighbour_eq_of_cu {s t : State} (h : t.cu = s.cu) (v : Nat) : t.isNeighbour v = s.isNeighbour v := by
  unfold State.isNeighbour
  rw [State.side_eq_of_cu h]

/-! ### Lists of fields -/

/-- A list read element by element. -/
theorem readAll_eq_some_iff {α β : Type} {f : α → Option β} {l : List α} {bs : List β} :
    readAll f l = some bs ↔ l.map f = bs.map some := by
  induction l generalizing bs with
  | nil => cases bs <;> simp [readAll]
  | cons a rest ih =>
    unfold readAll
    cases hf : f a with
    | none => cases bs <;> simp [hf]
    | some b =>
      cases hr : readAll f rest with
      | none =>
        cases bs with
        | nil => simp
        | cons c cs =>
          have hne : ¬ rest.map f = cs.map some := fun h => by rw [ih.2 h] at hr; cases hr
          simp [hne]
      | some cs' =>
        have hcs := ih.1 hr
        cases bs with
        | nil => simp
        | cons c cs => simp [hf, hcs, (Option.some_injective β).list_map.eq_iff]

theorem readAll_eq_none {α β : Type} {f : α → Option β} {l : List α} {a : α} (ha : a ∈ l) (hf : f a = none) :
    readAll f l = none := by
  cases hr : readAll f l with
  | none => rfl
  | some bs =>
    have hmem : f a ∈ bs.map some := readAll_eq_some_iff.1 hr ▸ List.mem_map_of_mem ha
    rw [hf] at hmem
    simp at hmem

/-- Keys that are read one to one are distinct exactly when what they name is. -/
theorem nodup_read_iff {α β : Type} {g : α → Option β} (hg : ∀ a a' b, g a = some b → g a' = some b → a = a') {as : List α}
    {bs : List β} (h : as.map g = bs.map some) : as.Nodup ↔ bs.Nodup := by
  induction as generalizing bs with
  | nil => cases bs <;> simp_all
  | cons a rest ih =>
    cases bs with
    | nil => simp at h
    | cons b bs =>
      obtain ⟨hab, hrest⟩ := List.cons.inj h
      have hmem : a ∈ rest ↔ b ∈ bs := by
        constructor
        · intro ha
          have hb : g a ∈ bs.map some := hrest ▸ List.mem_map_of_mem ha
          rw [hab] at hb
          simpa using hb
        · intro hb
          have ha : some b ∈ rest.map g := hrest ▸ List.mem_map_of_mem hb
          obtain ⟨a', ha', hga⟩ := List.mem_map.1 ha
          exact hg a a' b hab hga ▸ ha'
      rw [List.nodup_cons, List.nodup_cons, ih hrest, hmem]

/-- A cause and level pair read. -/
def levelPair (e : Byte × Byte) : Option (Cause × Nat) :=
  match causeOf e.1, levelOf e.2 with
  | some c, some l => some (c, l)
  | _, _ => none

theorem levelsOf_eq (pairs : List (Byte × Byte)) : levelsOf pairs = readAll levelPair pairs := by
  induction pairs with
  | nil => rfl
  | cons e rest ih =>
    obtain ⟨c, l⟩ := e
    simp only [levelsOf, readAll, levelPair, ← ih]
    cases causeOf c <;> cases levelOf l <;> cases levelsOf rest <;> rfl

theorem levelPair_fst {e : Byte × Byte} {c : Cause × Nat} (h : levelPair e = some c) : causeOf e.1 = some c.1 := by
  unfold levelPair at h
  split at h
  · next hc _ => rw [hc, ← Option.some.inj h]
  · cases h

/-- A list of levels names a cause twice exactly when its codes do. -/
theorem levelsOf_nodup {pairs : List (Byte × Byte)} {ls : List (Cause × Nat)} (h : levelsOf pairs = some ls) :
    (pairs.map Prod.fst).Nodup ↔ (ls.map Prod.fst).Nodup := by
  refine nodup_read_iff (g := causeOf) (fun a a' b => causeOf_injective) ?_
  rw [levelsOf_eq, readAll_eq_some_iff] at h
  induction pairs generalizing ls with
  | nil => cases ls <;> simp_all
  | cons e rest ih =>
    cases ls with
    | nil => simp at h
    | cons c cs =>
      obtain ⟨hc, hrest⟩ := List.cons.inj h
      simp only [List.map_cons, levelPair_fst hc]
      exact congrArg _ (ih hrest)

theorem levelsOf_eq_none {pairs : List (Byte × Byte)} {e : Byte × Byte} (he : e ∈ pairs)
    (hbad : e.1 = 0 ∨ 11 < e.1.toNat ∨ 7 < e.2.toNat) : levelsOf pairs = none := by
  rw [levelsOf_eq]
  refine readAll_eq_none he ?_
  unfold levelPair
  rcases hbad with h | h | h
  · rw [causeOf_eq_none (Or.inl h)]
  · rw [causeOf_eq_none (Or.inr h)]
  · rw [levelOf_eq_none h]
    split
    · next h => cases h
    · rfl

/-- The levels after a list of distinct causes has been set. -/
theorem levels_set (ls : List (Cause × Nat)) (hls : (ls.map Prod.fst).Nodup) (v : Vector Nat 11) (c : Cause) :
    (ls.foldl (fun v e => v.set e.1.index e.2) v)[c.index] = ((ls.find? fun e => e.1 == c).map Prod.snd).getD v[c.index] := by
  induction ls generalizing v with
  | nil => rfl
  | cons e rest ih =>
    obtain ⟨hnot, hrest⟩ := List.nodup_cons.1 (by rwa [List.map_cons] at hls)
    rw [List.foldl_cons, ih hrest]
    by_cases he : e.1 = c
    · have hnone : rest.find? (fun e => e.1 == c) = none := by
        refine List.find?_eq_none.2 fun d hd hdc => hnot ?_
        rw [he, ← (beq_iff_eq.1 hdc : d.1 = c)]
        exact List.mem_map_of_mem hd
      rw [hnone, List.find?_cons_of_pos (by simp [he])]
      simp [he]
    · have hne : ¬ e.1.index.val = c.index.val := fun h => he (Cause.index_injective (Fin.ext h))
      rw [List.find?_cons_of_neg (by simp [he])]
      simp [hne]

end Sys2Proof.Machine

namespace Sys2Proof.Proofs

open Sys2Proof.Machine

/-- Settles O53: each request is carried out by its owner once its fields are read. -/
theorem carriageSettings : Obligations.CarriageSettings := by
  intro s h hs hcab
  refine ⟨fun pairs ls hls hlen hne hnodup => ?_, fun pairs hbad hlen => ?_, fun r l d hr hr' hl hl' hd hd' => ?_,
    fun r l d hbad => ?_, fun x a g b hx hx0 hg hgb hga ha hb => ?_, fun x a g b hbad => ?_, fun v hv hv' hnew => ?_,
    fun v hbad => ?_, fun v hv hv' hold => ?_⟩
  · obtain ⟨t, ht, hserved⟩ := served_answered hs (q := .setLevels pairs) (decide_eq_true hlen) hcab rfl
    have hperform : t.perform (returnOf h (.setLevels pairs)) (.setLevels pairs)
        = (t.onMe fun m => { m with levels := ls.foldl (fun v e => v.set e.1.index e.2) m.levels }).accept [] := by
      simp [State.perform, State.doSetLevels, hls, hne, hnodup]
    obtain ⟨u, rfl, hu, hanswers⟩ := hserved _ _ _ hperform ht.responses nofun
    refine ⟨_, hu, hanswers, fun c => ?_, ht.addressing, ht.kept, (ht.requestOnly []).1.trans ?_⟩
    · rw [← ht.levels]
      exact levels_set ls hnodup _ c
    · simp [State.onlyChanges_iff, State.respond]
  · refine served_refused hs (q := .setLevels pairs) (decide_eq_true hlen) hcab rfl (fun t _ => ?_) nofun
    simp only [State.perform, State.doSetLevels]
    cases hls : levelsOf pairs with
    | none => rfl
    | some ls =>
      have hrefuse : (ls.isEmpty || !decide (ls.map Prod.fst).Nodup) = true := by
        rcases hbad with rfl | ⟨e, he, hbad⟩ | hdup
        · obtain rfl : [] = ls := Option.some.inj hls
          rfl
        · rw [levelsOf_eq_none he hbad] at hls
          cases hls
        · rw [levelsOf_nodup hls] at hdup
          simp [hdup]
      exact if_pos hrefuse
  · obtain ⟨t, ht, hserved⟩ := served_answered hs (q := .setTiming r l d) rfl hcab rfl
    have hperform : t.perform (returnOf h (.setTiming r l d)) (.setTiming r l d)
        = (((t.onMc fun b => { b with releaseTimeout := r.toNat }).onCt fun b => { b with lingerTime := l.toNat }).onClb
            fun b => { b with deferWindow := d.toNat }).accept [] := by
      simp [State.perform, State.doSetTiming, timingOf, within_eq_some hr hr', within_eq_some hl hl', within_eq_some hd hd']
    obtain ⟨u, rfl, hu, hanswers⟩ := hserved _ _ _ hperform ht.responses nofun
    refine ⟨_, hu, hanswers, ?_, ?_, ?_, ((ht.requestOnly _).after ?_ (by rfl) (by rfl)).respond _ _ _ _⟩
    · rw [← ht.mc]; rfl
    · rw [← ht.ct]; rfl
    · rw [← ht.clb]; rfl
    · simp [State.onlyChanges_iff]
  · refine served_refused hs (q := .setTiming r l d) rfl hcab rfl (fun t _ => ?_) nofun
    have hnone : timingOf r l d = none := by
      unfold timingOf
      split
      · next hr hl hd =>
        exfalso
        rcases hbad with h | h | h | h | h | h
        · rw [within_eq_none (Or.inl h)] at hr; cases hr
        · rw [within_eq_none (Or.inr h)] at hr; cases hr
        · rw [within_eq_none (Or.inl h)] at hl; cases hl
        · rw [within_eq_none (Or.inr h)] at hl; cases hl
        · rw [within_eq_none (Or.inl h)] at hd; cases hd
        · rw [within_eq_none (Or.inr h)] at hd; cases hd
      · rfl
    simp [State.perform, State.doSetTiming, hnone]
  · obtain ⟨t, ht, hserved⟩ := served_answered hs (q := .setAddressing x a g b) rfl hcab rfl
    have hxall : x ≠ allCabinets := fun h => by rw [h] at hx; exact absurd hx (by decide)
    have hread : addressingOf x a g b = some { cabinet := x, allEnable := a == 1, group := g, groupEnable := b == 1 } := by
      have hgood : (isMulticast x || x == 0 || x == allCabinets || !isMulticast g || g == broadcast || g == allCabinets) = false := by
        rw [hx, beq_false_of_ne hx0, beq_false_of_ne hxall, hg, beq_false_of_ne hgb, beq_false_of_ne hga]
        rfl
      simp only [addressingOf, boolOf_eq_some ha, boolOf_eq_some hb, hgood]
      rfl
    have hperform : t.perform (returnOf h (.setAddressing x a g b)) (.setAddressing x a g b)
        = (t.onMe fun m => { m with
            addressing := { cabinet := x, allEnable := a == 1, group := g, groupEnable := b == 1 } }).accept [] := by
      simp [State.perform, State.doSetAddressing, hread]
    obtain ⟨u, rfl, hu, hanswers⟩ := hserved _ _ _ hperform ht.responses nofun
    refine ⟨_, hu, hanswers, rfl, ht.levels, ht.kept, (ht.requestOnly []).1.trans ?_⟩
    simp [State.onlyChanges_iff, State.respond]
  · refine served_refused hs (q := .setAddressing x a g b) rfl hcab rfl (fun t _ => ?_) nofun
    simp [State.perform, State.doSetAddressing, addressingOf_eq_none hbad]
  · obtain ⟨t, ht, hserved⟩ := served_answered hs (q := .setIdentity v) rfl hcab rfl
    have hold : t.isNeighbour v.toNat = false := by
      rw [State.isNeighbour_eq_of_cu ht.cu, hnew]
    have hperform : t.perform (returnOf h (.setIdentity v)) (.setIdentity v)
        = (t.onCu fun b => { b with vehicleSetting := v.toNat }).accept (beBytes 4 s.cu.vehicleSetting) := by
      simp [State.perform, State.doSetIdentity, within_eq_some hv hv', hold, ht.cu]
    obtain ⟨u, rfl, hu, hanswers⟩ := hserved _ _ _ hperform ht.responses nofun
    refine ⟨_, hu, hanswers, ?_, ((ht.requestOnly _).after ?_ (by rfl) (by rfl)).respond _ _ _ _⟩
    · rw [← ht.cu]; rfl
    · simp [State.onlyChanges_iff]
  · refine served_refused hs (q := .setIdentity v) rfl hcab rfl (fun t _ => ?_) nofun
    have hnone : within 1 16777215 v.toNat = none := within_eq_none (by omega)
    simp [State.perform, State.doSetIdentity, hnone]
  · refine served_refused hs (q := .setIdentity v) rfl hcab rfl (fun t ht => ?_) nofun
    have hneighbour : t.isNeighbour v.toNat = true := by rw [State.isNeighbour_eq_of_cu ht.cu, hold]
    simp [State.perform, State.doSetIdentity, within_eq_some hv hv', hneighbour]

end Sys2Proof.Proofs
end

section
/-! SUPPORT and PROOFS. Messages to radios; the store (O12), the setting relay (O32) and the grants (O39). -/

namespace Sys2Proof.Machine

/-! ### Messages to radios -/

section Radio

variable (s : State) (c : LinkNo) (m : RadioOut)

@[simp] theorem State.sendRadio_spb : (s.sendRadio c m).spb = s.spb :=
  (State.Told.sendControl (s.countLink c fun x => m.count x) (.ceiling c) (.radio m)).spb (by simp)

@[simp] theorem State.sendRadio_cu : (s.sendRadio c m).cu = s.cu :=
  (State.Told.sendControl (s.countLink c fun x => m.count x) (.ceiling c) (.radio m)).cu (by simp)

theorem State.sendRadio_link (d : LinkNo) : (s.sendRadio c m).link d
    = if d = c then { s.link d with counts := m.count (s.link d).counts } else s.link d := by
  have hclb := (State.Told.sendControl (s.countLink c fun x => m.count x) (.ceiling c) (.radio m)).clb
  have hlink : (s.sendRadio c m).link d = (s.countLink c fun x => m.count x).link d := congrFun (State.link_eq_of_clb hclb) d
  rw [hlink, State.countLink_eq, State.link_onLink]

theorem State.sendRadio_state (d : LinkNo) : ((s.sendRadio c m).link d).state = (s.link d).state := by
  rw [State.sendRadio_link]; split <;> rfl

theorem State.sendRadio_link_of_ne {d : LinkNo} (h : d ≠ c) : (s.sendRadio c m).link d = s.link d := by
  rw [State.sendRadio_link, if_neg h]

theorem State.sendRadio_clb : (s.sendRadio c m).clb.deferrals = s.clb.deferrals
    ∧ (s.sendRadio c m).clb.deferWindow = s.clb.deferWindow ∧ (s.sendRadio c m).clb.overflows = s.clb.overflows
    ∧ (s.sendRadio c m).clb.expiries = s.clb.expiries := by
  have hclb := (State.Told.sendControl (s.countLink c fun x => m.count x) (.ceiling c) (.radio m)).clb
  rw [State.sendRadio, hclb]
  exact ⟨rfl, rfl, rfl, rfl⟩

/-- A control message leaves the slots, the entries and the transmissions of every queue, and the counters of the store, as they
were. -/
theorem State.sendControl_fs (port : Port) (ctl : Control) : (s.sendControl port ctl).fs.slots = s.fs.slots
    ∧ (s.sendControl port ctl).fs.mark = s.fs.mark ∧ (s.sendControl port ctl).fs.counts = s.fs.counts
    ∧ ∀ other, (s.sendControl port ctl).queue other
        = { s.queue other with waiting := ((s.sendControl port ctl).queue other).waiting } := by
  unfold State.sendControl
  split
  · exact ⟨rfl, rfl, rfl, fun _ => rfl⟩
  · split
    · refine ⟨s.setQueue_slots port _, s.setQueue_mark port _, s.setQueue_fsCounts port _, fun other => ?_⟩
      rw [State.onQueue, State.queue_setQueue]
      split
      · next h => rw [h]
      · rfl
    · exact ⟨by simp, by simp, by simp, fun other => by rw [State.goOut_queue]⟩

theorem State.sendRadio_fs : (s.sendRadio c m).fs.slots = s.fs.slots
    ∧ (s.sendRadio c m).fs.mark = s.fs.mark ∧ (s.sendRadio c m).fs.counts = s.fs.counts
    ∧ ∀ other, (s.sendRadio c m).queue other = { s.queue other with waiting := ((s.sendRadio c m).queue other).waiting } :=
  (s.countLink c fun x => m.count x).sendControl_fs (.ceiling c) (.radio m)

theorem State.sendRadio_entries (port : Port) : ((s.sendRadio c m).queue port).entries = (s.queue port).entries := by
  rw [(s.sendRadio_fs c m).2.2.2 port]

theorem State.sendRadio_refsOf : (s.sendRadio c m).refsOf = s.refsOf := State.refsOf_eq_of_slots (s.sendRadio_fs c m).1

theorem State.sendRadio_queue_of_ne {port : Port} (h : port ≠ .ceiling c) : (s.sendRadio c m).queue port = s.queue port := by
  unfold State.sendRadio State.sendControl
  split
  · rfl
  · split
    · exact (s.countLink c fun x => m.count x).queue_setQueue_of_ne _ h
    · rw [State.goOut_queue]; rfl

/-- What a control message leaves of the event's log: only something more may have gone out. -/
theorem State.sendControl_ev (port : Port) (ctl : Control) :
    ∃ more, (s.sendControl port ctl).ev = { s.ev with out := s.ev.out ++ more } := by
  unfold State.sendControl
  split
  · exact ⟨[], by simp⟩
  · split
    · exact ⟨[], by simp⟩
    · unfold State.goOut
      split
      · exact ⟨_, rfl⟩
      · exact ⟨_, rfl⟩
      · exact ⟨_, rfl⟩
      · exact ⟨[], by simp⟩

theorem State.sendRadio_ev : ∃ more, (s.sendRadio c m).ev = { s.ev with out := s.ev.out ++ more } :=
  (s.countLink c fun x => m.count x).sendControl_ev (.ceiling c) (.radio m)

@[simp] theorem State.sendRadio_responses : (s.sendRadio c m).ev.responses = s.ev.responses := by
  obtain ⟨more, h⟩ := s.sendRadio_ev c m
  rw [h]

variable {s c}

/-- A READY link's radio is told (R41). -/
theorem toldRadio_sendRadio (h : (s.link c).state = .ready) (m : RadioOut) : toldRadio (s.sendRadio c m) c m := by
  have hopen : (s.countLink c fun x => m.count x).controlOpen (.ceiling c) = true := by
    simp [State.controlOpen, h]
  unfold State.sendRadio State.sendControl
  rw [hopen]
  simp only [Bool.not_true, Bool.false_eq_true, if_false]
  split
  · exact Or.inr (by simp [State.onQueue])
  · exact Or.inl (by simp [State.goOut, State.emit])

/-- What has been told stays told while what goes out and what waits only grows. -/
theorem toldRadio.mono {t u : State} {m : RadioOut} (h : toldRadio t c m) (hout : t.ev.out ⊆ u.ev.out)
    (hwait : (t.queue (.ceiling c)).waiting ⊆ (u.queue (.ceiling c)).waiting) : toldRadio u c m :=
  h.imp (fun h => hout h) fun h => hwait h

end Radio

/-- A well-formed message on a READY link is taken (R145). -/
theorem State.fromRadio_taken {s : State} {c : LinkNo} (h : (s.link c).state = .ready) {m : RadioMessage}
    (hm : m.badNumber = false) : s.fromRadio c (some m) = s.takeRadio c m := by
  simp [State.fromRadio, h, hm]

/-- The end of an exchange (R164, R165). -/
theorem State.endRelay_some {s : State} {c : LinkNo} {r : Relay} (h : (s.link c).relay = some r) (status : Status) (args : Bytes)
    (count : LinkCounters → LinkCounters) : s.endRelay c status args count
      = (s.onLink c fun x => { x with relay := none, counts := count x.counts }).pushResponse
          { station := r.station, side := r.side, long := true, code := relayCode, tag := r.tag, status := status,
            args := args } := by
  simp [State.endRelay, h]

@[simp] theorem State.pushResponse_link (s : State) (r : Response) (c : LinkNo) : (s.pushResponse r).link c = s.link c := rfl

@[simp] theorem State.pushResponse_responses (s : State) (r : Response) :
    (s.pushResponse r).ev.responses = s.ev.responses ++ [r] := rfl

/-! ### The settings of the part -/

/-- The settings are read of five blocks (R216). -/
theorem State.settings_congr {s t : State} (hcu : t.cu = s.cu) (ha : t.me.addressing = s.me.addressing)
    (hl : t.me.levels = s.me.levels) (hspb : t.spb = s.spb) (hclb : t.clb = s.clb) (hmc : t.mc = s.mc) (hct : t.ct = s.ct) :
    t.settings = s.settings := by
  simp only [State.settings, hcu, ha, hl, hspb, hclb, hmc, hct]

theorem State.Taken.settings {s t : State} {h : ReqHeader} (ht : s.Taken h t) : t.settings = s.settings :=
  State.settings_congr ht.cu ht.addressing ht.levels ht.spb ht.clb ht.mc ht.ct

/-! ### Grants -/

theorem sideOf_eq_none {b : Byte} (h : 1 < b.toNat) : sideOf b = none := by
  unfold sideOf
  rw [if_neg (fun e => by rw [e] at h; exact absurd h (by decide)), if_neg (fun e => by rw [e] at h; exact absurd h (by decide))]

/-- Fields of a grant outside their ranges (R77). -/
theorem grantOf_eq_none {pool : Word} {period basic standard premium : Half} {gateway : Byte}
    (h : 1048575 < pool.toNat ∨ period.toNat < 1 ∨ 1000 < period.toNat ∨ 1 < gateway.toNat) :
    grantOf pool period basic standard premium gateway = none := by
  unfold grantOf
  split
  · next hp ht hg =>
    exfalso
    rcases h with h | h | h | h
    · rw [within_eq_none (Or.inr h)] at hp; cases hp
    · rw [within_eq_none (Or.inl h)] at ht; cases ht
    · rw [within_eq_none (Or.inr h)] at ht; cases ht
    · rw [sideOf_eq_none h] at hg; cases hg
  · rfl

theorem grantOf_gateway {pool : Word} {period basic standard premium : Half} {gateway : Byte} {g : Grant}
    (h : grantOf pool period basic standard premium gateway = some g) : sideOf gateway = some g.gateway := by
  unfold grantOf at h
  split at h
  · next hg => rw [hg, ← Option.some.inj h]
  · cases h

/-- A grant is refused when its fields name none, or its gateway side is not COUPLED (R77). -/
theorem State.doGrantShare_refused {t : State} {grant : Option Grant} (h : ∀ g, grant = some g → t.coupled g.gateway = false) :
    t.doGrantShare grant = t.refuse .badArgument := by
  unfold State.doGrantShare
  cases grant with
  | none => rfl
  | some g => exact if_pos (by rw [h g rfl]; rfl)

/-- A grant whose gateway side is COUPLED is applied in UPLINK_HELD, and made pending in UPLINK_GRANTED (R78, R79). -/
theorem State.doGrantShare_applied {t : State} {g : Grant} (hc : t.coupled g.gateway = true) (hs : t.sau.state = .held) :
    t.doGrantShare (some g) = (t.applyGrant g).accept [0] := by
  simp [State.doGrantShare, hc, hs]

theorem State.doGrantShare_pended {t : State} {g inForce : Grant} {pend : Option Grant} (hc : t.coupled g.gateway = true)
    (hs : t.sau.state = .granted inForce pend) :
    t.doGrantShare (some g) = (t.pendGrant inForce pend g).accept [1] := by
  simp [State.doGrantShare, hc, hs]

theorem State.setCredits_record (s : State) (credit : Class → Nat) (n : Nat) :
    (s.setCredits credit).record n = (s.record n).map fun r => { r with credit := credit r.cls } :=
  Table.get_mapValues (α := Record) (β := Record) (fun r => { r with credit := credit r.cls }) s.ct.records n

/-! ### The store -/

/-- The third stage of a store writes the check word of the items and ends the store (R216). -/
theorem State.storeStage_third (s : State) (items : Bytes) {r : Return} (hr : s.sl.pendingReturn = some r) :
    let u := s.storeStage .third items
    u.memory = { items := items, check := some (crc32 items) } ∧ u.sl.unit = .idle ∧ u.sl.accessTimer = none
      ∧ u.sl.outcome = some .ok ∧ longResponse u r .ok [] ∧ u.sl.source = s.sl.source ∧ u.settings = s.settings := by
  dsimp only
  unfold State.storeStage
  dsimp only
  rw [hr]
  exact ⟨rfl, rfl, rfl, rfl, List.mem_append_right _ (List.mem_singleton_self _), rfl, rfl⟩

/-- An acknowledgement of the store in progress (R216). -/
theorem reaches_storeStage {s : State} {stage : Stage} {items : Bytes} (hline : s.resetLine = false)
    (hunit : s.sl.unit = .storing stage items) :
    reaches (.storeStageComplete s.sl.access) s (s.beginEvent.storeStage stage items) :=
  reaches_event rfl hline (by simp [State.stageComplete, hunit])

end Sys2Proof.Machine

namespace Sys2Proof.Proofs

open Sys2Proof.Machine

/-- Settles O12: the request begins the store, and each acknowledgement carries out one stage. -/
theorem storeWritesTheImage : Obligations.StoreWritesTheImage := by
  refine ⟨fun s h hs hcab hidle => ?_, fun s items hline hunit => ?_, fun s items hline hunit => ?_,
    fun s items r hline hunit hr => ?_⟩
  · obtain ⟨t, ht, hserved⟩ := served_begun hs (q := .storeSettings) rfl hcab rfl
    have hperform : t.perform (returnOf h .storeSettings) .storeSettings = (t.beginStore (returnOf h .storeSettings), none) := by
      simp [State.perform, State.doStoreSettings, ht.sl, hidle]
    refine ⟨_, hserved _ hperform, ht.responses, ?_, rfl, rfl, rfl, (ht.requestOnly _).after ?_ (by rfl) (by rfl)⟩
    · rw [← ht.settings]; rfl
    · simp [State.onlyChanges_iff, State.beginStore]
  · exact ⟨_, reaches_storeStage hline hunit, rfl, rfl⟩
  · exact ⟨_, reaches_storeStage hline hunit, rfl, rfl⟩
  · exact ⟨_, reaches_storeStage hline hunit, s.beginEvent.storeStage_third items hr⟩

/-- Settles O39: the grant is refused, applied or made pending by its fields, its gateway and the state of the unit. -/
theorem grantAppliedOrPended : Obligations.GrantAppliedOrPended := by
  intro s h pool period basic standard premium gateway hs hshare
  refine ⟨fun hbad => ?_, fun side hside hdown => ?_, fun side hpool hperiod hperiod' hside hcoupled => ?_⟩
  · refine served_refused hs (q := .grantShare pool period basic standard premium gateway) rfl hshare rfl (fun t _ => ?_) nofun
    exact State.doGrantShare_refused fun g hg => by rw [grantOf_eq_none hbad] at hg; cases hg
  · refine served_refused hs (q := .grantShare pool period basic standard premium gateway) rfl hshare rfl (fun t ht => ?_) nofun
    refine State.doGrantShare_refused fun g hg => ?_
    rw [State.coupled_eq_of_cu ht.cu, ← Option.some.inj (hside.symm.trans (grantOf_gateway hg)), hdown]
  · have hgrant : grantOf pool period basic standard premium gateway = some
        { pool := pool.toNat, period := period.toNat, basic := basic.toNat, standard := standard.toNat,
          premium := premium.toNat, gateway := side } := by
      simp [grantOf, within_eq_some (Nat.zero_le _) hpool, within_eq_some hperiod hperiod', hside]
    obtain ⟨t, ht, hserved⟩ := served_answered hs (q := .grantShare pool period basic standard premium gateway) rfl hshare rfl
    have hopen : t.coupled side = true := by rw [State.coupled_eq_of_cu ht.cu, hcoupled]
    refine ⟨fun hheld => ?_, fun inForce pend hgranted => ?_⟩
    · have hperform : t.perform (returnOf h (.grantShare pool period basic standard premium gateway))
          (.grantShare pool period basic standard premium gateway) = _ :=
        (congrArg t.doGrantShare hgrant).trans (State.doGrantShare_applied hopen (by rw [ht.sau, hheld]))
      obtain ⟨u, rfl, hu, hanswers⟩ := hserved _ .ok [0] hperform ht.responses nofun
      refine ⟨_, hu, hanswers, ?_, fun n => ?_, ((ht.requestOnly _).after ?_ (by rfl) (by rfl)).respond _ _ _ _⟩
      · rw [← ht.sau]; rfl
      · rw [← State.record_eq_of_ct ht.ct]
        exact State.setCredits_record _ _ n
      · simp [State.onlyChanges_iff, State.applyGrant]
    · have hperform : t.perform (returnOf h (.grantShare pool period basic standard premium gateway))
          (.grantShare pool period basic standard premium gateway) = _ :=
        (congrArg t.doGrantShare hgrant).trans (State.doGrantShare_pended hopen (by rw [ht.sau, hgranted]))
      obtain ⟨u, rfl, hu, hanswers⟩ := hserved _ .ok [1] hperform ht.responses nofun
      refine ⟨_, hu, hanswers, ?_, ((ht.requestOnly _).after ?_ (by rfl) (by rfl)).respond _ _ _ _⟩
      · rw [← ht.sau]; rfl
      · simp [State.onlyChanges_iff, State.pendGrant]

/-- Settles O32: the relay begins on a READY link whose relay is idle, and ends by its answer or its timeout. -/
theorem settingRelayRuns : Obligations.SettingRelayRuns := by
  refine ⟨fun s h link item value direction c write hs hcab hc hwrite => ⟨fun hrelay hready => ?_, fun hrelay => ?_,
    fun hrelay hready => ?_⟩, fun s c r hhears hr => ⟨fun value result => ?_, fun item value result hitem => ?_, fun htimeout => ?_⟩⟩
  · obtain ⟨t, ht, hserved⟩ := served_begun hs (q := .relaySetting link item value direction) rfl hcab rfl
    have hlink := State.link_eq_of_clb ht.clb
    have hready' : (t.link c).state = .ready := by rw [hlink, hready]
    refine ⟨_, hserved _ (by
      simp only [State.perform, State.doRelaySetting, hc, hwrite, hlink, hrelay, hready, Option.isSome_none, Bool.false_eq_true,
        if_false, ne_eq, not_true]; rfl), ?_, ?_, fun d hd => ?_, ?_, (ht.requestOnly [.clb]).1.trans ?_⟩
    · simpa using ht.responses
    · exact (toldRadio_sendRadio hready' (.setting item value write)).mono (fun _ h => h) fun _ h => h
    · rw [State.link_onLink_of_ne _ _ hd, State.sendRadio_link_of_ne _ _ _ hd, hlink]
    · simp [returnOf]
    · simp [State.onlyChanges_iff]
  · refine served_refused hs (q := .relaySetting link item value direction) rfl hcab rfl (fun t ht => ?_) nofun
    simp only [State.perform, State.doRelaySetting, hc, hwrite, State.link_eq_of_clb ht.clb, hrelay, if_true]
  · refine served_refused hs (q := .relaySetting link item value direction) rfl hcab rfl (fun t ht => ?_) nofun
    simp [State.perform, State.doRelaySetting, hc, hwrite, State.link_eq_of_clb ht.clb, hrelay, hready]
  · have hanswer : s.beginEvent.fromRadio c (some (.settingAnswer r.item value result))
        = s.beginEvent.endRelay c .ok (linkByte c :: r.item :: (if r.write then 1 else 0) :: (wordBytes value ++ [result]))
            fun k => { k with relaysAnswered := bump k.relaysAnswered } := by
      rw [State.fromRadio_taken (by exact hhears.2) rfl]
      simp [State.takeRadio, State.takeSettingAnswer, hr]
    refine ⟨_, reaches_event rfl hhears.1 hanswer, ?_⟩
    rw [State.endRelay_some (by exact hr)]
    exact ⟨by simp [boolByte], by simp, fun d hd => by simp [State.link_onLink, hd], by simp [State.onlyChanges_iff]⟩
  · have hstray : s.beginEvent.fromRadio c (some (.settingAnswer item value result))
        = s.beginEvent.countLink c fun k => { k with strayAnswers := bump k.strayAnswers } := by
      rw [State.fromRadio_taken (by exact hhears.2) rfl]
      simp [State.takeRadio, State.takeSettingAnswer, hr, Ne.symm hitem]
    exact ⟨_, reaches_event rfl hhears.1 hstray, rfl, by simp, fun d hd => State.link_onLink_of_ne _ _ hd,
      by simp [State.onlyChanges_iff]⟩
  · have hdue : (s.link c).relayDue = true := by simp [Link.relayDue, hr, htimeout, isDue]
    have hexpiry : s.beginEvent.relayExpiry c = s.beginEvent.endRelay c .timeout [linkByte c, r.item]
        fun k => { k with relaysTimedOut := bump k.relaysTimedOut } := by
      simp [State.relayExpiry, hr, relayNames]
    refine ⟨_, reaches_eventWhen rfl hhears.1 hdue hexpiry, ?_⟩
    rw [State.endRelay_some (by exact hr)]
    exact ⟨by simp, by simp, fun d hd => by simp [State.link_onLink, hd], by simp [State.onlyChanges_iff]⟩

end Sys2Proof.Proofs
end

section
/-! SUPPORT. Frames that the part composes one after the other (R49): which are lost, and what each leaves of the store. -/

namespace Sys2Proof.Machine

/-! ### Counters -/

theorem bumpBy_zero (c : Counter) : bumpBy c 0 = c := by
  apply BitVec.eq_of_toNat_eq
  have hc := c.isLt
  simp only [bumpBy, BitVec.toNat_ofNat]
  omega

theorem bumpBy_bumpBy (c : Counter) (m n : Nat) : bumpBy (bumpBy c m) n = bumpBy c (m + n) := by
  apply BitVec.eq_of_toNat_eq
  have hc := c.isLt
  simp only [bumpBy, BitVec.toNat_ofNat]
  omega

theorem bump_eq_bumpBy (c : Counter) : bump c = bumpBy c 1 := by
  apply BitVec.eq_of_toNat_eq
  have hc := c.isLt
  unfold bump bumpBy
  split
  · next h => rw [h]; rfl
  · next h =>
    have hne : c.toNat ≠ 4294967295 := fun e => h (BitVec.eq_of_toNat_eq e)
    have hone : (1 : Counter).toNat = 1 := rfl
    simp only [BitVec.toNat_add, BitVec.toNat_ofNat, hone]
    omega

/-! ### Tables -/

section Tables

variable {α : Type}

theorem Table.length_put_of_none {t : Table α} {k : Nat} (h : t.get k = none) (v : α) : (t.put k v).length = t.length + 1 := by
  induction t with
  | nil => rfl
  | cons e rest ih =>
    obtain ⟨j, w⟩ := e
    unfold Table.get at h
    split at h
    · cases h
    · next hj =>
      unfold Table.put
      split
      · rfl
      · split
        · next hkj => exact absurd hkj.symm hj
        · simp [ih h]

theorem Table.del_of_none {t : Table α} {k : Nat} (h : t.get k = none) : t.del k = t := by
  induction t with
  | nil => rfl
  | cons e rest ih =>
    obtain ⟨j, w⟩ := e
    unfold Table.get at h
    split at h
    · cases h
    · next hj => simp [Table.del, hj, ih h]

theorem Table.del_put_of_none {t : Table α} {k : Nat} (h : t.get k = none) (v : α) : (t.put k v).del k = t := by
  induction t with
  | nil => simp [Table.put, Table.del]
  | cons e rest ih =>
    obtain ⟨j, w⟩ := e
    unfold Table.get at h
    split at h
    · cases h
    · next hj =>
      unfold Table.put
      split
      · simp [Table.del, hj, Table.del_of_none h]
      · split
        · next hkj => exact absurd hkj.symm hj
        · simp [Table.del, hj, ih h]

theorem Table.modify_put_self (t : Table α) (k : Nat) (v : α) (f : α → α) : (t.put k v).modify k f = t.put k (f v) := by
  rw [Table.modify, Table.get_put_self]
  exact Table.put_put t k v (f v)

end Tables

/-! ### One frame -/

/-- A frame stands in a port's queue, in a slot with a reference. -/
def State.Holds (s : State) (port : Port) (frame : Bytes) : Prop :=
  ∃ e ∈ (s.queue port).entries, ∃ x, s.fs.slots.get e.slot = some x ∧ x.frame = frame ∧ 1 ≤ x.refs

theorem State.Holds.queued {s : State} {port : Port} {frame : Bytes} (h : s.Holds port frame) : frameQueued s port frame := by
  obtain ⟨e, he, x, hx, hframe, _⟩ := h
  exact ⟨e, he, by rw [State.slotFrame, hx]; exact hframe⟩

/-- What stands in a queue stays there while queues only grow and slots with references stand. -/
theorem State.Holds.mono {s t : State} {port : Port} {frame : Bytes} (h : s.Holds port frame)
    (hq : (s.queue port).entries ⊆ (t.queue port).entries)
    (hslots : ∀ k x, s.fs.slots.get k = some x → 1 ≤ x.refs → ∃ y, t.fs.slots.get k = some y ∧ y.frame = x.frame ∧ 1 ≤ y.refs) :
    t.Holds port frame := by
  obtain ⟨e, he, x, hx, hframe, hrefs⟩ := h
  obtain ⟨y, hy, hyframe, hyrefs⟩ := hslots _ _ hx hrefs
  exact ⟨e, hq he, y, hy, hyframe.trans hframe, hyrefs⟩

theorem State.Holds.of_fs {s t : State} {port : Port} {frame : Bytes} (h : s.Holds port frame) (hslots : t.fs.slots = s.fs.slots)
    (hq : ∀ p, (t.queue p).entries = (s.queue p).entries) : t.Holds port frame :=
  h.mono (by rw [hq]; exact fun _ h => h) fun k x hx hr => ⟨x, by rw [hslots, hx], rfl, hr⟩

/-- No reset is owed, and no slot holds a response that brings one (R49). -/
def State.NoReset (s : State) : Prop := s.ev.resetDue = false ∧ ∀ k x, s.fs.slots.get k = some x → x.resetResponse = false

/-- What one composed frame leaves of the part, `lost` telling whether it was lost (R49). -/
structure State.ComposedOne (s t : State) (side : Side) (reset : Bool) (frame : State → Bytes) (lost : Bool) : Prop where
  fate : lost = (decide (s.freeSlots = 0) || decide (s.backboneRoom side = 0))
  counts : t.fs.counts = { s.fs.counts with composedLost := bumpBy s.fs.counts.composedLost lost.toNat }
  free : t.freeSlots = s.freeSlots - (!lost).toNat
  room : ∀ x, t.backboneRoom x = s.backboneRoom x - (!lost && side == x).toNat
  wf : t.fs.slots.wf = true
  holds : ∀ port bytes, s.Holds port bytes → t.Holds port bytes
  cu : t.cu = s.cu
  me : t.me = if s.freeSlots = 0 then s.me else (s.lowWater (s.freeSlots - 1)).me
  log : t.ev = { s.ev with resetDue := s.ev.resetDue || (lost && reset) }
  kept : lost = false → t.Holds (.backbone side) (frame (s.lowWater (s.freeSlots - 1)))

theorem State.backboneRoom_congr {s t : State} (hcu : t.cu = s.cu) {side : Side}
    (hq : (t.queue (.backbone side)).entries = (s.queue (.backbone side)).entries) : t.backboneRoom side = s.backboneRoom side := by
  rw [State.backboneRoom, State.backboneRoom, State.coupled_eq_of_cu hcu, hq]

theorem State.appendTest_backbone (s : State) (side : Side) :
    s.appendTest (.backbone side) false = none ↔ s.backboneRoom side ≠ 0 := by
  rw [← State.backboneRoom_pos, Nat.pos_iff_ne_zero]

theorem State.appendTest_backbone_congr {s t : State} (hcu : t.cu = s.cu) {side : Side}
    (hq : (t.queue (.backbone side)).entries = (s.queue (.backbone side)).entries) :
    t.appendTest (.backbone side) false = s.appendTest (.backbone side) false := by
  have htransmits : t.transmits (.backbone side) = s.transmits (.backbone side) := congrFun (State.coupled_eq_of_cu hcu) side
  unfold State.appendTest
  rw [htransmits, hq]
  rfl

section Compose

variable {s : State} (side : Side) (reset : Bool) (frame : State → Bytes)

/-- The slot that a composed frame claims. -/
def State.composedSlot (s : State) (reset : Bool) (frame : State → Bytes) : Slot :=
  { frame := frame (s.lowWater (s.freeSlots - 1)), origin := .engine, refs := 0, resetResponse := reset }

/-- With no slot free the frame is lost at once. -/
theorem State.compose_no_slot (h : s.freeSlots = 0) : s.compose side reset frame = (s.loseComposed reset, true) := by
  rw [State.compose, State.claim_of_le (by rw [h]; exact Nat.zero_le _)]

/-- With a slot free and room in the port's queue the frame joins it. -/
theorem State.compose_kept (h : s.freeSlots ≠ 0) (hr : s.backboneRoom side ≠ 0) : s.compose side reset frame
    = (((s.claimed (s.composedSlot reset frame) (s.fs.slots.firstFree 0)).append (.backbone side)
        { slot := s.fs.slots.firstFree 0 } false).1, false) := by
  have hclaim := State.claim_of_lt (s := s) (reserve := engineReserve) (Nat.pos_of_ne_zero h) .engine reset frame
  have htest : (s.claimed (s.composedSlot reset frame) (s.fs.slots.firstFree 0)).appendTest (.backbone side) false = none := by
    rw [State.appendTest_backbone_congr (s := s) (by simp) (by rw [State.claimed_queue])]
    exact (s.appendTest_backbone side).2 hr
  rw [State.compose, hclaim]
  exact if_pos (congrArg Prod.snd (State.append_none htest))

/-- With a slot free and no room the frame is lost after its claim. -/
theorem State.compose_refused (h : s.freeSlots ≠ 0) (hr : s.backboneRoom side = 0) : s.compose side reset frame
    = (((((s.claimed (s.composedSlot reset frame) (s.fs.slots.firstFree 0)).append (.backbone side)
        { slot := s.fs.slots.firstFree 0 } false).1.freeSlot (s.fs.slots.firstFree 0)).loseComposed reset), true) := by
  have hclaim := State.claim_of_lt (s := s) (reserve := engineReserve) (Nat.pos_of_ne_zero h) .engine reset frame
  have htest : (s.claimed (s.composedSlot reset frame) (s.fs.slots.firstFree 0)).appendTest (.backbone side) false ≠ none := by
    rw [State.appendTest_backbone_congr (s := s) (by simp) (by rw [State.claimed_queue])]
    exact fun hn => (s.appendTest_backbone side).1 hn hr
  obtain ⟨why, hwhy⟩ := Option.ne_none_iff_exists'.1 htest
  rw [State.compose, hclaim]
  refine if_neg ?_
  change ¬ ((s.claimed (s.composedSlot reset frame) (s.fs.slots.firstFree 0)).append (.backbone side)
    { slot := s.fs.slots.firstFree 0 } false).2 = true
  rw [State.append_some hwhy]
  exact Bool.false_ne_true

/-- What is held stands through a claim of a free slot. -/
theorem State.Holds.claimed {port : Port} {bytes : Bytes} (h : s.Holds port bytes) {x : Slot} {k : Nat}
    (hk : s.fs.slots.get k = none) : (s.claimed x k).Holds port bytes := by
  refine h.mono (by rw [State.claimed_queue]; exact fun _ h => h) fun j y hy hr => ⟨y, ?_, rfl, hr⟩
  rw [State.claimed_slots, Table.get_put_of_ne _ _ _ _ (fun e => by rw [e, hk] at hy; cases hy)]
  exact hy

/-- What is held stands through an append. -/
theorem State.Holds.append {port : Port} {bytes : Bytes} (h : s.Holds port bytes) (other : Port) (e : Entry) (looped : Bool) :
    (s.append other e looped).1.Holds port bytes := by
  refine h.mono ?_ fun j y hy hr => ?_
  · by_cases hp : port = other
    · subst hp
      rw [State.append_entries]
      exact List.subset_append_left _ _
    · rw [State.append_queue_of_ne _ _ _ hp]
      exact fun _ h => h
  · rw [State.append_slots]
    split
    · rw [Table.get_modify]
      split
      · next hj => exact ⟨{ y with refs := y.refs + 1 }, by rw [← hj, hy]; rfl, rfl, Nat.le_succ_of_le hr⟩
      · exact ⟨y, hy, rfl, hr⟩
    · exact ⟨y, hy, rfl, hr⟩

/-- What is held stands when a slot without references becomes free. -/
theorem State.Holds.freeSlot {port : Port} {bytes : Bytes} (h : s.Holds port bytes) {k : Nat} (hk : s.refsOf k = 0) :
    (s.freeSlot k).Holds port bytes := by
  refine h.mono (by rw [State.freeSlot_queue]; exact fun _ h => h) fun j y hy hr => ⟨y, ?_, rfl, hr⟩
  rw [State.freeSlot_slots, Table.get_del, if_neg (fun e => ?_)]
  · exact hy
  · rw [← e, State.refsOf_of_get hy] at hk
    omega

theorem State.freeSlot_fsCounts (k : Nat) : (s.freeSlot k).fs.counts = s.fs.counts := by
  unfold State.freeSlot
  dsimp only
  split <;> rfl

/-- The room of the backbone ports after an entry has joined one of their queues, or has not. -/
theorem State.append_backboneRoom (s : State) (side x : Side) (e : Entry) (hroom : s.backboneRoom side ≠ 0) :
    (s.append (.backbone side) e false).1.backboneRoom x = s.backboneRoom x - (side == x).toNat := by
  have hcu : (s.append (.backbone side) e false).1.cu = s.cu := by simp
  by_cases hx : x = side
  · subst hx
    have hentries := s.append_entries (.backbone x) e false
    rw [if_pos ((s.appendTest_backbone x).2 hroom)] at hentries
    rw [State.backboneRoom, State.coupled_eq_of_cu hcu, hentries, State.backboneRoom, beq_self_eq_true, Bool.toNat_true]
    split
    · rw [List.length_append, List.length_singleton, Nat.sub_add_eq]
    · rfl
  · rw [State.backboneRoom_congr hcu (by rw [State.append_queue_of_ne _ _ _ (by simpa using hx)]),
      beq_eq_false_iff_ne.2 fun h => hx h.symm]
    rfl

/-- The composing of one frame (R49). -/
theorem State.compose_composed (hw : s.fs.slots.wf = true) :
    s.ComposedOne (s.compose side reset frame).1 side reset frame (s.compose side reset frame).2 := by
  have hk : s.fs.slots.get (s.fs.slots.firstFree 0) = none := Table.get_firstFree hw 0
  have hcu : (s.compose side reset frame).1.cu = s.cu := by simp
  by_cases hfree : s.freeSlots = 0
  · rw [State.compose_no_slot side reset frame hfree] at hcu ⊢
    exact {
      fate := by simp [hfree]
      counts := by simp [State.loseComposed, bump_eq_bumpBy]
      free := rfl
      room := fun x => rfl
      wf := hw
      holds := fun port bytes h => h.of_fs rfl fun p => by rcases p with p | c | (_ | _) <;> rfl
      cu := hcu
      me := (if_pos hfree).symm
      log := rfl
      kept := fun h => by cases h }
  · have hlen := Table.length_put_of_none hk (s.composedSlot reset frame)
    have hslots : (s.claimed (s.composedSlot reset frame) (s.fs.slots.firstFree 0)).fs.slots
        = s.fs.slots.put (s.fs.slots.firstFree 0) (s.composedSlot reset frame) := State.claimed_slots ..
    have hqueue : (s.claimed (s.composedSlot reset frame) (s.fs.slots.firstFree 0)).queue = s.queue := State.claimed_queue ..
    have hcounts : (s.claimed (s.composedSlot reset frame) (s.fs.slots.firstFree 0)).fs.counts = s.fs.counts := State.claimed_counts ..
    have hme : (s.claimed (s.composedSlot reset frame) (s.fs.slots.firstFree 0)).me = (s.lowWater (s.freeSlots - 1)).me := rfl
    have hev : (s.claimed (s.composedSlot reset frame) (s.fs.slots.firstFree 0)).ev = s.ev := by simp
    have hclaimedCu : (s.claimed (s.composedSlot reset frame) (s.fs.slots.firstFree 0)).cu = s.cu := by simp
    have hholds := fun port bytes (h : s.Holds port bytes) => h.claimed (x := s.composedSlot reset frame) hk
    by_cases hroom : s.backboneRoom side = 0
    · rw [State.compose_refused side reset frame hfree hroom] at hcu ⊢
      generalize s.claimed (s.composedSlot reset frame) (s.fs.slots.firstFree 0) = c at *
      have htest : c.appendTest (.backbone side) false ≠ none := by
        rw [State.appendTest_backbone_congr hclaimedCu (by rw [hqueue])]
        exact fun hn => (s.appendTest_backbone side).1 hn hroom
      obtain ⟨why, hwhy⟩ := Option.ne_none_iff_exists'.1 htest
      have happSlots := c.append_slots (.backbone side) { slot := s.fs.slots.firstFree 0 } false
      rw [if_neg htest, hslots] at happSlots
      have happEntries : ∀ p, ((c.append (.backbone side) { slot := s.fs.slots.firstFree 0 } false).1.queue p).entries = (s.queue p).entries := by
        intro p
        by_cases hp : p = .backbone side
        · subst hp
          rw [State.append_entries, if_neg htest, List.append_nil, hqueue]
        · rw [State.append_queue_of_ne _ _ _ hp, hqueue]
      have happCounts := (c.append_fs (.backbone side) { slot := s.fs.slots.firstFree 0 } false).2
      have happEv : (c.append (.backbone side) { slot := s.fs.slots.firstFree 0 } false).1.ev = s.ev := by simp [hev]
      have happMe : (c.append (.backbone side) { slot := s.fs.slots.firstFree 0 } false).1.me = c.me := by simp
      have happHolds := fun port bytes (h : s.Holds port bytes) =>
        (hholds port bytes h).append (.backbone side) { slot := s.fs.slots.firstFree 0 } false
      have happCu : (c.append (.backbone side) { slot := s.fs.slots.firstFree 0 } false).1.cu = s.cu := by simp [hclaimedCu]
      generalize (c.append (.backbone side) { slot := s.fs.slots.firstFree 0 } false).1 = a at *
      have hback : (a.freeSlot (s.fs.slots.firstFree 0)).fs.slots = s.fs.slots := by
        rw [State.freeSlot_slots, happSlots, Table.del_put_of_none hk]
      have hrefs : a.refsOf (s.fs.slots.firstFree 0) = 0 := by
        rw [State.refsOf_of_get (by rw [happSlots, Table.get_put_self])]
        rfl
      exact {
        fate := by simp [hroom]
        counts := by
          have hfreed : (a.freeSlot (s.fs.slots.firstFree 0)).fs.counts = s.fs.counts := by
            rw [State.freeSlot_fsCounts, happCounts, hcounts]
          change { (a.freeSlot (s.fs.slots.firstFree 0)).fs.counts with
            composedLost := bump (a.freeSlot (s.fs.slots.firstFree 0)).fs.counts.composedLost } = _
          rw [hfreed, bump_eq_bumpBy]
          rfl
        free := State.freeSlots_eq_of_slots hback
        room := fun x => State.backboneRoom_congr hcu (happEntries _ ▸ congrArg Egress.entries (congrFun (State.freeSlot_queue ..) _))
        wf := (congrArg Table.wf hback).trans hw
        holds := fun port bytes h => (happHolds port bytes h).freeSlot hrefs |>.of_fs rfl fun p => by rcases p with p | c | (_ | _) <;> rfl
        cu := hcu
        me := by
          rw [if_neg hfree]
          exact (by simp : (a.freeSlot (s.fs.slots.firstFree 0)).me = a.me).trans (happMe.trans hme)
        log := by
          have hfreed : (a.freeSlot (s.fs.slots.firstFree 0)).ev = s.ev := (a.freeSlot_keeps _).2.1.trans happEv
          change { (a.freeSlot (s.fs.slots.firstFree 0)).ev with
            resetDue := (a.freeSlot (s.fs.slots.firstFree 0)).ev.resetDue || reset } = _
          rw [hfreed, Bool.true_and]
        kept := fun h => by cases h }
    · rw [State.compose_kept side reset frame hfree hroom] at hcu ⊢
      generalize s.claimed (s.composedSlot reset frame) (s.fs.slots.firstFree 0) = c at *
      have hcroom : ∀ x, c.backboneRoom x = s.backboneRoom x := fun x => State.backboneRoom_congr hclaimedCu (by rw [hqueue])
      have happSlots := c.append_slots (.backbone side) { slot := s.fs.slots.firstFree 0 } false
      rw [if_pos ((c.appendTest_backbone side).2 (by rw [hcroom]; exact hroom)), hslots, Table.modify_put_self] at happSlots
      have hlast := Table.length_put_of_none hk { s.composedSlot reset frame with refs := (s.composedSlot reset frame).refs + 1 }
      exact {
        fate := by simp [hfree, hroom]
        counts := by
          rw [(c.append_fs ..).2, hcounts, Bool.toNat_false, bumpBy_zero]
        free := by
          rw [State.freeSlots, happSlots, hlast, State.freeSlots, Bool.not_false, Bool.toNat_true, Nat.sub_add_eq]
        room := fun x => by
          rw [State.append_backboneRoom _ _ _ _ (by rw [hcroom]; exact hroom), hcroom, Bool.not_false, Bool.true_and]
        wf := by
          rw [happSlots]
          exact Table.put_wf _ _ _ hw
        holds := fun port bytes h => (hholds port bytes h).append _ _ _
        cu := hcu
        me := by
          rw [if_neg hfree]
          simpa using hme
        log := by
          rw [Bool.false_and, Bool.or_false]
          simp [hev]
        kept := fun _ => by
          refine ⟨{ slot := s.fs.slots.firstFree 0 }, ?_, _, by rw [happSlots, Table.get_put_self], rfl, Nat.le_refl 1⟩
          rw [State.append_entries, if_pos ((c.appendTest_backbone side).2 (by rw [hcroom]; exact hroom))]
          exact List.mem_append_right _ (List.mem_singleton_self _) }

end Compose

end Sys2Proof.Machine
end

section
/-! SUPPORT. Responses and notices composed one after the other: what is on record, which are lost, and what the stations keep (R49,
R191, R202, R203). -/

namespace Sys2Proof.Machine

/-! ### Which frames are lost -/

section Losses

variable {free : Nat} {room : Side → Nat}

theorem lossesAgree_nil : lossesAgree free room [] := fun before c after h => by simp at h

theorem lossesAgree_singleton {c : Composed} (h : c.isLost = (decide (free = 0) || decide (room c.side = 0))) :
    lossesAgree free room [c] := by
  rintro before d after heq
  cases before with
  | nil =>
    obtain ⟨rfl, _⟩ := List.cons.inj heq
    simpa using h
  | cons e rest => simp at heq

/-- The frames kept of those composed before leave what the later ones find. -/
theorem lossesAgree_append {as bs : List Composed} (ha : lossesAgree free room as)
    (hb : lossesAgree (free - as.countP fun d => !d.isLost) (fun x => room x - as.countP fun d => !d.isLost && d.side == x) bs) :
    lossesAgree free room (as ++ bs) := by
  intro before c after heq
  rcases List.append_eq_append_iff.1 heq with ⟨mid, rfl, hmid⟩ | ⟨mid, has, hmid⟩
  · rw [hb mid c after hmid, List.countP_append, List.countP_append]
    simp only [Nat.sub_le_iff_le_add']
  · cases mid with
    | nil =>
      rw [List.append_nil] at has
      subst has
      simpa [Nat.sub_eq_zero_iff_le] using hb [] c after hmid.symm
    | cons d rest =>
      obtain ⟨rfl, _⟩ := List.cons.inj hmid
      exact ha before c rest has

end Losses

/-! ### Entries of the Station Table -/

/-- What an entry keeps while frames are composed. -/
structure Station.Follows (st e : Station) : Prop where
  addr : e.addr = st.addr
  side : e.side = st.side
  roles : e.roles = st.roles
  threshold : e.threshold = st.threshold
  pending : ∀ c ∈ st.pending, c ∈ e.pending

/-- What an entry keeps that has no notice. -/
structure Station.Unnoticed (st e : Station) : Prop where
  number : e.number = st.number
  spacing : e.spacing = st.spacing
  due : st.due = true → e.due = true

theorem Station.Follows.refl (st : Station) : st.Follows st := ⟨rfl, rfl, rfl, rfl, fun _ h => h⟩

theorem Station.Follows.trans {a b c : Station} (h : a.Follows b) (h' : b.Follows c) : a.Follows c :=
  ⟨h'.addr.trans h.addr, h'.side.trans h.side, h'.roles.trans h.roles, h'.threshold.trans h.threshold,
    fun d hd => h'.pending d (h.pending d hd)⟩

theorem Station.Unnoticed.refl (st : Station) : st.Unnoticed st := ⟨rfl, rfl, id⟩

theorem Station.Unnoticed.trans {a b c : Station} (h : a.Unnoticed b) (h' : b.Unnoticed c) : a.Unnoticed c :=
  ⟨h'.number.trans h.number, h'.spacing.trans h.spacing, h'.due ∘ h.due⟩

theorem Station.enter_follows (st : Station) (c : Cause) (level threshold : Nat) : st.Follows (st.enter c level threshold) := by
  unfold Station.enter
  split
  · exact .refl st
  · exact ⟨rfl, rfl, rfl, rfl, fun d hd => mem_addCause.2 (Or.inr hd)⟩

theorem Station.enter_unnoticed (st : Station) (c : Cause) (level threshold : Nat) :
    st.Unnoticed (st.enter c level threshold) := by
  unfold Station.enter
  split
  · exact .refl st
  · exact ⟨rfl, rfl, fun h => Bool.or_eq_true_iff.2 (Or.inl h)⟩

theorem Station.noticed_follows (hold : Bool) (st : Station) : st.Follows (st.noticed hold) := by
  unfold Station.noticed
  split <;> exact ⟨rfl, rfl, rfl, rfl, fun _ h => h⟩

/-- The station that a composed frame is a notice to. -/
def Composed.notified : Composed → Option Addr
  | .response _ _ _ => none
  | .notice x _ _ _ _ _ _ => some x

/-- An engine whose entries follow another's; those of stations without a notice in `cs` are unnoticed. -/
structure Engine.Follows (m n : Engine) (cs : List Composed) : Prop where
  addressing : n.addressing = m.addressing
  levels : n.levels = m.levels
  stations : ∃ g : Station → Station, n.stations = m.stations.map g
    ∧ ∀ st : Station, st.Follows (g st) ∧ ((∀ c ∈ cs, c.notified ≠ some st.addr) → st.Unnoticed (g st))

theorem Engine.Follows.refl (m : Engine) (cs : List Composed) : m.Follows m cs :=
  ⟨rfl, rfl, id, (List.map_id _).symm, fun st => ⟨.refl st, fun _ => .refl st⟩⟩

theorem Engine.Follows.trans {a b c : Engine} {cs ds : List Composed} (h : a.Follows b cs) (h' : b.Follows c ds) :
    a.Follows c (cs ++ ds) := by
  obtain ⟨g, hmap, hg⟩ := h.stations
  obtain ⟨g', hmap', hg'⟩ := h'.stations
  refine ⟨h'.addressing.trans h.addressing, h'.levels.trans h.levels, g' ∘ g, by rw [hmap', hmap, List.map_map], fun st => ?_⟩
  refine ⟨(hg st).1.trans (hg' _).1, fun hcs => ?_⟩
  refine ((hg st).2 fun c hc => hcs c (List.mem_append_left _ hc)).trans ((hg' (g st)).2 fun c hc => ?_)
  rw [(hg st).1.addr]
  exact hcs c (List.mem_append_right _ hc)

theorem Engine.Follows.raise (s : State) (c : Cause) (cs : List Composed) : s.me.Follows (s.raise c).me cs :=
  ⟨rfl, rfl, _, rfl, fun st => ⟨st.enter_follows _ _ _, fun _ => st.enter_unnoticed _ _ _⟩⟩

theorem Engine.Follows.lowWater (s : State) (free : Nat) (cs : List Composed) : s.me.Follows (s.lowWater free).me cs := by
  rcases s.lowWater_me free with h | h <;> rw [h]
  · exact .refl s.me cs
  · exact .raise s .storeLow cs

/-- The entry of a station follows. -/
theorem Engine.Follows.stationAt {s t : State} {cs : List Composed} (h : s.me.Follows t.me cs) {x : Addr} {st : Station}
    (hst : s.stationAt x = some st) : ∃ e, t.stationAt x = some e ∧ st.Follows e
      ∧ ((∀ c ∈ cs, c.notified ≠ some x) → st.Unnoticed e) := by
  obtain ⟨g, hmap, hg⟩ := h.stations
  obtain ⟨_, hx⟩ := State.stationAt_some hst
  refine ⟨g st, ?_, (hg st).1, fun hcs => (hg st).2 (by rw [hx]; exact hcs)⟩
  rw [State.stationAt, hmap, List.find?_map]
  have haddr : ((fun st : Station => st.addr == x) ∘ g) = fun st => st.addr == x := by
    funext y
    exact congrArg (· == x) (hg y).1.addr
  rw [haddr]
  exact congrArg (Option.map g) hst

/-- No entry comes. -/
theorem Engine.Follows.stationAt_none {s t : State} {cs : List Composed} (h : s.me.Follows t.me cs) {x : Addr}
    (hx : s.stationAt x = none) : t.stationAt x = none := by
  obtain ⟨g, hmap, hg⟩ := h.stations
  rw [State.stationAt_eq_none_iff] at hx ⊢
  rw [hmap]
  intro e he
  obtain ⟨st, hst, rfl⟩ := List.mem_map.1 he
  rw [(hg st).1.addr]
  exact hx st hst

/-- The port a response leaves by is that of its station's entry, whatever frames are composed (R199). -/
theorem Engine.Follows.responseSide {s t : State} {cs : List Composed} (h : s.me.Follows t.me cs) (r : Response) :
    t.responseSide r = s.responseSide r := by
  unfold State.responseSide
  cases hst : s.stationAt r.station with
  | none => rw [h.stationAt_none hst]
  | some st =>
    obtain ⟨e, he, hf, _⟩ := h.stationAt hst
    rw [he, Option.map_some, Option.map_some, hf.side]

/-! ### Frames composed one after the other -/

/-- What composing the frames `cs`, one after the other, leaves of the part (R49). -/
structure State.Composes (s t : State) (cs : List Composed) : Prop where
  log : t.ev = { s.ev with composed := s.ev.composed ++ cs, resetDue := t.ev.resetDue }
  counts : t.fs.counts = { s.fs.counts with composedLost := bumpBy s.fs.counts.composedLost (cs.countP Composed.isLost) }
  losses : lossesAgree s.freeSlots s.backboneRoom cs
  free : t.freeSlots = s.freeSlots - cs.countP fun d => !d.isLost
  room : ∀ x, t.backboneRoom x = s.backboneRoom x - cs.countP fun d => !d.isLost && d.side == x
  wf : t.fs.slots.wf = true
  holds : ∀ port frame, s.Holds port frame → t.Holds port frame
  cu : t.cu = s.cu
  me : s.me.Follows t.me cs

namespace State.Composes

variable {s t u : State} {cs ds : List Composed}

theorem nil (hw : s.fs.slots.wf = true) : s.Composes s [] where
  log := by rw [List.append_nil]
  counts := by rw [List.countP_nil, bumpBy_zero]
  losses := lossesAgree_nil
  free := rfl
  room _ := rfl
  wf := hw
  holds _ _ h := h
  cu := rfl
  me := .refl _ _

theorem append (h : s.Composes t cs) (h' : t.Composes u ds) : s.Composes u (cs ++ ds) where
  log := by rw [h'.log, h.log, List.append_assoc]
  counts := by
    rw [h'.counts, h.counts, List.countP_append]
    dsimp only
    rw [bumpBy_bumpBy]
  losses := lossesAgree_append h.losses (by
    have hlater := h'.losses
    rw [h.free, show t.backboneRoom = _ from funext h.room] at hlater
    exact hlater)
  free := by rw [h'.free, h.free, List.countP_append, Nat.sub_add_eq]
  room x := by rw [h'.room, h.room, List.countP_append, Nat.sub_add_eq]
  wf := h'.wf
  holds port frame hf := h'.holds port frame (h.holds port frame hf)
  cu := h'.cu.trans h.cu
  me := h.me.trans h'.me

/-- What stays of the part where only the record and the entries of stations with a notice change after a composed frame. -/
theorem one {side : Side} {reset : Bool} {frame : State → Bytes} {c : Composed} (h : s.ComposedOne t side reset frame c.isLost)
    (hside : c.side = side) (hev : u.ev = { t.ev with composed := t.ev.composed ++ [c] }) (hfs : u.fs = t.fs) (hcu : u.cu = t.cu)
    (hme : t.me.Follows u.me [c]) : s.Composes u [c] where
  log := by rw [hev, h.log]
  counts := by
    rw [hfs, h.counts, List.countP_singleton]
    cases c.isLost <;> rfl
  losses := lossesAgree_singleton (by rw [hside]; exact h.fate)
  free := by
    have hfree : u.freeSlots = t.freeSlots := by rw [State.freeSlots, State.freeSlots, hfs]
    rw [hfree, h.free, List.countP_singleton]
    cases c.isLost <;> rfl
  room x := by
    have hroom : u.backboneRoom x = t.backboneRoom x := State.backboneRoom_congr hcu (by rw [State.queue_eq_of_fs hfs])
    rw [hroom, h.room, List.countP_singleton, hside]
    cases (!c.isLost && side == x) <;> rfl
  wf := by rw [hfs]; exact h.wf
  holds port bytes hb := (h.holds port bytes hb).of_fs (by rw [hfs]) fun p => by rw [State.queue_eq_of_fs hfs]
  cu := hcu.trans h.cu
  me := by
    refine Engine.Follows.trans (cs := []) ?_ hme
    rw [h.me]
    split
    · exact .refl _ _
    · exact .lowWater s _ _

end State.Composes

/-! ### Responses -/

section Responses

variable {s : State}

theorem State.sendResponse_composes (hw : s.fs.slots.wf = true) (r : Response) :
    ∃ lost, s.Composes (s.sendResponse r) [.response r (s.responseSide r) lost]
      ∧ (lost = false → (s.sendResponse r).Holds (.backbone (s.responseSide r)) (responseFrame r s)) := by
  have hone := State.compose_composed (s := s) (s.responseSide r) r.isReset (responseFrame r) hw
  refine ⟨_, .one (u := s.sendResponse r) (c := .response r (s.responseSide r) (s.compose (s.responseSide r) r.isReset
    (responseFrame r)).2) hone rfl rfl rfl rfl (.refl _ _), fun hlost => ?_⟩
  have hheld := hone.kept hlost
  have hframe : responseFrame r (s.lowWater (s.freeSlots - 1)) = responseFrame r s := by
    unfold responseFrame
    rw [(Engine.Follows.lowWater s (s.freeSlots - 1) []).addressing]
    simp
  rw [hframe] at hheld
  exact hheld.of_fs rfl fun p => rfl

/-- The frame of a response and its port are those of any state that composed frames bring the part to. -/
theorem State.Composes.responseFrame {t : State} {cs : List Composed} (h : s.Composes t cs) (r : Response) :
    Sys2Proof.Machine.responseFrame r t = Sys2Proof.Machine.responseFrame r s := by
  unfold Sys2Proof.Machine.responseFrame
  rw [h.me.addressing, h.cu]

/-- Responses composed in their order (R191). -/
theorem State.foldl_sendResponse (rs : List Response) {s : State} (hw : s.fs.slots.wf = true) :
    ∃ lost : List Bool, lost.length = rs.length
      ∧ s.Composes (rs.foldl (fun t r => t.sendResponse r) s) (List.zipWith (fun r l => .response r (s.responseSide r) l) rs lost)
      ∧ ∀ r, (r, false) ∈ rs.zip lost →
        (rs.foldl (fun t r => t.sendResponse r) s).Holds (.backbone (s.responseSide r)) (Sys2Proof.Machine.responseFrame r s) := by
  induction rs generalizing s with
  | nil => exact ⟨[], rfl, .nil hw, fun r h => by simp at h⟩
  | cons r rest ih =>
    obtain ⟨first, hfirst, hheld⟩ := State.sendResponse_composes hw r
    obtain ⟨lost, hlen, hrest, hholds⟩ := ih hfirst.wf
    have hside := hfirst.me.responseSide
    refine ⟨first :: lost, congrArg Nat.succ hlen, ?_, fun q hq => ?_⟩
    · simp only [hside] at hrest
      exact hfirst.append hrest
    · rw [List.zip_cons_cons, List.mem_cons] at hq
      rcases hq with hq | hq
      · obtain ⟨rfl, hl⟩ := Prod.mk.inj hq
        exact hrest.holds _ _ (hheld hl.symm)
      · rw [← hside q, ← hfirst.responseFrame q]
        exact hholds q hq

end Responses

/-! ### Notices -/

section Notices

variable {s : State}

theorem State.stationAt_onStation_self (s : State) {x : Addr} {st : Station} (f : Station → Station) (hf : (f st).addr = st.addr)
    (h : s.stationAt x = some st) : (s.onStation x f).stationAt x = some (f st) := by
  unfold State.stationAt at h ⊢
  change ((s.me.stations.map fun st => if st.addr = x then f st else st).find? _) = _
  generalize s.me.stations = l at h ⊢
  induction l with
  | nil => cases h
  | cons y rest ih =>
    rw [List.find?_cons] at h
    rw [List.map_cons, List.find?_cons]
    split at h
    · next hy =>
      cases h
      have hyx : st.addr = x := by simpa using hy
      rw [if_pos hyx, hf, hy]
    · next hy =>
      have hyx : y.addr ≠ x := by simpa using hy
      rw [if_neg hyx, beq_eq_false_iff_ne.2 hyx]
      exact ih h

/-- A notice composed for the station of an entry (R203). -/
theorem State.sendNotice_composes (hw : s.fs.slots.wf = true) (hold : Bool) (st : Station) :
    ∃ pending lost, s.Composes (s.sendNotice hold st) [.notice st.addr st.side hold st.number s.cu.epoch pending lost]
      ∧ ∀ now, s.stationAt st.addr = some now → (∀ c ∈ now.pending, c ∈ pending)
        ∧ (∃ e, (s.sendNotice hold st).stationAt st.addr = some e ∧ e.number = now.number + 1
            ∧ (hold = false → e.spacing = some 20))
        ∧ (lost = false → (s.sendNotice hold st).Holds (.backbone st.side)
            (managementFrame now.addr s.me.addressing.cabinet noticeKind noticeCode 0 (if hold then 1 else 0) now.number s.cu.epoch
              (beBytes 2 (causeSetNat pending)))) := by
  have hone := State.compose_composed (s := s) st.side false (noticeFrame st hold) hw
  have hcu : (s.compose st.side false (noticeFrame st hold)).1.cu = s.cu := hone.cu
  refine ⟨((((s.compose st.side false (noticeFrame st hold)).1.stationAt st.addr).map Station.pending).getD []), _,
    .one (u := s.sendNotice hold st) (c := .notice st.addr st.side hold st.number s.cu.epoch _ _) hone rfl rfl rfl rfl ?_,
    fun now hnow => ?_⟩
  · refine ⟨rfl, rfl, _, rfl, fun y => ?_⟩
    split
    · next hy => exact ⟨y.noticed_follows hold, fun hcs => absurd (congrArg some hy.symm) (hcs _ (List.mem_singleton_self _))⟩
    · exact ⟨.refl y, fun _ => .refl y⟩
  · have hfollows : s.me.Follows (s.compose st.side false (noticeFrame st hold)).1.me [] := by
      rw [hone.me]
      split
      · exact .refl _ _
      · exact .lowWater s _ _
    obtain ⟨e, he, hf, hun⟩ := hfollows.stationAt hnow
    have hunnoticed := hun fun c hc => by cases hc
    refine ⟨?_, ⟨e.noticed hold, ?_, ?_, fun hh => ?_⟩, fun hlost => ?_⟩
    · rw [he]
      exact hf.pending
    · exact State.stationAt_onStation_self _ _ (e.noticed_follows hold).addr he
    · rw [← hunnoticed.number]
      unfold Station.noticed
      split <;> rfl
    · rw [hh]
      rfl
    · have hheld := hone.kept hlost
      have hfree : s.freeSlots ≠ 0 := by
        intro h0
        have hfate := hone.fate
        rw [hlost, h0] at hfate
        simp at hfate
      have hme := hone.me
      rw [if_neg hfree] at hme
      have hat : (s.lowWater (s.freeSlots - 1)).stationAt st.addr = some e := by
        rw [← he, State.stationAt, State.stationAt, hme]
      have hframe : noticeFrame st hold (s.lowWater (s.freeSlots - 1)) = managementFrame now.addr s.me.addressing.cabinet noticeKind
          noticeCode 0 (if hold then 1 else 0) now.number s.cu.epoch (beBytes 2 (causeSetNat e.pending)) := by
        unfold noticeFrame
        rw [hat]
        dsimp only
        rw [(Engine.Follows.lowWater s (s.freeSlots - 1) []).addressing, hf.addr, hunnoticed.number]
        simp
      rw [hframe] at hheld
      rw [he]
      exact hheld.of_fs rfl fun p => rfl

end Notices

end Sys2Proof.Machine
end

section
/-! SUPPORT. The end of an event that brings no reset: the ordinary notices, the slot in hand, the pages, and what each leaves alone
(R49, R170, R191, R202). -/

namespace Sys2Proof.Machine

/-! ### Ordinary notices -/

theorem countP_lt_of_mem {α : Type} {p q : α → Bool} {l : List α} {x : α} (hx : x ∈ l) (hp : p x = true) (hq : q x = false)
    (h : ∀ y ∈ l, q y = true → p y = true) : l.countP q < l.countP p := by
  obtain ⟨before, after, rfl⟩ := List.append_of_mem hx
  have hbefore := List.countP_mono_left (l := before) (p := q) (q := p) fun y hy => h y (List.mem_append_left _ hy)
  have hafter := List.countP_mono_left (l := after) (p := q) (q := p) fun y hy =>
    h y (List.mem_append_right _ (List.mem_cons_of_mem _ hy))
  rw [List.countP_append, List.countP_append, List.countP_cons, List.countP_cons, hp, hq]
  simp only [Bool.false_eq_true, ite_true, ite_false]
  omega

/-- The addresses of the Station Table are distinct (R192). -/
def State.StationsApart (s : State) : Prop := (s.me.stations.map Station.addr).Nodup

theorem State.StationsApart.stationAt {s : State} (h : s.StationsApart) {st : Station} (hst : st ∈ s.me.stations) :
    s.stationAt st.addr = some st := by
  cases hat : s.stationAt st.addr with
  | none => exact absurd rfl (State.stationAt_eq_none_iff.1 hat st hst)
  | some st' =>
    obtain ⟨hmem, haddr⟩ := State.stationAt_some hat
    rw [List.inj_on_of_nodup_map h hmem hst haddr]

theorem Engine.Follows.apart {s t : State} {cs : List Composed} (h : s.me.Follows t.me cs) (ha : s.StationsApart) :
    t.StationsApart := by
  obtain ⟨g, hmap, hg⟩ := h.stations
  rw [State.StationsApart, hmap, List.map_map]
  have haddr : (Station.addr ∘ g) = Station.addr := funext fun st => (hg st).1.addr
  rw [haddr]
  exact ha

/-- The entries to which a notice could go (R202). -/
def State.idleStations (s : State) : Nat := s.me.stations.countP fun st => st.spacing.isNone

theorem State.nextDue_some {s : State} {st : Station} (h : s.nextDue = some st) :
    st ∈ s.me.stations ∧ st.due = true ∧ st.spacing = none := by
  have hfound : (st.due && st.spacing.isNone) = true := List.find?_some (p := fun st : Station => st.due && st.spacing.isNone) h
  obtain ⟨hdue, hnone⟩ := Bool.and_eq_true_iff.1 hfound
  exact ⟨List.mem_of_find?_eq_some h, hdue, Option.isNone_iff_eq_none.1 hnone⟩

theorem State.nextDue_eq_none {s : State} : s.nextDue = none ↔ ∀ st ∈ s.me.stations, st.due = true → st.spacing ≠ none := by
  simp [State.nextDue]

/-- A notice to an entry whose spacing timer is stopped leaves fewer of them (R203). -/
theorem State.Composes.idleStations_lt {s t : State} {pending : List Cause} {lost : Bool} {st : Station} {side : Side} {number : Half}
    {epoch : Half} (h : s.Composes t [.notice st.addr side false number epoch pending lost]) (ha : s.StationsApart)
    (hst : st ∈ s.me.stations) (hnone : st.spacing = none) {e : Station} (he : t.stationAt st.addr = some e)
    (hset : e.spacing = some 20) : t.idleStations < s.idleStations := by
  obtain ⟨g, hmap, hg⟩ := h.me.stations
  have happly : ∀ y ∈ s.me.stations, t.stationAt y.addr = some (g y) := fun y hy => by
    have hat := (h.me.apart ha).stationAt (st := g y) (by rw [hmap]; exact List.mem_map_of_mem hy)
    rwa [(hg y).1.addr] at hat
  have hgst : g st = e := Option.some.inj ((happly st hst).symm.trans he)
  rw [State.idleStations, State.idleStations, hmap, List.countP_map]
  refine countP_lt_of_mem hst (by rw [hnone]; rfl) (by rw [Function.comp_apply, hgst, hset]; rfl) fun y hy hq => ?_
  by_cases hy' : y.addr = st.addr
  · rw [List.inj_on_of_nodup_map ha hy hst hy', hnone]
    rfl
  · have hun := (hg y).2 fun c hc => by
      rw [List.mem_singleton.1 hc]
      exact fun heq => hy' (Option.some.inj heq).symm
    rw [← hun.spacing]
    exact hq

/-- The entry of a station whose spacing timer runs has no ordinary notice (R202). -/
theorem State.ordinaryNotices_spaced (n : Nat) {s : State} (hw : s.fs.slots.wf = true) (ha : s.StationsApart) {x : Addr}
    {st : Station} (hst : s.stationAt x = some st) (hspaced : st.spacing ≠ none) :
    ∃ e, (s.ordinaryNotices n).stationAt x = some e ∧ e.number = st.number ∧ e.spacing = st.spacing := by
  induction n generalizing s st with
  | zero => exact ⟨st, hst, rfl, rfl⟩
  | succ n ih =>
    unfold State.ordinaryNotices
    split
    · exact ⟨st, hst, rfl, rfl⟩
    · next first hnext =>
      obtain ⟨hmem, _, hnone⟩ := State.nextDue_some hnext
      obtain ⟨_, _, hcomposes, _⟩ := State.sendNotice_composes hw false first
      obtain ⟨e, he, _, hun⟩ := hcomposes.me.stationAt hst
      have hunnoticed := hun fun c hc => by
        rw [List.mem_singleton.1 hc]
        intro heq
        rw [← Option.some.inj heq, ha.stationAt hmem] at hst
        cases hst
        exact hspaced hnone
      obtain ⟨e', he', hnumber, hspacing⟩ := ih hcomposes.wf (hcomposes.me.apart ha) he (by rw [hunnoticed.spacing]; exact hspaced)
      exact ⟨e', he', hnumber.trans hunnoticed.number, hspacing.trans hunnoticed.spacing⟩

/-- What the ordinary notices leave on record (R202, R203). -/
theorem State.ordinaryNotices_composes (n : Nat) {s : State} (hw : s.fs.slots.wf = true) :
    ∃ cs : List Composed, cs.all Composed.isOrdinary = true ∧ s.Composes (s.ordinaryNotices n) cs := by
  induction n generalizing s with
  | zero => exact ⟨[], rfl, .nil hw⟩
  | succ n ih =>
    unfold State.ordinaryNotices
    split
    · exact ⟨[], rfl, .nil hw⟩
    · next st hnext =>
      obtain ⟨_, _, hcomposes, _⟩ := State.sendNotice_composes hw false st
      obtain ⟨cs, hall, hrest⟩ := ih hcomposes.wf
      exact ⟨_, by rw [List.singleton_append, List.all_cons, hall]; rfl, hcomposes.append hrest⟩

/-- With as many turns as there are entries to which one could go, the notices leave no entry due with its spacing timer stopped. -/
theorem State.ordinaryNotices_noneDue {n : Nat} {s : State} (hw : s.fs.slots.wf = true) (ha : s.StationsApart)
    (hn : s.idleStations ≤ n) : (s.ordinaryNotices n).nextDue = none := by
  induction n generalizing s with
  | zero =>
    rw [State.nextDue_eq_none]
    intro st hst _ hnone
    have hpos : 0 < s.idleStations := List.countP_pos_iff.2 ⟨st, hst, by rw [hnone]; rfl⟩
    omega
  | succ n ih =>
    unfold State.ordinaryNotices
    split
    · next hnext => exact hnext
    · next st hnext =>
      obtain ⟨hmem, _, hnone⟩ := State.nextDue_some hnext
      obtain ⟨_, _, hcomposes, hnow⟩ := State.sendNotice_composes hw false st
      obtain ⟨_, ⟨e, he, _, hset⟩, _⟩ := hnow st (ha.stationAt hmem)
      have hlt := hcomposes.idleStations_lt ha hmem hnone he (hset rfl)
      exact ih hcomposes.wf (hcomposes.me.apart ha) (by omega)

/-- What a due station's notice is, `number` being its entry's, `epoch` the epoch and `cabinet` the cabinet address (R203). -/
def State.noticeGoes (t : State) (st : Station) (epoch : Half) (cabinet : Addr) (cs : List Composed) : Prop :=
  ∃ pending lost, Composed.notice st.addr st.side false st.number epoch pending lost ∈ cs ∧ (∀ c, c ∈ st.pending → c ∈ pending)
    ∧ (t.stationAt st.addr).map Station.number = some (st.number + 1)
    ∧ (t.stationAt st.addr).map Station.spacing = some (some 20)
    ∧ (lost = false → t.Holds (.backbone st.side) (managementFrame st.addr cabinet noticeKind noticeCode 0 0 st.number epoch
        (beBytes 2 (causeSetNat pending))))

/-- Every entry that is due with its spacing timer stopped has its notice, when there are turns enough. -/
theorem State.ordinaryNotices_goes {n : Nat} {s : State} (hw : s.fs.slots.wf = true) (ha : s.StationsApart) (hn : s.idleStations ≤ n) :
    ∃ cs : List Composed, cs.all Composed.isOrdinary = true ∧ s.Composes (s.ordinaryNotices n) cs
      ∧ ∀ st ∈ s.me.stations, st.due = true → st.spacing = none →
        (s.ordinaryNotices n).noticeGoes st s.cu.epoch s.me.addressing.cabinet cs := by
  induction n generalizing s with
  | zero =>
    refine ⟨[], rfl, .nil hw, fun st hst _ hnone => ?_⟩
    have hpos : 0 < s.idleStations := List.countP_pos_iff.2 ⟨st, hst, by rw [hnone]; rfl⟩
    omega
  | succ n ih =>
    unfold State.ordinaryNotices
    split
    · next hnext => exact ⟨[], rfl, .nil hw, fun st hst hdue hnone => absurd hnone (State.nextDue_eq_none.1 hnext st hst hdue)⟩
    · next first hnext =>
      obtain ⟨hmem, _, hidle⟩ := State.nextDue_some hnext
      obtain ⟨pending, lost, hcomposes, hnow⟩ := State.sendNotice_composes hw false first
      obtain ⟨hpending, ⟨e, he, hnumber, hset⟩, hheld⟩ := hnow first (ha.stationAt hmem)
      have hspacing := hset rfl
      have hlt := hcomposes.idleStations_lt ha hmem hidle he hspacing
      have ha' := hcomposes.me.apart ha
      obtain ⟨cs, hall, hrest, hgoes⟩ := ih hcomposes.wf ha' (by omega)
      refine ⟨_, by rw [List.singleton_append, List.all_cons, hall]; rfl, hcomposes.append hrest, fun st hst hdue hnone => ?_⟩
      by_cases hx : st.addr = first.addr
      · obtain rfl : st = first := List.inj_on_of_nodup_map ha hst hmem hx
        obtain ⟨e', he', hnumber', hspacing'⟩ := State.ordinaryNotices_spaced n hcomposes.wf ha' he (by rw [hspacing]; simp)
        refine ⟨pending, lost, List.mem_cons_self, hpending, ?_, ?_, fun hl => hrest.holds _ _ (hheld hl)⟩
        · rw [he', Option.map_some, hnumber', hnumber]
        · rw [he', Option.map_some, hspacing', hspacing]
      · obtain ⟨e', he', hf, hun⟩ := hcomposes.me.stationAt (ha.stationAt hst)
        have hunnoticed := hun fun c hc => by
          rw [List.mem_singleton.1 hc]
          exact fun heq => hx (Option.some.inj heq).symm
        have hgo := hgoes e' (State.stationAt_some he').1 (hunnoticed.due hdue) (hunnoticed.spacing.trans hnone)
        rw [State.noticeGoes, hf.addr, hf.side, hunnoticed.number, hcomposes.cu, hcomposes.me.addressing] at hgo
        obtain ⟨pending', lost', hmem', hpending', hnumber', hspacing', hheld'⟩ := hgo
        exact ⟨pending', lost', List.mem_append_right _ hmem', fun c hc => hpending' c (hf.pending c hc), hnumber', hspacing', hheld'⟩

/-! ### Control messages made one after the other -/

/-- Nothing but control messages has been made between two states (R41). -/
structure State.Spoken (s t : State) : Prop where
  slots : t.fs.slots = s.fs.slots
  counts : t.fs.counts = s.fs.counts
  entries : ∀ p, (t.queue p).entries = (s.queue p).entries
  log : t.ev = { s.ev with out := t.ev.out }
  out : s.ev.out ⊆ t.ev.out
  waiting : ∀ p, (s.queue p).waiting ⊆ (t.queue p).waiting

namespace State.Spoken

variable {s t u : State}

theorem refl (s : State) : s.Spoken s := ⟨rfl, rfl, fun _ => rfl, rfl, fun _ h => h, fun _ _ h => h⟩

theorem trans (h : s.Spoken t) (h' : t.Spoken u) : s.Spoken u where
  slots := h'.slots.trans h.slots
  counts := h'.counts.trans h.counts
  entries p := (h'.entries p).trans (h.entries p)
  log := by rw [h'.log, h.log]
  out := fun o ho => h'.out (h.out ho)
  waiting p := fun m hm => h'.waiting p (h.waiting p hm)

theorem of_fs (hfs : t.fs = s.fs) (hev : t.ev = { s.ev with out := t.ev.out }) (hout : t.ev.out = s.ev.out) : s.Spoken t where
  slots := by rw [hfs]
  counts := by rw [hfs]
  entries p := by rw [State.queue_eq_of_fs hfs]
  log := hev
  out := by rw [hout]; exact fun _ h => h
  waiting p := by rw [State.queue_eq_of_fs hfs]; exact fun _ h => h

theorem sendControl (s : State) (port : Port) (m : Control) : s.Spoken (s.sendControl port m) := by
  obtain ⟨hslots, _, hcounts, hqueue⟩ := s.sendControl_fs port m
  obtain ⟨more, hev⟩ := s.sendControl_ev port m
  refine ⟨hslots, hcounts, fun p => by rw [hqueue p], by rw [hev], by rw [hev]; exact List.subset_append_left _ _, fun p => ?_⟩
  unfold State.sendControl
  split
  · exact fun _ h => h
  · split
    · by_cases hp : p = port
      · subst hp
        rw [State.onQueue, State.queue_setQueue_self]
        exact List.subset_append_left _ _
      · rw [State.onQueue, State.queue_setQueue_of_ne _ _ hp]
        exact fun _ h => h
    · rw [State.goOut_queue]
      exact fun _ h => h

theorem foldl {α : Type} {f : State → α → State} (hf : ∀ (t : State) x, t.Spoken (f t x)) (xs : List α) (s : State) :
    s.Spoken (xs.foldl f s) := by
  induction xs generalizing s with
  | nil => exact .refl s
  | cons x rest ih => exact (hf s x).trans (ih _)

theorem freeSlots (h : s.Spoken t) : t.freeSlots = s.freeSlots := by rw [State.freeSlots, State.freeSlots, h.slots]

theorem holds (h : s.Spoken t) {port : Port} {frame : Bytes} (hb : s.Holds port frame) : t.Holds port frame :=
  hb.of_fs h.slots h.entries

theorem noReset (h : s.Spoken t) (hn : s.NoReset) : t.NoReset := by
  refine ⟨?_, by rw [h.slots]; exact hn.2⟩
  rw [h.log]
  exact hn.1

end State.Spoken

/-- A message made on an open port goes out or waits (R41). -/
theorem State.sendControl_made {s : State} {port : Port} {m : Control} {o : Output} (hopen : s.controlOpen port = true)
    (ho : controlOutput s.spb.blink port m = some o) :
    o ∈ (s.sendControl port m).ev.out ∨ m ∈ ((s.sendControl port m).queue port).waiting := by
  unfold State.sendControl
  rw [hopen]
  split
  · next h => simp at h
  · split
    · right
      rw [State.onQueue, State.queue_setQueue_self]
      exact List.mem_append_right _ (List.mem_singleton_self _)
    · left
      rw [(s.goOut_out port m).1, ho]
      exact List.mem_append_right _ (List.mem_singleton_self _)

/-! ### The lamps' sweep -/

theorem State.sweepLamp_spoken (s : State) (p : SeatNo) : s.Spoken (s.sweepLamp p) := by
  have hresolved : s.Spoken (if s.resolveLamp p = (s.seat p).resolved then s
      else s.onSeat p fun x => { x with resolved := s.resolveLamp p }) := by
    split
    · exact .refl s
    · exact .of_fs rfl rfl rfl
  unfold State.sweepLamp
  dsimp only
  split
  · exact hresolved.trans (.sendControl _ _ _)
  · exact hresolved

/-- The sweep makes control messages, and then no trunk is owed its lamps any longer (R135). -/
theorem State.sweepLamps_spoken (s : State) : ∃ t, s.Spoken t ∧ s.sweepLamps = t.onEv fun e => { e with relamp := [] } :=
  ⟨_, .foldl (f := fun (t : State) p => t.sweepLamp p) (fun t p => t.sweepLamp_spoken p) allSeats s, rfl⟩

/-! ### Pages -/

/-- What the fold over the due pages does: control messages on backbone ports. -/
theorem State.makePages_told (sides : List Side) (s : State) :
    s.Spoken (sides.foldl (fun t side => t.makePage side) s) ∧ (sides.foldl (fun t side => t.makePage side) s).spb = s.spb
    ∧ (∀ x, ((sides.foldl (fun t side => t.makePage side) s).side x).unpaged = (s.side x).unpaged)
    ∧ (sides.foldl (fun t side => t.makePage side) s).cu.vehicle = s.cu.vehicle := by
  induction sides generalizing s with
  | nil => exact ⟨.refl s, rfl, fun _ => rfl, rfl⟩
  | cons side rest ih =>
    obtain ⟨hspoken, hspb, hside, hvehicle⟩ := ih (s.makePage side)
    have htold : s.Told (s.makePage side) (.backbone side) := .sendControl s _ _
    exact ⟨(State.Spoken.sendControl s _ _).trans hspoken, hspb.trans (htold.spb fun p h => by cases h),
      fun x => (hside x).trans (htold.side x), hvehicle.trans htold.unit.2.2.1⟩

/-- A port's own page is read of its items and the vehicle number (R170). -/
theorem State.ownPage_congr {s t : State} {side : Side} (hside : (t.side side).unpaged = (s.side side).unpaged)
    (hvehicle : t.cu.vehicle = s.cu.vehicle) : t.ownPage side = s.ownPage side := by
  have hfault := congrArg Backbone.ownFault hside
  have hcount := congrArg Backbone.matchCount hside
  change (t.side side).ownFault = (s.side side).ownFault at hfault
  change (t.side side).matchCount = (s.side side).matchCount at hcount
  rw [State.ownPage, State.ownPage, hfault, hcount, hvehicle]

/-- Every port that owes a page and may page has its page made (R170). -/
theorem State.makePages_made (sides : List Side) (s : State) {side : Side} (hmem : side ∈ sides)
    (hheld : (s.side side).pagingHeld = false) :
    pageMade (sides.foldl (fun t side => t.makePage side) s) side (s.ownPage side) := by
  induction sides generalizing s with
  | nil => cases hmem
  | cons first rest ih =>
    have htold : s.Told (s.makePage first) (.backbone first) := .sendControl s _ _
    obtain ⟨hspoken, _⟩ := State.makePages_told rest (s.makePage first)
    by_cases hx : side = first
    · subst hx
      have hopen : s.controlOpen (.backbone side) = true := by simp [State.controlOpen, hheld]
      rcases State.sendControl_made (m := .page (s.ownPage side)) hopen rfl with hout | hwaits
      · exact Or.inl (hspoken.out hout)
      · exact Or.inr (hspoken.waiting _ hwaits)
    · rcases List.mem_cons.1 hmem with h | h
      · exact absurd h hx
      · have hmade := ih (s.makePage first) h ((htold.pagingHeld side).trans hheld)
        rwa [State.ownPage_congr (htold.side side) htold.unit.2.2.1] at hmade

/-! ### The slot in hand -/

theorem State.Holds.settleInHand {s : State} {port : Port} {frame : Bytes} (h : s.Holds port frame) :
    s.settleInHand.Holds port frame := by
  unfold State.settleInHand State.settle
  split
  · exact h
  · next k _ =>
    split
    · exact h.of_fs rfl fun p => rfl
    · next x hx =>
      split
      · next hrefs =>
        have hfreed := h.freeSlot (k := k) (by rw [State.refsOf_of_get hx]; exact hrefs)
        exact hfreed.of_fs rfl fun p => rfl
      · exact h.of_fs rfl fun p => rfl

theorem State.settleInHand_fsCounts (s : State) : s.settleInHand.fs.counts = s.fs.counts := by
  unfold State.settleInHand State.settle
  split
  · rfl
  · split
    · rfl
    · split
      · exact s.freeSlot_fsCounts _
      · rfl

theorem State.settleInHand_ev (s : State) : s.settleInHand.ev = { s.ev with inHand := none } := by
  unfold State.settleInHand State.settle
  split
  · next h => rw [← h]
  · split
    · rfl
    · split
      · exact congrArg (fun e : EventLog => { e with inHand := none }) (s.freeSlot_keeps _).2.1
      · rfl

/-! ### No reset -/

namespace State.NoReset

variable {s t : State}

theorem of_slots (h : s.NoReset) (hdue : t.ev.resetDue = s.ev.resetDue)
    (hslots : ∀ k x, t.fs.slots.get k = some x → ∃ j y, s.fs.slots.get j = some y ∧ x.resetResponse = y.resetResponse) : t.NoReset :=
  ⟨hdue.trans h.1, fun k x hx => by
    obtain ⟨j, y, hy, heq⟩ := hslots k x hx
    exact heq.trans (h.2 j y hy)⟩

theorem onEv (h : s.NoReset) {f : EventLog → EventLog} (hf : ∀ e, (f e).resetDue = e.resetDue) : (s.onEv f).NoReset :=
  ⟨(hf s.ev).trans h.1, h.2⟩

theorem freeSlot (h : s.NoReset) (k : Nat) : (s.freeSlot k).NoReset := by
  refine h.of_slots (congrArg EventLog.resetDue (s.freeSlot_keeps k).2.1) fun j x hx => ⟨j, x, ?_, rfl⟩
  rw [State.freeSlot_slots, Table.get_del] at hx
  split at hx
  · cases hx
  · exact hx

theorem claimed (h : s.NoReset) {x : Slot} (hx : x.resetResponse = false) (k : Nat) : (s.claimed x k).NoReset := by
  refine ⟨(congrArg EventLog.resetDue (State.claimed_keeps (s := s) x k).2.1).trans h.1, fun j y hy => ?_⟩
  rw [State.claimed_slots, Table.get_put] at hy
  split at hy
  · cases hy
    exact hx
  · exact h.2 j y hy

theorem append (h : s.NoReset) (port : Port) (e : Entry) (looped : Bool) : (s.append port e looped).1.NoReset := by
  refine h.of_slots (by simp) fun j x hx => ?_
  rw [State.append_slots] at hx
  split at hx
  · rw [Table.get_modify] at hx
    split at hx
    · obtain ⟨y, hy, rfl⟩ := Option.map_eq_some_iff.1 hx
      exact ⟨_, y, hy, rfl⟩
    · exact ⟨j, x, hx, rfl⟩
  · exact ⟨j, x, hx, rfl⟩

theorem compose (h : s.NoReset) (side : Side) (frame : State → Bytes) : (s.compose side false frame).1.NoReset := by
  have hlose : ∀ {t : State}, t.NoReset → (t.loseComposed false).NoReset := fun ht =>
    ⟨(Bool.or_false _).trans ht.1, ht.2⟩
  by_cases hfree : s.freeSlots = 0
  · rw [State.compose_no_slot side false frame hfree]
    exact hlose h
  · have happend := (h.claimed (x := s.composedSlot false frame) rfl (s.fs.slots.firstFree 0)).append (.backbone side)
      { slot := s.fs.slots.firstFree 0 } false
    by_cases hroom : s.backboneRoom side = 0
    · rw [State.compose_refused side false frame hfree hroom]
      exact hlose (happend.freeSlot _)
    · rw [State.compose_kept side false frame hfree hroom]
      exact happend

theorem sendNotice (h : s.NoReset) (hold : Bool) (st : Station) : (s.sendNotice hold st).NoReset :=
  h.compose st.side (noticeFrame st hold)

theorem ordinaryNotices (h : s.NoReset) (n : Nat) : (s.ordinaryNotices n).NoReset := by
  induction n generalizing s with
  | zero => exact h
  | succ n ih =>
    unfold State.ordinaryNotices
    split
    · exact h
    · exact ih (h.sendNotice false _)

theorem foldl_sendResponse (rs : List Response) (hr : ∀ r ∈ rs, r.isReset = false) (h : s.NoReset) :
    (rs.foldl (fun t r => t.sendResponse r) s).NoReset := by
  induction rs generalizing s with
  | nil => exact h
  | cons r rest ih =>
    refine ih (fun q hq => hr q (List.mem_cons_of_mem _ hq)) ?_
    have hcomposed := h.compose (s.responseSide r) (Sys2Proof.Machine.responseFrame r)
    rw [← hr r List.mem_cons_self] at hcomposed
    exact hcomposed

theorem settleInHand (h : s.NoReset) : s.settleInHand.NoReset := by
  unfold State.settleInHand State.settle
  split
  · exact h
  · split
    · exact h
    · split
      · exact h.freeSlot _
      · exact h

end State.NoReset

/-! ### The whole end -/

/-- The state when the lamps are resolved and commanded. -/
@[irreducible] def State.lamped (u : State) : State := u.takeVehicle.sweepLamps

/-- The state when the responses are composed. -/
@[irreducible] def State.responded (u : State) : State := u.lamped.sendResponses

/-- The state when the notices are composed too. -/
@[irreducible] def State.notified (u : State) : State := u.responded.ordinaryNotices 4

theorem State.lamped_eq (u : State) : u.lamped = u.takeVehicle.sweepLamps := by
  delta State.lamped
  rfl

theorem State.responded_eq (u : State) : u.responded = u.lamped.sendResponses := by
  delta State.responded
  rfl

theorem State.notified_eq (u : State) : u.notified = u.responded.ordinaryNotices 4 := by
  delta State.notified
  rfl

theorem State.closeEvent_eq (u : State) : u.closeEvent = u.notified.settleInHand.duePages := by
  rw [State.notified_eq, State.responded_eq, State.lamped_eq]
  rfl

theorem State.duePages_spoken (s : State) : (s.onEv fun e => { e with pages := [] }).Spoken s.duePages :=
  (State.makePages_told s.ev.pages _).1

/-- The lamps' sweep leaves the frames, what the event owes but for lamps, and what the coupled set is (R133). -/
theorem State.lamped_keeps (u : State) : u.lamped.fs.slots = u.fs.slots ∧ u.lamped.fs.counts = u.fs.counts
    ∧ (∀ p, (u.lamped.queue p).entries = (u.queue p).entries)
    ∧ u.lamped.ev = { u.ev with out := u.lamped.ev.out, relamp := [] } ∧ u.lamped.me = u.me := by
  obtain ⟨t, hspoken, heq⟩ := u.takeVehicle.sweepLamps_spoken
  have hme : u.lamped.me = u.me := by simp [State.lamped_eq]
  have hfs : u.takeVehicle.fs = u.fs := by simp
  have hev : u.takeVehicle.ev = u.ev := by simp
  have hslots := hspoken.slots
  have hcounts := hspoken.counts
  have hentries := hspoken.entries
  have hlog := hspoken.log
  rw [hfs] at hslots hcounts
  rw [hev] at hlog
  rw [State.queue_eq_of_fs hfs] at hentries
  rw [State.lamped_eq] at hme ⊢
  rw [heq] at hme ⊢
  exact ⟨hslots, hcounts, hentries, congrArg (fun e : EventLog => { e with relamp := [] }) hlog, hme⟩

theorem State.lamped_noReset {u : State} (h : u.noResetComing) : u.lamped.NoReset := by
  obtain ⟨hdue, hslots, _⟩ := h
  obtain ⟨hkept, _, _, hlog, _⟩ := u.lamped_keeps
  refine ⟨by rw [hlog]; exact hdue, fun k x hx => hslots (k, x) (Table.get_mem _ _ _ ?_)⟩
  rw [← hkept]
  exact hx

theorem State.responded_foldl (u : State) : u.responded
    = u.ev.responses.foldl (fun t r => t.sendResponse r) (u.lamped.onEv fun e => { e with responses := [] }) := by
  have hresponses : u.lamped.ev.responses = u.ev.responses := by rw [u.lamped_keeps.2.2.2.1]
  rw [State.responded_eq, State.sendResponses, hresponses]

theorem State.notified_noReset {u : State} (h : u.noResetComing) : u.notified.NoReset := by
  have hlamped := State.lamped_noReset h
  rw [State.notified_eq, State.responded_foldl]
  refine State.NoReset.ordinaryNotices ?_ 4
  exact State.NoReset.foldl_sendResponse _ h.2.2 (hlamped.onEv fun _ => rfl)

/-- Where no reset is to come the event just closes (R49). -/
theorem State.endEvent_of_noReset {u : State} (h : u.noResetComing) : u.endEvent = u.notified.settleInHand.duePages := by
  have hsettled := (State.notified_noReset h).settleInHand
  have hclosed : u.notified.settleInHand.duePages.NoReset := (State.duePages_spoken _).noReset (hsettled.onEv fun _ => rfl)
  have hdue := hclosed.1
  rw [← State.closeEvent_eq] at hdue ⊢
  rw [State.endEvent]
  simp [hdue]

end Sys2Proof.Machine
end

section
/-! SUPPORT. What the end of an event leaves of the part, as a whole, and the statements about it (R49, R133, R135, R170, R201 to R203). -/

namespace Sys2Proof.Machine

/-! ### What composing does not touch -/

/-- Nothing has gone out, no page is owed or made, and no queue but a backbone port's is touched. -/
structure State.Unheard (s t : State) : Prop where
  queue : ∀ p, (∀ side, p ≠ .backbone side) → t.queue p = s.queue p
  out : t.ev.out = s.ev.out
  pages : t.ev.pages = s.ev.pages

namespace State.Unheard

variable {s t u : State}

theorem refl (s : State) : s.Unheard s := ⟨fun _ _ => rfl, rfl, rfl⟩

theorem trans (h : s.Unheard t) (h' : t.Unheard u) : s.Unheard u :=
  ⟨fun p hp => (h'.queue p hp).trans (h.queue p hp), h'.out.trans h.out, h'.pages.trans h.pages⟩

theorem of_fs (hfs : t.fs = s.fs) (hout : t.ev.out = s.ev.out) (hpages : t.ev.pages = s.ev.pages) : s.Unheard t :=
  ⟨fun p _ => by rw [State.queue_eq_of_fs hfs], hout, hpages⟩

theorem freeSlot (s : State) (k : Nat) : s.Unheard (s.freeSlot k) := by
  have hev := (s.freeSlot_keeps k).2.1
  exact ⟨fun p _ => by rw [State.freeSlot_queue], by rw [hev], by rw [hev]⟩

theorem loseComposed (s : State) (reset : Bool) : s.Unheard (s.loseComposed reset) :=
  ⟨fun p _ => by rcases p with p | c | (_ | _) <;> rfl, rfl, rfl⟩

theorem claimed (s : State) (x : Slot) (k : Nat) : s.Unheard (s.claimed x k) := by
  have hev := (State.claimed_keeps (s := s) x k).2.1
  exact ⟨fun p _ => by rw [State.claimed_queue], by rw [hev], by rw [hev]⟩

theorem append (s : State) (side : Side) (e : Entry) (looped : Bool) : s.Unheard (s.append (.backbone side) e looped).1 :=
  ⟨fun p hp => State.append_queue_of_ne _ _ _ (hp side), by simp, by simp⟩

theorem compose (s : State) (side : Side) (reset : Bool) (frame : State → Bytes) : s.Unheard (s.compose side reset frame).1 := by
  by_cases hfree : s.freeSlots = 0
  · rw [State.compose_no_slot side reset frame hfree]
    exact loseComposed s reset
  · have happend := (claimed s (s.composedSlot reset frame) (s.fs.slots.firstFree 0)).trans
      (append _ side { slot := s.fs.slots.firstFree 0 } false)
    by_cases hroom : s.backboneRoom side = 0
    · rw [State.compose_refused side reset frame hfree hroom]
      exact (happend.trans (freeSlot _ _)).trans (loseComposed _ _)
    · rw [State.compose_kept side reset frame hfree hroom]
      exact happend

theorem sendResponse (s : State) (r : Response) : s.Unheard (s.sendResponse r) :=
  (compose s (s.responseSide r) r.isReset (responseFrame r)).trans (of_fs rfl rfl rfl)

theorem foldl_sendResponse (rs : List Response) (s : State) : s.Unheard (rs.foldl (fun t r => t.sendResponse r) s) := by
  induction rs generalizing s with
  | nil => exact refl s
  | cons r rest ih => exact (sendResponse s r).trans (ih _)

theorem sendNotice (s : State) (hold : Bool) (st : Station) : s.Unheard (s.sendNotice hold st) :=
  (compose s st.side false (noticeFrame st hold)).trans (of_fs rfl rfl rfl)

theorem ordinaryNotices (n : Nat) (s : State) : s.Unheard (s.ordinaryNotices n) := by
  induction n generalizing s with
  | zero => exact refl s
  | succ n ih =>
    unfold State.ordinaryNotices
    split
    · exact refl s
    · exact (sendNotice s false _).trans (ih _)

theorem settleInHand (s : State) : s.Unheard s.settleInHand := by
  unfold State.settleInHand State.settle
  split
  · exact refl s
  · split
    · exact of_fs rfl rfl rfl
    · split
      · exact (freeSlot s _).trans (of_fs rfl rfl rfl)
      · exact of_fs rfl rfl rfl

end State.Unheard

/-! ### From the lamps' sweep to the end -/

theorem State.lamped_cu (u : State) : u.lamped.cu = u.takeVehicle.cu := by
  have hsweep : ∀ (t : State) p, (t.sweepLamp p).cu = t.cu := by
    intro t p
    unfold State.sweepLamp
    dsimp only
    split
    · rw [(State.Told.sendControl _ _ _).cu fun x h => by cases h]
      split <;> rfl
    · split <;> rfl
  rw [State.lamped_eq, State.sweepLamps, State.onEv_cu]
  exact foldl_keeps State.cu hsweep allSeats rfl

theorem State.takeVehicle_side (u : State) (x : Side) : u.takeVehicle.side x = u.side x := by
  unfold State.takeVehicle
  split
  · rfl
  · cases x <;> rfl

theorem State.lamped_side (u : State) (x : Side) : u.lamped.side x = u.side x :=
  (congrFun (State.side_eq_of_cu u.lamped_cu) x).trans (u.takeVehicle_side x)

theorem State.lamped_epoch (u : State) : u.lamped.cu.epoch = u.cu.epoch := by
  rw [u.lamped_cu, State.takeVehicle]
  split <;> rfl

/-- The vehicle number of the settings is taken in an event in which neither port is COUPLED (R184). -/
theorem State.takeVehicle_vehicle (u : State) :
    u.takeVehicle.cu.vehicle = if u.coupled .fore || u.coupled .aft then u.cu.vehicle else u.cu.vehicleSetting := by
  unfold State.takeVehicle
  cases hc : u.coupled .fore || u.coupled .aft with
  | true => rfl
  | false =>
    rw [Bool.false_or, if_neg Bool.false_ne_true]
    split
    · next h => exact beq_iff_eq.1 h
    · rfl

theorem State.notified_unheard (u : State) : u.lamped.Unheard u.notified := by
  have hresponses := State.Unheard.foldl_sendResponse u.ev.responses (u.lamped.onEv fun e => { e with responses := [] })
  rw [← State.responded_foldl] at hresponses
  have hstart : u.lamped.Unheard (u.lamped.onEv fun e => { e with responses := [] }) := .of_fs rfl rfl rfl
  rw [State.notified_eq]
  exact (hstart.trans hresponses).trans (.ordinaryNotices 4 _)

theorem State.settled_unheard (u : State) : u.lamped.Unheard u.notified.settleInHand :=
  u.notified_unheard.trans (.settleInHand _)

theorem State.settled_keeps (u : State) : u.notified.settleInHand.spb = u.lamped.spb ∧ u.notified.settleInHand.cu = u.lamped.cu
    ∧ u.notified.settleInHand.ct = u.ct := by
  have hspb : u.notified.settleInHand.spb = u.lamped.spb := by simp [State.notified_eq, State.responded_eq]
  have hcu : u.notified.settleInHand.cu = u.lamped.cu := by simp [State.notified_eq, State.responded_eq]
  have hct : u.notified.settleInHand.ct = u.lamped.ct := by simp [State.notified_eq, State.responded_eq]
  exact ⟨hspb, hcu, hct.trans (by simp [State.lamped_eq])⟩

theorem State.sendControl_queue_of_ne (s : State) {port other : Port} (m : Control) (h : other ≠ port) :
    (s.sendControl port m).queue other = s.queue other := by
  unfold State.sendControl
  split
  · rfl
  · split
    · rw [State.onQueue, State.queue_setQueue_of_ne _ _ h]
    · rw [State.goOut_queue]

/-- Pages touch no queue but a backbone port's. -/
theorem State.duePages_queue (s : State) (p : SeatNo) : s.duePages.queue (.seat p) = s.queue (.seat p) := by
  have hfold : ∀ (sides : List Side) (t : State), (sides.foldl (fun t side => t.makePage side) t).queue (.seat p) = t.queue (.seat p) := by
    intro sides
    induction sides with
    | nil => exact fun _ => rfl
    | cons side rest ih => exact fun t => (ih _).trans (t.sendControl_queue_of_ne _ (by simp))
  exact hfold s.ev.pages _

theorem State.duePages_told (s : State) : s.duePages.spb = s.spb ∧ (∀ x, (s.duePages.side x).unpaged = (s.side x).unpaged)
    ∧ s.duePages.cu.vehicle = s.cu.vehicle := by
  obtain ⟨_, hspb, hside, hvehicle⟩ := State.makePages_told s.ev.pages (s.onEv fun e => { e with pages := [] })
  exact ⟨hspb, hside, hvehicle⟩

/-- The response to a CABINET_RESET is lost, and the reset due, or it holds a slot that is marked (R49). -/
theorem State.sendResponse_reset (s : State) {r : Response} (hr : r.isReset = true) :
    (s.sendResponse r).ev.resetDue = true ∨ ∃ e ∈ (s.sendResponse r).fs.slots, e.2.resetResponse = true := by
  have hlost : ∀ t : State, (t.loseComposed r.isReset).ev.resetDue = true := fun t => by
    rw [hr]
    exact Bool.or_true _
  change (s.compose (s.responseSide r) r.isReset (responseFrame r)).1.ev.resetDue = true
    ∨ ∃ e ∈ (s.compose (s.responseSide r) r.isReset (responseFrame r)).1.fs.slots, e.2.resetResponse = true
  by_cases hfree : s.freeSlots = 0
  · rw [State.compose_no_slot _ _ _ hfree]
    exact Or.inl (hlost _)
  · by_cases hroom : s.backboneRoom (s.responseSide r) = 0
    · rw [State.compose_refused _ _ _ hfree hroom]
      exact Or.inl (hlost _)
    · rw [State.compose_kept _ _ _ hfree hroom]
      have hclaimed := State.claimed_slots (s := s) (s.composedSlot r.isReset (responseFrame r)) (s.fs.slots.firstFree 0)
      have hslots := State.append_slots (s.claimed (s.composedSlot r.isReset (responseFrame r)) (s.fs.slots.firstFree 0))
        (.backbone (s.responseSide r)) { slot := s.fs.slots.firstFree 0 } false
      rw [hclaimed, Table.modify_put_self] at hslots
      have hmarked : ∃ x, ((s.claimed (s.composedSlot r.isReset (responseFrame r)) (s.fs.slots.firstFree 0)).append
          (.backbone (s.responseSide r)) { slot := s.fs.slots.firstFree 0 } false).1.fs.slots.get (s.fs.slots.firstFree 0) = some x
          ∧ x.resetResponse = r.isReset := by
        rw [hslots]
        split <;> exact ⟨_, Table.get_put_self _ _ _, rfl⟩
      obtain ⟨x, hx, hreset⟩ := hmarked
      exact Or.inr ⟨_, Table.get_mem _ _ _ hx, hreset.trans hr⟩

/-! ### The entries of stations -/

theorem State.stationAt_onStation_of_ne (s : State) {x y : Addr} {f : Station → Station} (hf : ∀ st, (f st).addr = st.addr) (h : y ≠ x) :
    (s.onStation x f).stationAt y = s.stationAt y := by
  unfold State.stationAt
  change ((s.me.stations.map fun st => if st.addr = x then f st else st).find? _) = _
  induction s.me.stations with
  | nil => rfl
  | cons st rest ih =>
    have haddr : (if st.addr = x then f st else st).addr = st.addr := by
      split
      · exact hf st
      · rfl
    rw [List.map_cons, List.find?_cons, List.find?_cons, haddr, ih]
    split
    · next hy => rw [if_neg (fun hx => h ((beq_iff_eq.1 hy).symm.trans hx))]
    · rfl

/-! ### All that is composed -/

/-- What the end of an event composes and leaves, where no reset is to come (R49, R191, R199, R202, R203). -/
theorem State.endEvent_composes {u : State} (h : u.noResetComing) (hi : Inv u) :
    ∃ (lost : List Bool) (notices : List Composed), lost.length = u.ev.responses.length
      ∧ notices.all Composed.isOrdinary = true
      ∧ u.endEvent.ev.composed = u.ev.composed ++ (u.composedResponses lost ++ notices)
      ∧ u.endEvent.fs.counts = { u.fs.counts with
          composedLost := bumpBy u.fs.counts.composedLost ((u.composedResponses lost ++ notices).countP Composed.isLost) }
      ∧ lossesAgree u.freeSlots u.backboneRoom (u.composedResponses lost ++ notices)
      ∧ (∀ r, (r, false) ∈ u.ev.responses.zip lost → u.endEvent.Holds (.backbone (u.responseSide r)) (responseFrame r u))
      ∧ u.endEvent.nextDue = none
      ∧ ∀ st ∈ u.me.stations, st.due = true → st.spacing = none →
          u.endEvent.noticeGoes st u.cu.epoch u.me.addressing.cabinet (u.composedResponses lost ++ notices) := by
  obtain ⟨hslots, hcounts, hentries, hlog, hme⟩ := u.lamped_keeps
  obtain ⟨v, hv⟩ : ∃ v, v = u.lamped.onEv fun e => { e with responses := [] } := ⟨_, rfl⟩
  have hvslots : v.fs.slots = u.fs.slots := by rw [hv]; exact hslots
  have hvme : v.me = u.me := by rw [hv]; exact hme
  have hvepoch : v.cu.epoch = u.cu.epoch := by rw [hv]; exact u.lamped_epoch
  have hvfree : v.freeSlots = u.freeSlots := State.freeSlots_eq_of_slots hvslots
  have hvroom : v.backboneRoom = u.backboneRoom := by
    funext x
    have hside : v.side x = u.side x := by rw [hv]; exact u.lamped_side x
    have hq : (v.queue (.backbone x)).entries = (u.queue (.backbone x)).entries := by rw [hv]; exact hentries _
    rw [State.backboneRoom, State.backboneRoom, State.coupled, State.coupled, hside, hq]
  have hfollows : u.me.Follows v.me [] := by rw [hvme]; exact .refl _ _
  have hframe : ∀ r, responseFrame r v = responseFrame r u := fun r => by rw [responseFrame, responseFrame, hvme, hvepoch]
  have hw : v.fs.slots.wf = true := by rw [hvslots]; exact hi.slots.1
  obtain ⟨lost, hlen, hresponses, hheld⟩ := State.foldl_sendResponse u.ev.responses hw
  have hresponded : u.responded = u.ev.responses.foldl (fun t r => t.sendResponse r) v := by rw [hv]; exact u.responded_foldl
  rw [← hresponded] at hresponses hheld
  have hrepliesEq : List.zipWith (fun r l => Composed.response r (v.responseSide r) l) u.ev.responses lost = u.composedResponses lost := by
    simp only [State.composedResponses, hfollows.responseSide]
  rw [hrepliesEq] at hresponses
  have hapart : u.StationsApart := hi.stations.1.nodup
  have hapart' := hresponses.me.apart (hfollows.apart hapart)
  have hidle : u.responded.idleStations ≤ 4 := by
    obtain ⟨g, hmap, _⟩ := hresponses.me.stations
    have hle : u.responded.idleStations ≤ u.responded.me.stations.length := List.countP_le_length
    rw [hmap, List.length_map, hvme] at hle
    exact hle.trans hi.stations.2.1
  obtain ⟨notices, hall, hnotices, hgoes⟩ := State.ordinaryNotices_goes hresponses.wf hapart' hidle
  have hnone := State.ordinaryNotices_noneDue hresponses.wf hapart' hidle
  have hvcomposed : v.ev.composed = u.ev.composed := by rw [hv]; exact (congrArg EventLog.composed hlog :)
  have hvcounts : v.fs.counts = u.fs.counts := by rw [hv]; exact hcounts
  clear hv hslots hcounts hentries hlog hme hresponded
  rw [← State.notified_eq] at hnotices hgoes hnone
  have hwhole : v.Composes u.notified (u.composedResponses lost ++ notices) := hresponses.append hnotices
  have hend := State.endEvent_of_noReset h
  generalize u.notified = w at *
  generalize u.responded = x at *
  generalize u.endEvent = e at *
  have hspoken := State.duePages_spoken w.settleInHand
  have hevEnd : e.ev.composed = w.ev.composed := by
    have hpages := congrArg EventLog.composed hspoken.log
    rw [← hend] at hpages
    exact hpages.trans (congrArg EventLog.composed w.settleInHand_ev :)
  have hcountsEnd : e.fs.counts = w.fs.counts := by
    have hpages := hspoken.counts
    rw [← hend] at hpages
    exact hpages.trans w.settleInHand_fsCounts
  have hmeEnd : e.me = w.me := by rw [hend]; simp
  have hholdsEnd : ∀ port frame, w.Holds port frame → e.Holds port frame := fun port frame hb => by
    rw [hend]
    exact hspoken.holds (hb.settleInHand.of_fs rfl fun p => rfl)
  refine ⟨lost, notices, hlen, hall, ?_, ?_, ?_, fun r hr => ?_, ?_, fun st hst hdue hnone' => ?_⟩
  · rw [hevEnd, hwhole.log, hvcomposed]
  · rw [hcountsEnd, hwhole.counts, hvcounts]
  · rw [← hvfree, ← hvroom]
    exact hwhole.losses
  · have hb := hheld r hr
    rw [hfollows.responseSide, hframe] at hb
    exact hholdsEnd _ _ (hnotices.holds _ _ hb)
  · rw [State.nextDue, hmeEnd]
    exact hnone
  · rw [← hvme] at hst
    obtain ⟨g, hmap, hg⟩ := hresponses.me.stations
    obtain ⟨hf, hun⟩ := hg st
    have hunnoticed := hun fun c hc => by
      rw [State.composedResponses] at hc
      obtain ⟨i, hi', hci⟩ := List.mem_iff_getElem.1 hc
      rw [List.getElem_zipWith] at hci
      rw [← hci]
      exact fun hn => by cases hn
    have hgo := hgoes (g st) (by rw [hmap]; exact List.mem_map_of_mem hst) (hunnoticed.due hdue) (hunnoticed.spacing.trans hnone')
    rw [State.noticeGoes, hf.addr, hf.side, hunnoticed.number, hresponses.cu, hresponses.me.addressing, hvepoch, hvme] at hgo
    obtain ⟨pending, l, hmem, hpending, hnumber, hspacing, hheldNotice⟩ := hgo
    have hat : e.stationAt st.addr = w.stationAt st.addr := by rw [State.stationAt, hmeEnd]; rfl
    refine ⟨pending, l, List.mem_append_right _ hmem, fun c hc => hpending c (hf.pending c hc), ?_, ?_,
      fun hl => hholdsEnd _ _ (hheldNotice hl)⟩
    · rw [hat]; exact hnumber
    · rw [hat]; exact hspacing

/-- A page that is owed is made (R170). -/
theorem State.endEvent_pages {u : State} (hend : u.endEvent = u.notified.settleInHand.duePages) {side : Side} (hmem : side ∈ u.ev.pages)
    (hheld : (u.side side).pagingHeld = false) : pageMade u.endEvent side (u.endEvent.ownPage side) := by
  rw [hend]
  have hpages : u.notified.settleInHand.ev.pages = u.ev.pages := by
    rw [u.settled_unheard.pages, u.lamped_keeps.2.2.2.1]
  have hside : u.notified.settleInHand.side side = u.side side :=
    (congrFun (State.side_eq_of_cu u.settled_keeps.2.1) side).trans (u.lamped_side side)
  obtain ⟨_, htold, hvehicle⟩ := u.notified.settleInHand.duePages_told
  rw [State.ownPage_congr (htold side) hvehicle]
  have hmade := State.makePages_made u.notified.settleInHand.ev.pages (u.notified.settleInHand.onEv fun e => { e with pages := [] })
    (side := side) (by rw [hpages]; exact hmem) (by change (u.notified.settleInHand.side side).pagingHeld = false; rw [hside]; exact hheld)
  exact hmade

end Sys2Proof.Machine

namespace Sys2Proof.Proofs

open Sys2Proof.Machine

/-- Settles O3: the end of an event is the lamps' sweep, the responses, the ordinary notices, the slot in hand and the pages. -/
theorem endOfEventLeavesOwners : Obligations.EndOfEventLeavesOwners := by
  unfold Obligations.EndOfEventLeavesOwners
  intro u h
  have hclose : u.endEvent = u.closeEvent := (State.endEvent_of_noReset h).trans u.closeEvent_eq.symm
  refine ⟨?_, by rw [hclose]; simp, by rw [hclose]; simp, by rw [hclose]; simp, fun hi => ?_,
    fun side hmem hheld => State.endEvent_pages (State.endEvent_of_noReset h) hmem hheld⟩
  · rw [hclose]
    simp [State.sameOwners]
  · obtain ⟨lost, notices, hlen, hall, hcomposed, hcounts, hlosses, hheld, _⟩ := State.endEvent_composes h hi
    refine ⟨lost, notices, hlen, by rw [hcomposed, List.append_assoc], hall, hcounts, fun r hr => (hheld r hr).queued,
      fun r rest hr => ?_, hlosses⟩
    rw [hr] at hlen
    obtain ⟨first, more, rfl⟩ := List.exists_cons_of_length_eq_add_one hlen
    rw [State.composedResponses, hr, List.zipWith_cons_cons, List.cons_append] at hlosses
    have hfirst := lossesAgree_first hlosses
    change first = _ at hfirst
    have hroom : decide (u.backboneRoom (u.responseSide r) = 0) = (u.appendTest (.backbone (u.responseSide r)) false).isSome := by
      rw [Bool.eq_iff_iff, decide_eq_true_iff, Option.isSome_iff_ne_none, ne_eq, State.appendTest_backbone, not_not]
    rw [List.head?_cons, hfirst, ← hroom]
    rfl

/-- Settles O50: an entry is due after a raise by its level, and the notices at the end of an event go to all that are due. -/
theorem noticesGoOut : Obligations.NoticesGoOut := by
  unfold Obligations.NoticesGoOut
  refine ⟨fun s c => ⟨s.raised_raise_same c, ?_, ?_⟩, ?_, fun u hi h st hst hdue => ?_, fun u hi h => ?_⟩
  · change (s.me.stations.map _).map Station.addr = _
    rw [List.map_map]
    exact List.map_congr_left fun st _ => Station.enter_addr _ _ _ _
  · intro e he
    obtain ⟨st, hst, rfl⟩ := List.mem_map.1 he
    refine ⟨st, hst, Station.enter_addr _ _ _ _, ?_, fun d hd => Station.enter_pending hd _ _ _, fun hc => ?_, fun hc => ?_⟩
    · unfold Station.enter
      split
      · next hc => simpa using hc
      · exact mem_addCause.2 (Or.inl rfl)
    · unfold Station.enter
      rw [if_pos (by simpa using hc)]
    · unfold Station.enter
      rw [if_neg (by simpa using hc)]
  · intro s st hi hline hst hspacing
    have hapart : s.StationsApart := hi.stations.1.nodup
    have hat := hapart.stationAt hst
    have hexpiry : s.beginEvent.spacingExpiry st.addr = s.beginEvent.onStation st.addr fun y =>
        { y with spacing := none, due := s.noticeStillDue st } := by
      rw [State.spacingExpiry, show s.beginEvent.stationAt st.addr = some st from hat]
      rfl
    refine ⟨s.beginEvent.spacingExpiry st.addr, ?_, ?_, fun y hy => ?_, ?_⟩
    · exact reaches_eventWhen rfl hline (by simp [State.spacingDue, hat, hspacing, isDue]) rfl
    · rw [hexpiry]
      exact State.stationAt_onStation_self _ _ rfl hat
    · rw [hexpiry]
      exact State.stationAt_onStation_of_ne _ (fun _ => rfl) hy
    · rw [hexpiry]
      simp [State.onlyChanges_iff, State.onStation]
  · obtain ⟨_, _, _, _, _, _, _, _, hnone, _⟩ := State.endEvent_composes h hi
    exact State.nextDue_eq_none.1 hnone st hst hdue
  · obtain ⟨lost, notices, _, _, hcomposed, _, hlosses, _, _, hgoes⟩ := State.endEvent_composes h hi
    refine ⟨_, hcomposed, hlosses, fun st hst hdue hspacing => ?_⟩
    obtain ⟨pending, l, hmem, hpending, hnumber, hset, hheld⟩ := hgoes st hst hdue hspacing
    exact ⟨pending, l, hmem, hpending, hnumber, hset, fun hl => (hheld hl).queued⟩

/-- Settles O54: the response of a CABINET_RESET is marked, and a marked response that leaves the store makes the reset due. -/
theorem cabinetResetFollowsItsResponse : Obligations.CabinetResetFollowsItsResponse := by
  unfold Obligations.CabinetResetFollowsItsResponse
  refine ⟨fun s h ht hcab => ?_, fun s r hr => ?_, fun s k x hx hreset hrefs => ?_, fun u h => ?_⟩
  · obtain ⟨t, ht, hserved⟩ := served_answered (q := .cabinetReset) ht rfl hcab rfl
    obtain ⟨v, hv, hs, hanswers⟩ := hserved t .ok [] rfl ht.responses fun _ => rfl
    refine ⟨v, hs, hanswers, ?_⟩
    rw [hv]
    exact (ht.requestOnly _).respond _ _ _ _
  · exact s.sendResponse_reset hr
  · rw [State.dropRef, hx]
    dsimp only
    rw [if_pos hrefs]
    exact Bool.or_eq_true_iff.2 (Or.inr hreset)
  · rw [State.endEvent_of_noReset h, (State.duePages_told _).2.2, u.settled_keeps.2.1, u.lamped_cu, u.takeVehicle_vehicle]

end Sys2Proof.Proofs
end

section
/-! SUPPORT. The lamps' sweep, seat by seat, and what an event's end leaves of the lamps (R133, R135). -/

namespace Sys2Proof.Machine

/-- A seat's resolved output is read of the seat, of what the trunks' block has for all seats, and of the Client Table. -/
theorem State.resolveLamp_congr {s t : State} {p : SeatNo} (hforce : (t.seat p).force = (s.seat p).force)
    (hup : (t.seat p).up = (s.seat p).up) (hactivity : (t.seat p).activity = (s.seat p).activity)
    (hmark : (t.seat p).barredMark = (s.seat p).barredMark) (hrules : t.spb.rules = s.spb.rules)
    (hbright : t.spb.brightness = s.spb.brightness) (hct : t.ct = s.ct) : t.resolveLamp p = s.resolveLamp p := by
  have hoccupant : t.occupant p = s.occupant p := by
    rw [State.occupant, State.occupant, State.atPlace, State.atPlace, State.findRecord, State.findRecord, hct]
  rw [State.resolveLamp, State.resolveLamp, State.lampConditions, State.lampConditions, hforce, hup, hactivity, hmark, hrules, hbright,
    hoccupant]

theorem State.resolveLamp_eq_of_spb {s t : State} (hspb : t.spb = s.spb) (hct : t.ct = s.ct) (p : SeatNo) :
    t.resolveLamp p = s.resolveLamp p := by
  have hseat := congrFun (State.seat_eq_of_spb hspb) p
  exact State.resolveLamp_congr (by rw [hseat]) (by rw [hseat]) (by rw [hseat]) (by rw [hseat]) (by rw [hspb]) (by rw [hspb]) hct

/-- What the resolving of lamps leaves of a state, `swept` telling the seats whose lamps it has resolved. -/
structure State.Swept (s t : State) (swept : List SeatNo) : Prop where
  spoken : s.Spoken t
  resolve : ∀ p, t.resolveLamp p = s.resolveLamp p
  trunk : t.trunk = s.trunk
  relamp : t.ev.relamp = s.ev.relamp
  blink : t.spb.blink = s.spb.blink
  resolved : ∀ p ∈ swept, (t.seat p).resolved = s.resolveLamp p
  made : ∀ p ∈ swept, s.lampDue p = true → lampMade t p (s.resolveLamp p)
  quiet : ∀ p ∈ swept, s.lampDue p = false → t.queue (.seat p) = s.queue (.seat p)
    ∧ (t.seat p).lastCommanded = (s.seat p).lastCommanded ∧ (t.seat p).counts = (s.seat p).counts
  rest : ∀ p, p ∉ swept → t.seat p = s.seat p ∧ t.queue (.seat p) = s.queue (.seat p)

/-- The state with one seat's output resolved and no command made. -/
def State.lampResolved (s : State) (p : SeatNo) : State :=
  if s.resolveLamp p = (s.seat p).resolved then s else s.onSeat p fun x => { x with resolved := s.resolveLamp p }

theorem State.lampResolved_seat (s : State) (p q : SeatNo) :
    (s.lampResolved p).seat q = if q = p then { s.seat p with resolved := s.resolveLamp p } else s.seat q := by
  unfold State.lampResolved
  split
  · next h =>
    split
    · next hq => rw [hq, h]
    · rfl
  · rw [State.seat_onSeat]
    split
    · next hq => rw [hq]
    · rfl

theorem State.lampResolved_keeps (s : State) (p : SeatNo) : (s.lampResolved p).trunk = s.trunk ∧ (s.lampResolved p).fs = s.fs
    ∧ (s.lampResolved p).ev = s.ev ∧ (s.lampResolved p).ct = s.ct ∧ (s.lampResolved p).spb.rules = s.spb.rules
    ∧ (s.lampResolved p).spb.brightness = s.spb.brightness ∧ (s.lampResolved p).spb.blink = s.spb.blink := by
  unfold State.lampResolved
  split
  · exact ⟨rfl, rfl, rfl, rfl, rfl, rfl, rfl⟩
  · exact ⟨funext (s.trunk_onSeat p _), rfl, rfl, rfl, rfl, rfl, rfl⟩

theorem State.lampResolved_resolveLamp (s : State) (p q : SeatNo) : (s.lampResolved p).resolveLamp q = s.resolveLamp q := by
  obtain ⟨_, _, _, hct, hrules, hbright, _⟩ := s.lampResolved_keeps p
  have hseat := s.lampResolved_seat p q
  refine State.resolveLamp_congr ?_ ?_ ?_ ?_ hrules hbright hct <;>
  · rw [hseat]
    split
    · next h => rw [h]
    · rfl

theorem State.sweepLamp_eq (s : State) (p : SeatNo) : s.sweepLamp p
    = if s.lampDue p then (s.lampResolved p).sendControl (.seat p) (.lamp (s.resolveLamp p)) else s.lampResolved p := rfl

/-- The lamp commands of one port leave what every lamp resolves to. -/
theorem State.Told.resolveLamp {s t : State} {port : Port} (h : s.Told t port) (hct : t.ct = s.ct) (q : SeatNo) :
    t.resolveLamp q = s.resolveLamp q := by
  have hforce := congrArg Seat.force (h.seat q)
  have hactivity := congrArg Seat.activity (h.seat q)
  have hmark := congrArg Seat.barredMark (h.seat q)
  exact State.resolveLamp_congr hforce (h.up q) hactivity hmark h.lamps.1 h.lamps.2.1 hct

theorem State.Told.resolved {s t : State} {port : Port} (h : s.Told t port) (q : SeatNo) :
    (t.seat q).resolved = (s.seat q).resolved :=
  have hseat := congrArg Seat.resolved (h.seat q)
  hseat

theorem State.Spoken.relamp {s t : State} (h : s.Spoken t) : t.ev.relamp = s.ev.relamp :=
  (congrArg EventLog.relamp h.log :)

/-- The resolving of one seat's lamp (R133, R135). -/
theorem State.sweepLamp_swept (s : State) (p : SeatNo) : s.Swept (s.sweepLamp p) [p] := by
  obtain ⟨htrunk, hfs, hev, hct, _, _, hblink⟩ := s.lampResolved_keeps p
  have hseat := s.lampResolved_seat p
  have hresolve := s.lampResolved_resolveLamp p
  have hspoken := s.sweepLamp_spoken p
  rw [State.sweepLamp_eq] at hspoken ⊢
  by_cases hdue : s.lampDue p = true
  · rw [if_pos hdue] at hspoken ⊢
    have htold : (s.lampResolved p).Told ((s.lampResolved p).sendControl (.seat p) (.lamp (s.resolveLamp p))) (.seat p) := .sendControl _ _ _
    have hopen : (s.lampResolved p).controlOpen (.seat p) = true := by
      rw [State.controlOpen, htrunk]
      exact (Bool.and_eq_true_iff.1 hdue).1
    have hmade := State.sendControl_made (m := .lamp (s.resolveLamp p)) hopen rfl
    exact {
      spoken := hspoken
      resolve := fun q => (htold.resolveLamp (by simp) q).trans (hresolve q)
      trunk := htold.trunk.trans htrunk
      relamp := hspoken.relamp
      blink := htold.lamps.2.2.2.trans hblink
      resolved := fun q hq => by
        obtain rfl := List.mem_singleton.1 hq
        rw [htold.resolved, hseat, if_pos rfl]
      made := fun q hq _ => by
        obtain rfl := List.mem_singleton.1 hq
        rw [lampMade, htold.lamps.2.2.2]
        exact hmade
      quiet := fun q hq hnot => by
        obtain rfl := List.mem_singleton.1 hq
        rw [hdue] at hnot
        cases hnot
      rest := fun q hq => by
        have hne : q ≠ p := fun h => hq (List.mem_singleton.2 h)
        rw [htold.seats q (fun h => hne (Port.seat.inj h).symm), hseat, if_neg hne,
          State.sendControl_queue_of_ne _ _ (fun h => hne (Port.seat.inj h)), State.queue_eq_of_fs hfs]
        exact ⟨rfl, rfl⟩ }
  · rw [if_neg hdue] at hspoken ⊢
    exact {
      spoken := hspoken
      resolve := hresolve
      trunk := htrunk
      relamp := by rw [hev]
      blink := hblink
      resolved := fun q hq => by
        obtain rfl := List.mem_singleton.1 hq
        rw [hseat, if_pos rfl]
      made := fun q hq hyes => by
        obtain rfl := List.mem_singleton.1 hq
        exact absurd hyes hdue
      quiet := fun q hq _ => by
        obtain rfl := List.mem_singleton.1 hq
        rw [State.queue_eq_of_fs hfs, hseat, if_pos rfl]
        exact ⟨rfl, rfl, rfl⟩
      rest := fun q hq => by
        rw [hseat, if_neg fun h => hq (List.mem_singleton.2 h), State.queue_eq_of_fs hfs]
        exact ⟨rfl, rfl⟩ }

theorem State.Swept.lampDue {s t : State} {swept : List SeatNo} (h : s.Swept t swept) {q : SeatNo} (hq : q ∉ swept) :
    t.lampDue q = s.lampDue q := by
  rw [State.lampDue, State.lampDue, h.trunk, h.resolve, (h.rest q hq).1, h.relamp]

theorem State.Swept.cons {s t u : State} {p : SeatNo} {rest : List SeatNo} (h : s.Swept t [p]) (h' : t.Swept u rest) (hp : p ∉ rest) :
    s.Swept u (p :: rest) where
  spoken := h.spoken.trans h'.spoken
  resolve q := (h'.resolve q).trans (h.resolve q)
  trunk := h'.trunk.trans h.trunk
  relamp := h'.relamp.trans h.relamp
  blink := h'.blink.trans h.blink
  resolved q hq := by
    rcases List.mem_cons.1 hq with rfl | hq
    · rw [(h'.rest q hp).1]
      exact h.resolved q (List.mem_singleton_self q)
    · rw [h'.resolved q hq, h.resolve]
  made q hq hdue := by
    rcases List.mem_cons.1 hq with rfl | hq
    · have hmade := h.made q (List.mem_singleton_self q) hdue
      rw [lampMade, h'.blink]
      exact hmade.imp (fun ho => h'.spoken.out ho) fun hw => h'.spoken.waiting _ hw
    · have hne : q ∉ [p] := fun h => hp (List.mem_singleton.1 h ▸ hq)
      rw [← h.resolve]
      exact h'.made q hq ((h.lampDue hne).trans hdue)
  quiet q hq hdue := by
    rcases List.mem_cons.1 hq with rfl | hq
    · rw [(h'.rest q hp).1, (h'.rest q hp).2]
      exact h.quiet q (List.mem_singleton_self q) hdue
    · have hne : q ∉ [p] := fun h => hp (List.mem_singleton.1 h ▸ hq)
      obtain ⟨hqueue, hlast, hcounts⟩ := h'.quiet q hq ((h.lampDue hne).trans hdue)
      obtain ⟨hseat, hqueue'⟩ := h.rest q hne
      exact ⟨hqueue.trans hqueue', by rw [hlast, hseat], by rw [hcounts, hseat]⟩
  rest q hq := by
    obtain ⟨hseat, hqueue⟩ := h.rest q fun h => hq (List.mem_cons.2 (Or.inl (List.mem_singleton.1 h)))
    obtain ⟨hseat', hqueue'⟩ := h'.rest q fun h => hq (List.mem_cons_of_mem _ h)
    exact ⟨hseat'.trans hseat, hqueue'.trans hqueue⟩

theorem State.foldl_sweepLamp (l : List SeatNo) (hl : l.Nodup) (s : State) : s.Swept (l.foldl (fun t p => t.sweepLamp p) s) l := by
  induction l generalizing s with
  | nil => exact ⟨.refl s, fun _ => rfl, rfl, rfl, rfl, nofun, nofun, nofun, fun _ _ => ⟨rfl, rfl⟩⟩
  | cons p rest ih =>
    obtain ⟨hp, hrest⟩ := List.nodup_cons.1 hl
    exact (s.sweepLamp_swept p).cons (ih hrest _) hp

/-- The lamps as the event's end leaves them: each of the 64 seats resolved, from the state that has taken the vehicle number. -/
theorem State.lamped_swept (u : State) : ∃ t, u.takeVehicle.Swept t allSeats ∧ u.lamped = t.onEv fun e => { e with relamp := [] } := by
  refine ⟨_, State.foldl_sweepLamp allSeats (numbers_nodup 64) u.takeVehicle, ?_⟩
  rw [State.lamped_eq]
  rfl

/-- A part at its reset values has every lamp off (R133, R211). -/
theorem State.atResetValues.resolved {s : State} (h : s.atResetValues) (p : SeatNo) : (s.seat p).resolved = s.resolveLamp p := by
  obtain ⟨hct, _, _, _, _, _, _, hseat, _⟩ := h
  have hoccupant : s.occupant p = none := by
    rw [State.occupant, State.atPlace, State.findRecord, hct]
    rfl
  rw [State.resolveLamp, State.lampConditions, hoccupant, hseat p]
  rfl

/-- A lamp command is made as the event ends: the trunk is PRESENT, and the output changes or the trunk's lamps are set afresh (R135). -/
def State.lampOwed (u : State) (p : SeatNo) : Prop :=
  (u.trunk (trunkOf p)).state = .present ∧ (u.takeVehicle.resolveLamp p ≠ (u.seat p).resolved ∨ trunkOf p ∈ u.ev.relamp)

/-- The lamps when an event has closed, but for a reset that may follow (R133, R135). -/
theorem State.closing_lamps (u : State) (p : SeatNo) : let e := u.notified.settleInHand.duePages
    e.resolveLamp p = u.takeVehicle.resolveLamp p ∧ (e.seat p).resolved = u.takeVehicle.resolveLamp p
      ∧ (u.lampOwed p → lampMade e p (u.takeVehicle.resolveLamp p))
      ∧ (¬ u.lampOwed p → e.queue (.seat p) = u.queue (.seat p) ∧ (e.seat p).lastCommanded = (u.seat p).lastCommanded
        ∧ (e.seat p).counts = (u.seat p).counts) := by
  obtain ⟨t, hswept, hlamped⟩ := u.lamped_swept
  have hmem : p ∈ allSeats := mem_numbers p
  have hspbTake : u.takeVehicle.spb = u.spb := by simp
  have hctTake : u.takeVehicle.ct = u.ct := by simp
  have hfsTake : u.takeVehicle.fs = u.fs := by simp
  have hevTake : u.takeVehicle.ev = u.ev := by simp
  obtain ⟨hspbSettled, _, hctSettled⟩ := u.settled_keeps
  have hspb : u.notified.settleInHand.duePages.spb = t.spb := by
    rw [(State.duePages_told _).1, hspbSettled, hlamped]
    rfl
  have hct : u.notified.settleInHand.duePages.ct = u.takeVehicle.ct := by
    rw [hctTake, ← hctSettled]
    simp
  have htct : t.ct = u.takeVehicle.ct := by
    have hkept : u.lamped.ct = u.takeVehicle.ct := by rw [State.lamped_eq]; simp
    rw [hlamped] at hkept
    exact hkept
  have hseat := congrFun (State.seat_eq_of_spb hspb) p
  have hqueue : u.notified.settleInHand.duePages.queue (.seat p) = t.queue (.seat p) := by
    rw [State.duePages_queue, u.settled_unheard.queue _ (by simp), hlamped]
    rfl
  have hdue : u.takeVehicle.lampDue p = true ↔ u.lampOwed p := by
    rw [State.lampDue, State.trunk_eq_of_spb hspbTake, State.seat_eq_of_spb hspbTake, hevTake]
    simp [State.lampOwed]
  refine ⟨(State.resolveLamp_eq_of_spb hspb (hct.trans htct.symm) p).trans (hswept.resolve p), ?_, fun howed => ?_, fun hnot => ?_⟩
  · rw [hseat]
    exact hswept.resolved p hmem
  · have hmade := hswept.made p hmem (hdue.2 howed)
    rw [lampMade, hspb, hqueue]
    refine hmade.imp (fun ho => ?_) id
    have hout : t.ev.out = u.notified.settleInHand.ev.out := by
      rw [u.settled_unheard.out, hlamped]
      rfl
    rw [hout] at ho
    exact (State.duePages_spoken _).out ho
  · obtain ⟨hq, hlast, hcounts⟩ := hswept.quiet p hmem (Bool.eq_false_iff.2 fun h => hnot (hdue.1 h))
    rw [hqueue, hseat, hq, State.queue_eq_of_fs hfsTake, hlast, hcounts, State.seat_eq_of_spb hspbTake]
    exact ⟨rfl, rfl, rfl⟩

end Sys2Proof.Machine

namespace Sys2Proof.Proofs

open Sys2Proof.Machine

/-- Settles O4: the sweep resolves every lamp and commands those that are due, and what follows in the event leaves them. -/
theorem lampsResolvedAfterEveryEvent : Obligations.LampsResolvedAfterEveryEvent := by
  unfold Obligations.LampsResolvedAfterEveryEvent
  intro u p
  obtain ⟨hresolve, hresolved, hmade, hquiet⟩ := u.closing_lamps p
  refine ⟨?_, fun h => ?_⟩
  · cases hdue : u.closeEvent.ev.resetDue with
    | true => exact State.atResetValues.resolved (resetsGiveResetValues.2.2 u hdue).1 p
    | false =>
      have hend : u.endEvent = u.notified.settleInHand.duePages := by
        rw [State.endEvent, ← State.closeEvent_eq]
        simp [hdue]
      rw [hend, hresolve, hresolved]
  · rw [State.endEvent_of_noReset h]
    dsimp only
    rw [hresolve, hresolved]
    exact ⟨hmade, hquiet⟩

end Sys2Proof.Proofs
end

section
/-! SUPPORT. A port that enters a coupling state, and a coupled-set change (R96, R174, R175, R178, R181, R182, R205). -/

namespace Sys2Proof.Machine

/-! ### The final notices -/

theorem lossesAgree_prefix {free : Nat} {room : Side → Nat} {as bs : List Composed} (h : lossesAgree free room (as ++ bs)) :
    lossesAgree free room as := fun before c after heq => h before c (after ++ bs) (by rw [heq]; simp)

/-- No more frames are kept than there were slots free (R49). -/
theorem lossesAgree_kept_le {free : Nat} {room : Side → Nat} (cs : List Composed) (h : lossesAgree free room cs) :
    (cs.countP fun d => !d.isLost) ≤ free := by
  induction cs using List.reverseRecOn with
  | nil => exact Nat.zero_le _
  | append_singleton as c ih =>
    have hle := ih (lossesAgree_prefix h)
    have hfate := h as c [] rfl
    rw [List.countP_append, List.countP_singleton]
    cases hc : c.isLost with
    | true => simpa using hle
    | false =>
      rw [hc] at hfate
      have hlt := (Bool.or_eq_false_iff.1 hfate.symm).1
      simp only [decide_eq_false_iff_not, not_le] at hlt
      simp only [Bool.not_false, ite_true]
      omega

/-- Only the room of the ports that the frames leave by counts. -/
theorem lossesAgree_congr {free : Nat} {room room' : Side → Nat} {cs : List Composed} (hroom : ∀ c ∈ cs, room' c.side = room c.side)
    (h : lossesAgree free room cs) : lossesAgree free room' cs := fun before c after heq => by
  rw [hroom c (by rw [heq]; simp)]
  exact h before c after heq

/-- Final notices composed one after the other for stations that stand in the table (R182, R205). -/
theorem State.foldl_finalNotice (l : List Station) (hl : (l.map Station.addr).Nodup) {s : State} (hw : s.fs.slots.wf = true)
    (hin : ∀ st ∈ l, ∃ e, s.stationAt st.addr = some e ∧ e.number = st.number ∧ e.addr = st.addr ∧ ∀ c ∈ st.pending, c ∈ e.pending) :
    ∃ cs : List Composed, s.Composes (l.foldl (fun t st => t.sendNotice true st) s) cs ∧ (∀ c ∈ cs, ∃ st ∈ l, c.side = st.side)
      ∧ ∀ st ∈ l, ∃ pending lost, Composed.notice st.addr st.side true st.number s.cu.epoch pending lost ∈ cs
        ∧ (∀ c ∈ st.pending, c ∈ pending)
        ∧ (lost = false → (l.foldl (fun t st => t.sendNotice true st) s).Holds (.backbone st.side)
            (managementFrame st.addr s.me.addressing.cabinet noticeKind noticeCode 0 1 st.number s.cu.epoch
              (beBytes 2 (causeSetNat pending)))) := by
  induction l generalizing s with
  | nil => exact ⟨[], .nil hw, nofun, nofun⟩
  | cons first rest ih =>
    obtain ⟨hfirst, hrest⟩ := List.nodup_cons.1 hl
    obtain ⟨pending, lost, hcomposes, hnow⟩ := State.sendNotice_composes hw true first
    obtain ⟨e, he, hnumber, haddr, hpending⟩ := hin first List.mem_cons_self
    obtain ⟨hkept, _, hheld⟩ := hnow e he
    have hin' : ∀ st ∈ rest, ∃ e, (s.sendNotice true first).stationAt st.addr = some e ∧ e.number = st.number ∧ e.addr = st.addr
        ∧ ∀ c ∈ st.pending, c ∈ e.pending := fun st hst => by
      obtain ⟨e', he', hnumber', haddr', hpending'⟩ := hin st (List.mem_cons_of_mem _ hst)
      obtain ⟨e'', he'', hf, hun⟩ := hcomposes.me.stationAt he'
      have hunnoticed := hun fun c hc => by
        rw [List.mem_singleton.1 hc]
        exact fun heq => hfirst (Option.some.inj heq ▸ List.mem_map_of_mem hst)
      exact ⟨e'', he'', hunnoticed.number.trans hnumber', hf.addr.trans haddr', fun c hc => hf.pending c (hpending' c hc)⟩
    obtain ⟨cs, hmore, hsides, hgoes⟩ := ih hrest hcomposes.wf hin'
    refine ⟨_, hcomposes.append hmore, fun c hc => ?_, fun st hst => ?_⟩
    · rcases List.mem_append.1 hc with hc | hc
      · rw [List.mem_singleton.1 hc]
        exact ⟨first, List.mem_cons_self, rfl⟩
      · obtain ⟨st, hst, hside⟩ := hsides c hc
        exact ⟨st, List.mem_cons_of_mem _ hst, hside⟩
    · rcases List.mem_cons.1 hst with rfl | hst
      · refine ⟨pending, lost, List.mem_append_left _ (List.mem_singleton_self _), fun c hc => hkept c (hpending c hc), fun hl => ?_⟩
        rw [← haddr, ← hnumber]
        exact hmore.holds _ _ (hheld hl)
      · obtain ⟨pending', lost', hmem, hpending', hheld'⟩ := hgoes st hst
        rw [hcomposes.cu, hcomposes.me.addressing] at hheld'
        rw [hcomposes.cu] at hmem
        exact ⟨pending', lost', List.mem_append_right _ hmem, hpending', hheld'⟩

/-! ### Uplink hold -/

/-- The unit when uplink hold begins; its count of discarded frames apart (R96). -/
def ShareUnit.heldUp (b : ShareUnit) (discarded : Counter) : ShareUnit :=
  { b with
    state := .held, pool := 0, refill := none, overShareMark := false, waiting := []
    counts := { b.counts with parkedDiscarded := discarded, holdEntries := bump b.counts.holdEntries } }

section Hold

variable (s : State)

theorem State.dropRef_fsCounts (k : Nat) : (s.dropRef k).fs.counts = s.fs.counts := by
  unfold State.dropRef
  split
  · rfl
  · split
    · exact s.freeSlot_fsCounts k
    · rfl

theorem State.dropRef_composed (k : Nat) : (s.dropRef k).ev.composed = s.ev.composed ∧ (s.dropRef k).ev.pages = s.ev.pages
    ∧ (s.dropRef k).ev.responses = s.ev.responses ∧ (s.dropRef k).ev.levels = s.ev.levels
    ∧ (s.dropRef k).ev.thresholds = s.ev.thresholds := by
  unfold State.dropRef
  split
  · exact ⟨rfl, rfl, rfl, rfl, rfl⟩
  · split
    · simp
    · exact ⟨rfl, rfl, rfl, rfl, rfl⟩

theorem State.discardParked_sau (parked : List Nat) :
    ∃ n, (s.discardParked parked).sau = { s.sau with counts := { s.sau.counts with parkedDiscarded := n } } := by
  unfold State.discardParked
  induction parked generalizing s with
  | nil => exact ⟨_, rfl⟩
  | cons k rest ih =>
    obtain ⟨n, hn⟩ := ih ((s.dropRef k).countSau fun c => { c with parkedDiscarded := bump c.parkedDiscarded })
    exact ⟨n, by rw [List.foldl_cons, hn]; simp⟩

/-- The discarding of what is parked leaves queues, counters and what the event owes. -/
theorem State.discardParked_rest (parked : List Nat) : (s.discardParked parked).queue = s.queue
    ∧ (s.discardParked parked).fs.counts = s.fs.counts ∧ (s.discardParked parked).ev.composed = s.ev.composed
    ∧ (s.discardParked parked).ev.out = s.ev.out := by
  have h := foldl_keeps (fun t : State => (t.queue, t.fs.counts, t.ev.composed, t.ev.out))
    (f := fun (t : State) k => (t.dropRef k).countSau fun c => { c with parkedDiscarded := bump c.parkedDiscarded })
    (fun t k => by
      simp only [Prod.mk.injEq]
      exact ⟨t.dropRef_queue k, t.dropRef_fsCounts k, (t.dropRef_composed k).1, t.dropRef_out k⟩) parked (b := s) rfl
  obtain ⟨hqueue, hrest⟩ := Prod.mk.inj h
  obtain ⟨hcounts, hrest⟩ := Prod.mk.inj hrest
  obtain ⟨hcomposed, hout⟩ := Prod.mk.inj hrest
  exact ⟨hqueue, hcounts, hcomposed, hout⟩

/-- Uplink hold as the entries of the Client Table give it up, one after the other. -/
theorem State.enterHold_discards (es : List (Nat × Record)) :
    (∃ n, (es.foldl (fun t e => t.discardParked e.2.parked) s).sau
      = { s.sau with counts := { s.sau.counts with parkedDiscarded := n } })
    ∧ (es.foldl (fun t e => t.discardParked e.2.parked) s).queue = s.queue
    ∧ (es.foldl (fun t e => t.discardParked e.2.parked) s).fs.counts = s.fs.counts
    ∧ (es.foldl (fun t e => t.discardParked e.2.parked) s).ev.composed = s.ev.composed
    ∧ (es.foldl (fun t e => t.discardParked e.2.parked) s).ev.out = s.ev.out := by
  induction es generalizing s with
  | nil => exact ⟨⟨_, rfl⟩, rfl, rfl, rfl, rfl⟩
  | cons e rest ih =>
    obtain ⟨⟨n, hsau⟩, hqueue, hcounts, hcomposed, hout⟩ := ih (s.discardParked e.2.parked)
    obtain ⟨m, hm⟩ := s.discardParked_sau e.2.parked
    obtain ⟨hqueue', hcounts', hcomposed', hout'⟩ := s.discardParked_rest e.2.parked
    exact ⟨⟨n, by rw [List.foldl_cons, hsau, hm]⟩, hqueue.trans hqueue', hcounts.trans hcounts', hcomposed.trans hcomposed',
      hout.trans hout'⟩

theorem Table.get_map {α : Type} (t : Table α) (f : α → α) (k : Nat) :
    Table.get (t.map fun e => (e.1, f e.2)) k = (t.get k).map f := Table.get_mapValues f t k

/-- What uplink hold makes of the part (R96). -/
theorem State.enterHold_leaves : (∃ n, s.enterHold.sau = s.sau.heldUp n)
    ∧ (∀ n, s.enterHold.record n = (s.record n).map fun r => { r with credit := 0, parked := [] })
    ∧ s.enterHold.queue = s.queue ∧ s.enterHold.fs.counts = s.fs.counts ∧ s.enterHold.ev.composed = s.ev.composed
    ∧ s.enterHold.ev.out = s.ev.out
    ∧ s.enterHold.me = s.me ∧ s.enterHold.cu = s.cu ∧ s.enterHold.spb = s.spb ∧ s.enterHold.clb = s.clb ∧ s.enterHold.mc = s.mc
    ∧ s.enterHold.el = s.el ∧ s.enterHold.sl = s.sl ∧ s.enterHold.memory = s.memory ∧ s.enterHold.pending = s.pending
    ∧ s.enterHold.resetLine = s.resetLine := by
  obtain ⟨⟨n, hsau⟩, hqueue, hcounts, hcomposed, hout⟩ := s.enterHold_discards s.ct.records
  have hkeeps := foldl_keeps (fun t : State => (t.ct, t.me, t.cu, t.spb, t.clb, t.mc, t.el, t.sl, t.memory, t.pending, t.resetLine))
    (f := fun (t : State) (e : Nat × Record) => t.discardParked e.2.parked) (by intros; simp) s.ct.records (b := s) rfl
  simp only [Prod.mk.injEq] at hkeeps
  obtain ⟨hct, hme, hcu, hspb, hclb, hmc, hel, hsl, hmemory, hpending, hline⟩ := hkeeps
  unfold State.enterHold
  dsimp only
  generalize s.ct.records.foldl (fun t e => t.discardParked e.2.parked) s = w at *
  refine ⟨⟨n, ?_⟩, fun m => ?_, ?_, hcounts, hcomposed, hout, hme, hcu, hspb, hclb, hmc, hel, hsl, hmemory, hpending, hline⟩
  · change { w.sau with
        state := .held, pool := 0, refill := none, overShareMark := false, waiting := []
        counts := { w.sau.counts with holdEntries := bump w.sau.counts.holdEntries } } = _
    rw [hsau]
    rfl
  · rw [State.record_eq_of_ct hct.symm]
    exact Table.get_map w.ct.records (fun r => { r with parked := [], credit := 0 }) m
  · rw [← hqueue]
    rfl

end Hold

/-! ### A coupled-set change -/

/-- What a coupled-set change leaves of the part (R96, R181, R182, R205). -/
structure State.SetChanged (s t : State) : Prop where
  cu : t.cu = { s.cu with epoch := s.cu.epoch + 1, setChanges := bump s.cu.setChanges }
  sau : ∃ n, t.sau = s.sau.heldUp n
  record : ∀ n, t.record n = (s.record n).map fun r => { r with credit := 0, parked := [] }
  stations : t.me.stations = []
  addressing : t.me.addressing = s.me.addressing
  raised : ∀ c, c ≠ .storeLow → t.raised c = s.raised c
  spb : t.spb = s.spb
  clb : t.clb = s.clb
  mc : t.mc = s.mc
  el : t.el = s.el
  sl : t.sl = s.sl
  memory : t.memory = s.memory
  pending : t.pending = s.pending
  resetLine : t.resetLine = s.resetLine
  queue : ∀ p, (∀ side, p ≠ .backbone side) → t.queue p = s.queue p
  out : t.ev.out = s.ev.out

theorem State.SetChanged.side {s t : State} (h : s.SetChanged t) (x : Side) : t.side x = s.side x := by
  refine (congrFun (State.side_eq_of_cu (s := s.onCu fun b => { b with epoch := b.epoch + 1, setChanges := bump b.setChanges }) h.cu)
    x).trans ?_
  cases x <;> rfl

/-- The state that a coupled-set change composes its final notices from. -/
def State.beforeFinal (s : State) : State :=
  (s.onCu fun b => { b with epoch := b.epoch + 1, setChanges := bump b.setChanges }).enterHold

theorem State.coupledSetChange_eq (s : State) :
    s.coupledSetChange = s.beforeFinal.finalNotices.onMe fun m => { m with stations := [] } := rfl

theorem State.compose_raised (s : State) (side : Side) (reset : Bool) (frame : State → Bytes) {c : Cause} (hc : c ≠ .storeLow) :
    (s.compose side reset frame).1.raised c = s.raised c := by
  have hclaimed : ∀ x k, (s.claimed x k).raised c = s.raised c := fun x k => by
    rcases s.lowWater_me (s.freeSlots - 1) with h | h
    · exact congrFun (State.raised_eq_of_me h) c
    · have hraised := s.raised_raise .storeLow c
      rw [if_neg hc] at hraised
      rw [← hraised]
      exact congrFun (State.raised_eq_of_me h) c
  by_cases hfree : s.freeSlots = 0
  · rw [State.compose_no_slot side reset frame hfree]
    rfl
  · by_cases hroom : s.backboneRoom side = 0
    · rw [State.compose_refused side reset frame hfree hroom, ← hclaimed (s.composedSlot reset frame) (s.fs.slots.firstFree 0)]
      refine congrFun (State.raised_eq_of_me ?_) c
      simp [State.loseComposed]
    · rw [State.compose_kept side reset frame hfree hroom, ← hclaimed (s.composedSlot reset frame) (s.fs.slots.firstFree 0)]
      exact congrFun (State.raised_eq_of_me (by simp)) c

theorem State.sendNotice_raised (s : State) (hold : Bool) (st : Station) {c : Cause} (hc : c ≠ .storeLow) :
    (s.sendNotice hold st).raised c = s.raised c := s.compose_raised st.side false (noticeFrame st hold) hc

theorem State.sendNotice_addressing (s : State) (hold : Bool) (st : Station) :
    (s.sendNotice hold st).me.addressing = s.me.addressing := by
  change (s.compose st.side false (noticeFrame st hold)).1.me.addressing = s.me.addressing
  have hclaimed : ∀ x k, (s.claimed x k).me.addressing = s.me.addressing := fun _ _ =>
    (Engine.Follows.lowWater s (s.freeSlots - 1) []).addressing
  by_cases hfree : s.freeSlots = 0
  · rw [State.compose_no_slot _ _ _ hfree]
    rfl
  · by_cases hroom : s.backboneRoom st.side = 0
    · rw [State.compose_refused _ _ _ hfree hroom, ← hclaimed (s.composedSlot false (noticeFrame st hold)) (s.fs.slots.firstFree 0)]
      simp [State.loseComposed]
    · rw [State.compose_kept _ _ _ hfree hroom, ← hclaimed (s.composedSlot false (noticeFrame st hold)) (s.fs.slots.firstFree 0)]
      simp

/-- A coupled-set change, its four steps in order (R181). -/
theorem State.coupledSetChange_changed (s : State) : s.SetChanged s.coupledSetChange := by
  obtain ⟨⟨n, hsau⟩, hrecord, hqueue, _, _, hout, hme, hcu, hspb, hclb, hmc, hel, hsl, hmemory, hpending, hline⟩ :=
    (s.onCu fun b => { b with epoch := b.epoch + 1, setChanges := bump b.setChanges }).enterHold_leaves
  have hquiet : s.beforeFinal.Unheard s.beforeFinal.finalNotices := by
    unfold State.finalNotices
    generalize s.beforeFinal.me.stations.filter _ = l
    generalize s.beforeFinal = v
    induction l generalizing v with
    | nil => exact .refl v
    | cons st rest ih => exact (State.Unheard.sendNotice v true st).trans (ih _)
  have haddressing : s.beforeFinal.finalNotices.me.addressing = s.beforeFinal.me.addressing :=
    foldl_keeps (fun t : State => t.me.addressing) (fun t st => t.sendNotice_addressing true st) _ rfl
  have hraised : ∀ c, c ≠ .storeLow → s.beforeFinal.finalNotices.raised c = s.beforeFinal.raised c := fun c hc =>
    foldl_keeps (fun t : State => t.raised c) (fun t st => t.sendNotice_raised true st hc) _ rfl
  have hkeeps := s.beforeFinal.finalNotices_keeps
  obtain ⟨hpending', _, hline', hmemory', hct', hmc', hsau', hel', hspb', hclb', hcu', hsl'⟩ := hkeeps
  rw [State.coupledSetChange_eq]
  generalize s.beforeFinal.finalNotices = w at *
  have hbefore : s.beforeFinal = (s.onCu fun b => { b with epoch := b.epoch + 1, setChanges := bump b.setChanges }).enterHold := rfl
  rw [← hbefore] at *
  exact {
    cu := hcu'.trans hcu
    sau := ⟨n, hsau'.trans hsau⟩
    record := fun m => (congrFun (State.record_eq_of_ct hct') m).trans (hrecord m)
    stations := rfl
    addressing := haddressing.trans (congrArg Engine.addressing hme)
    raised := fun c hc => (hraised c hc).trans (congrFun (State.raised_eq_of_me hme) c)
    spb := hspb'.trans hspb
    clb := hclb'.trans hclb
    mc := hmc'.trans hmc
    el := hel'.trans hel
    sl := hsl'.trans hsl
    memory := hmemory'.trans hmemory
    pending := hpending'.trans hpending
    resetLine := hline'.trans hline
    queue := fun p hp => by
      change w.queue p = s.queue p
      refine (hquiet.queue p hp).trans ((congrFun hqueue p).trans ?_)
      rcases p with p | c | (_ | _) <;> rfl
    out := hquiet.out.trans hout }

/-! ### A port that enters a state -/

/-- What entering a coupling state leaves of the part (R170, R174, R175, R178, R187). -/
structure State.Entered (s t : State) (side : Side) (old new : CouplingState) : Prop where
  own : (t.side side).unpaged = ((s.side side).entering old new).unpaged
  quietSide : old ≠ .coupled → t.side side = (s.side side).entering old new
  other : t.side (otherSide side) = s.side (otherSide side)
  unit : t.cu.epoch = s.cu.epoch ∧ t.cu.setChanges = s.cu.setChanges ∧ t.cu.vehicle = s.cu.vehicle
    ∧ t.cu.vehicleSetting = s.cu.vehicleSetting
  me : t.me = if new = .faulted then (s.raise .couplingFault).me else s.me
  queue : ∀ p, p ≠ .backbone side → t.queue p = s.queue p
  quietQueue : old ≠ .coupled → t.queue = s.queue
  emptied : old = .coupled → (t.queue (.backbone side)).entries = []
  fsCounts : t.fs.counts = s.fs.counts
  quietFs : old ≠ .coupled → t.fs = s.fs
  quietDue : old ≠ .coupled → t.ev.resetDue = s.ev.resetDue
  log : t.ev.composed = s.ev.composed ∧ t.ev.responses = s.ev.responses
  pages : t.ev.pages = if old = .decoupled then s.ev.pages ++ [side] else s.ev.pages
  rest : t.ct = s.ct ∧ t.mc = s.mc ∧ t.sau = s.sau ∧ t.el = s.el ∧ t.spb = s.spb ∧ t.clb = s.clb ∧ t.sl = s.sl
    ∧ t.memory = s.memory ∧ t.pending = s.pending ∧ t.resetLine = s.resetLine

theorem State.goOut_log (s : State) (port : Port) (m : Control) : (s.goOut port m).ev = { s.ev with out := (s.goOut port m).ev.out } := by
  unfold State.goOut
  split <;> rfl

theorem State.releaseWaiting_log (s : State) (port : Port) :
    (s.releaseWaiting port).ev = { s.ev with out := (s.releaseWaiting port).ev.out } := by
  have hfold : ∀ (ms : List Control) (t : State), (ms.foldl (fun t m => t.goOut port m) t).ev
      = { t.ev with out := (ms.foldl (fun t m => t.goOut port m) t).ev.out } := by
    intro ms
    induction ms with
    | nil => exact fun _ => rfl
    | cons m rest ih => exact fun t => by rw [List.foldl_cons, ih, t.goOut_log]
  unfold State.releaseWaiting
  dsimp only
  split
  · exact hfold _ _
  · rfl

/-- The discard of a queue leaves the store's counters and what the event owes but for a reset (R37). -/
theorem State.discardQueue_log (s : State) (port : Port) : (s.discardQueue port).fs.counts = s.fs.counts
    ∧ (s.discardQueue port).ev.composed = s.ev.composed ∧ (s.discardQueue port).ev.responses = s.ev.responses
    ∧ (s.discardQueue port).ev.pages = s.ev.pages ∧ (s.discardQueue port).ev.levels = s.ev.levels
    ∧ (s.discardQueue port).ev.thresholds = s.ev.thresholds := by
  unfold State.discardQueue
  dsimp only
  generalize hq : s.setQueue port _ = t
  have hev : t.ev = s.ev := by rw [← hq]; rfl
  have hcounts : t.fs.counts = s.fs.counts := by rw [← hq]; exact s.setQueue_fsCounts port _
  have hdrops := foldl_keeps (fun t : State => (t.fs.counts, t.ev.composed, t.ev.pages, t.ev.responses, t.ev.levels, t.ev.thresholds))
    (f := fun (t : State) (e : Entry) => t.dropRef e.slot)
    (fun t e => by
      obtain ⟨h1, h2, h3, h4, h5⟩ := t.dropRef_composed e.slot
      simp only [Prod.mk.injEq]
      exact ⟨t.dropRef_fsCounts e.slot, h1, h2, h3, h4, h5⟩) (s.queue port).entries (b := t) rfl
  generalize (s.queue port).entries.foldl (fun t e => t.dropRef e.slot) t = w at *
  simp only [Prod.mk.injEq] at hdrops
  obtain ⟨hfs, hcomposed, hpages, hresponses, hlevels, hthresholds⟩ := hdrops
  have hlog := w.releaseWaiting_log port
  have hfsLast : (w.releaseWaiting port).fs.counts = w.fs.counts := by
    rw [w.releaseWaiting_fs port]
    exact w.setQueue_fsCounts port _
  rw [hlog]
  exact ⟨hfsLast.trans (hfs.trans hcounts), hcomposed.trans (by rw [hev]), hresponses.trans (by rw [hev]), hpages.trans (by rw [hev]),
    hlevels.trans (by rw [hev]), hthresholds.trans (by rw [hev])⟩

/-- A port that enters a state, before its queue is discarded. -/
def State.entering (s : State) (side : Side) (old new : CouplingState) : State :=
  let s1 := s.onSide side fun b => b.entering old new
  let s2 := if old = .decoupled then s1.onEv fun e => { e with pages := e.pages ++ [side] } else s1
  if new = .faulted then s2.raise .couplingFault else s2

theorem State.enterCoupling_eq (s : State) (side : Side) (old new : CouplingState) : s.enterCoupling side old new
    = if old = .coupled then (s.entering side old new).discardQueue (.backbone side) else s.entering side old new := rfl

theorem State.entering_leaves (s : State) (side : Side) (old new : CouplingState) :
    (s.entering side old new).cu = (s.onSide side fun b => b.entering old new).cu
    ∧ (s.entering side old new).me = (if new = .faulted then (s.raise .couplingFault).me else s.me)
    ∧ (s.entering side old new).fs = s.fs ∧ (s.entering side old new).ev.composed = s.ev.composed
    ∧ (s.entering side old new).ev.responses = s.ev.responses ∧ (s.entering side old new).ev.resetDue = s.ev.resetDue
    ∧ (s.entering side old new).ev.pages = (if old = .decoupled then s.ev.pages ++ [side] else s.ev.pages)
    ∧ (s.entering side old new).ct = s.ct ∧ (s.entering side old new).mc = s.mc ∧ (s.entering side old new).sau = s.sau
    ∧ (s.entering side old new).el = s.el ∧ (s.entering side old new).spb = s.spb ∧ (s.entering side old new).clb = s.clb
    ∧ (s.entering side old new).sl = s.sl ∧ (s.entering side old new).memory = s.memory
    ∧ (s.entering side old new).pending = s.pending ∧ (s.entering side old new).resetLine = s.resetLine := by
  unfold State.entering
  by_cases hold : old = .decoupled
  · by_cases hnew : new = .faulted
    · simp only [if_pos hold, if_pos hnew]
      exact ⟨rfl, rfl, rfl, rfl, rfl, rfl, rfl, rfl, rfl, rfl, rfl, rfl, rfl, rfl, rfl, rfl, rfl⟩
    · simp only [if_pos hold, if_neg hnew]
      exact ⟨rfl, rfl, rfl, rfl, rfl, rfl, rfl, rfl, rfl, rfl, rfl, rfl, rfl, rfl, rfl, rfl, rfl⟩
  · by_cases hnew : new = .faulted
    · simp only [if_neg hold, if_pos hnew]
      exact ⟨rfl, rfl, rfl, rfl, rfl, rfl, rfl, rfl, rfl, rfl, rfl, rfl, rfl, rfl, rfl, rfl, rfl⟩
    · simp [hold, hnew]

theorem State.onSide_unit (s : State) (side : Side) (f : Backbone → Backbone) : (s.onSide side f).cu.epoch = s.cu.epoch
    ∧ (s.onSide side f).cu.setChanges = s.cu.setChanges ∧ (s.onSide side f).cu.vehicle = s.cu.vehicle
    ∧ (s.onSide side f).cu.vehicleSetting = s.cu.vehicleSetting := by
  cases side <;> exact ⟨rfl, rfl, rfl, rfl⟩

theorem State.enterCoupling_entered (s : State) (side : Side) (old new : CouplingState) :
    s.Entered (s.enterCoupling side old new) side old new := by
  obtain ⟨hcu, hme, hfs, hcomposed, hresponses, hdue, hpages, hct, hmc, hsau, hel, hspb, hclb, hsl, hmemory, hpending, hline⟩ :=
    s.entering_leaves side old new
  have hown : (s.entering side old new).side side = (s.side side).entering old new := by
    rw [State.side_eq_of_cu hcu, State.side_onSide_self]
  have hother : (s.entering side old new).side (otherSide side) = s.side (otherSide side) := by
    rw [State.side_eq_of_cu hcu, State.side_onSide_other]
  have hunit := s.onSide_unit side fun b => b.entering old new
  rw [← hcu] at hunit
  rw [State.enterCoupling_eq]
  generalize s.entering side old new = v at *
  by_cases hold : old = .coupled
  · rw [if_pos hold]
    have htold : v.Told (v.discardQueue (.backbone side)) (.backbone side) := .discardQueue v _
    obtain ⟨hepoch, hchanges, hvehicle, hsetting⟩ := htold.unit
    obtain ⟨hlogCounts, hlogComposed, hlogResponses, hlogPages, _⟩ := v.discardQueue_log (.backbone side)
    exact {
      own := (htold.side side).trans (congrArg Backbone.unpaged hown)
      quietSide := fun h => absurd hold h
      other := (htold.sides _ fun h => otherSide_ne side (Port.backbone.inj h).symm).trans hother
      unit := ⟨hepoch.trans hunit.1, hchanges.trans hunit.2.1, hvehicle.trans hunit.2.2.1, hsetting.trans hunit.2.2.2⟩
      me := (by simp : (v.discardQueue (.backbone side)).me = v.me).trans hme
      queue := fun p hp => by rw [v.discardQueue_queue_of_ne hp, State.queue_eq_of_fs hfs]
      quietQueue := fun h => absurd hold h
      emptied := fun _ => v.discardQueue_entries _
      fsCounts := hlogCounts.trans (by rw [hfs])
      quietFs := fun h => absurd hold h
      quietDue := fun h => absurd hold h
      log := ⟨hlogComposed.trans hcomposed, hlogResponses.trans hresponses⟩
      pages := hlogPages.trans hpages
      rest := by
        rw [htold.spb fun p h => by cases h]
        simp [hct, hmc, hsau, hel, hspb, hclb, hsl, hmemory, hpending, hline] }
  · rw [if_neg hold]
    exact {
      own := congrArg Backbone.unpaged hown
      quietSide := fun _ => hown
      other := hother
      unit := hunit
      me := hme
      queue := fun p _ => by rw [State.queue_eq_of_fs hfs]
      quietQueue := fun _ => State.queue_eq_of_fs hfs
      emptied := fun h => absurd h hold
      fsCounts := by rw [hfs]
      quietFs := fun _ => hfs
      quietDue := fun _ => hdue
      log := ⟨hcomposed, hresponses⟩
      pages := hpages
      rest := ⟨hct, hmc, hsau, hel, hspb, hclb, hsl, hmemory, hpending, hline⟩ }

/-! ### The state derived again -/

/-- Where the items give the state that stands, nothing changes (R174). -/
theorem State.rederive_same {s : State} {side : Side} (h : (s.side side).derive = (s.side side).state) : s.rederive side = s := by
  simp [State.rederive, h]

/-- A change between states that are not COUPLED (R174). -/
theorem State.rederive_uncoupled {s : State} {side : Side} {old new : CouplingState} (hold : (s.side side).state = old)
    (hnew : (s.side side).derive = new) (hne : new ≠ old) (h : old ≠ .coupled) (h' : new ≠ .coupled) :
    s.rederive side = s.enterCoupling side old new := by
  simp [State.rederive, hold, hnew, hne, h, h']

/-- A change into or out of COUPLED is a coupled-set change (R181). -/
theorem State.rederive_coupled {s : State} {side : Side} {old new : CouplingState} (hold : (s.side side).state = old)
    (hnew : (s.side side).derive = new) (hne : new ≠ old) (h : old = .coupled ∨ new = .coupled) :
    s.rederive side = (s.enterCoupling side old new).coupledSetChange := by
  simp [State.rederive, hold, hnew, hne, h]

/-- A port's items after its silence; its timer stopped (R178). -/
def Backbone.silenced (b : Backbone) : Backbone :=
  { b with
    matchCount := 0
    matched := none
    rx := none
    ownFault := if b.ownFault = .couplingError then .none else b.ownFault
    silence := none }

/-! ### What a coupled-set change composes -/

theorem State.compose_queue_of_ne (s : State) {side : Side} (reset : Bool) (frame : State → Bytes) {p : Port} (h : p ≠ .backbone side) :
    (s.compose side reset frame).1.queue p = s.queue p := by
  by_cases hfree : s.freeSlots = 0
  · rw [State.compose_no_slot side reset frame hfree]
    exact congrFun (State.queue_eq_of_fs (s := s) rfl) p
  · have happend := State.append_queue_of_ne (s.claimed (s.composedSlot reset frame) (s.fs.slots.firstFree 0))
      { slot := s.fs.slots.firstFree 0 } false h
    rw [State.claimed_queue] at happend
    by_cases hroom : s.backboneRoom side = 0
    · rw [State.compose_refused side reset frame hfree hroom, ← happend]
      refine Eq.trans ?_ (congrFun (State.freeSlot_queue _ (s.fs.slots.firstFree 0)) p)
      rcases p with p | c | (_ | _) <;> rfl
    · rw [State.compose_kept side reset frame hfree hroom]
      exact happend

theorem State.foldl_finalNotice_queue (l : List Station) (s : State) {p : Port} (h : ∀ st ∈ l, p ≠ .backbone st.side) :
    (l.foldl (fun t st => t.sendNotice true st) s).queue p = s.queue p := by
  induction l generalizing s with
  | nil => rfl
  | cons st rest ih =>
    rw [List.foldl_cons, ih _ fun e he => h e (List.mem_cons_of_mem _ he)]
    exact s.compose_queue_of_ne false (noticeFrame st true) (h st List.mem_cons_self)

/-- The final notices go to the stations whose side is COUPLED; nothing else is composed (R182, R205). -/
theorem State.coupledSetChange_composes {s : State} (hi : Inv s) :
    ∃ cs : List Composed, s.coupledSetChange.ev.composed = s.ev.composed ++ cs
      ∧ s.coupledSetChange.fs.counts = { s.fs.counts with
          composedLost := bumpBy s.fs.counts.composedLost (cs.countP Composed.isLost) }
      ∧ lossesAgree (s.coupledSetChange.freeSlots + cs.countP fun d => !d.isLost) s.backboneRoom cs
      ∧ (∀ c ∈ cs, s.coupled c.side = true)
      ∧ (∀ x, s.coupled x = false → s.coupledSetChange.queue (.backbone x) = s.queue (.backbone x))
      ∧ ∀ st ∈ s.me.stations, s.coupled st.side = true →
        ∃ pending lost, Composed.notice st.addr st.side true st.number (s.cu.epoch + 1) pending lost ∈ cs
          ∧ (∀ c ∈ st.pending, c ∈ pending)
          ∧ (lost = false → frameQueued s.coupledSetChange (.backbone st.side)
              (managementFrame st.addr s.me.addressing.cabinet noticeKind noticeCode 0 1 st.number (s.cu.epoch + 1)
                (beBytes 2 (causeSetNat pending)))) := by
  obtain ⟨_, _, hqueue, hcounts, hcomposed, _, hme, hcu, _⟩ :=
    (s.onCu fun b => { b with epoch := b.epoch + 1, setChanges := bump b.setChanges }).enterHold_leaves
  have hinv : Inv s.beforeFinal := inv_fineClosed.enterHold _ hi
  have hbefore : s.beforeFinal = (s.onCu fun b => { b with epoch := b.epoch + 1, setChanges := bump b.setChanges }).enterHold := rfl
  rw [State.coupledSetChange_eq]
  rw [← hbefore] at hqueue hcounts hcomposed hme hcu
  generalize s.beforeFinal = v at *
  have hside : ∀ x, v.side x = s.side x := fun x => (congrFun (State.side_eq_of_cu hcu) x).trans (by cases x <;> rfl)
  have hcoupled : ∀ x, v.coupled x = s.coupled x := fun x => by rw [State.coupled, State.coupled, hside]
  have hentries : ∀ p, v.queue p = s.queue p := fun p => (congrFun hqueue p).trans (by rcases p with p | c | (_ | _) <;> rfl)
  have hroom : v.backboneRoom = s.backboneRoom := funext fun x => by
    rw [State.backboneRoom, State.backboneRoom, hcoupled, hentries]
  have hvme : v.me = s.me := hme
  have hepoch : v.cu.epoch = s.cu.epoch + 1 := by rw [hcu]; rfl
  have hapart : v.StationsApart := hinv.stations.1.nodup
  obtain ⟨cs, hcomposes, hsides, hgoes⟩ := State.foldl_finalNotice (v.me.stations.filter fun st => v.coupled st.side)
    (List.Nodup.sublist (List.filter_sublist.map _) hapart) hinv.slots.1 fun st hst =>
      ⟨st, hapart.stationAt (List.mem_filter.1 hst).1, rfl, rfl, fun _ h => h⟩
  have hfold : v.finalNotices = (v.me.stations.filter fun st => v.coupled st.side).foldl (fun t st => t.sendNotice true st) v := rfl
  have hquiet : ∀ x, s.coupled x = false → v.finalNotices.queue (.backbone x) = s.queue (.backbone x) := fun x hx => by
    rw [← hentries, hfold]
    refine State.foldl_finalNotice_queue _ v fun st hst heq => ?_
    rw [Port.backbone.inj heq, ← hcoupled, (List.mem_filter.1 hst).2] at hx
    cases hx
  rw [← hfold] at hcomposes hgoes
  generalize v.finalNotices = u at *
  have hkept := lossesAgree_kept_le cs hcomposes.losses
  have hfree : (u.onMe fun m => { m with stations := [] }).freeSlots + (cs.countP fun d => !d.isLost) = v.freeSlots := by
    have hu := hcomposes.free
    change u.freeSlots + _ = _
    omega
  refine ⟨cs, ?_, ?_, ?_, fun c hc => ?_, hquiet, fun st hst hc => ?_⟩
  · change u.ev.composed = _
    rw [hcomposes.log]
    exact congrArg (· ++ cs) hcomposed
  · change u.fs.counts = _
    rw [hcomposes.counts, hcounts]
    rfl
  · rw [hfree, ← hroom]
    exact hcomposes.losses
  · obtain ⟨st, hst, hx⟩ := hsides c hc
    rw [hx, ← hcoupled]
    exact (List.mem_filter.1 hst).2
  · obtain ⟨pending, lost, hmem, hpending, hheld⟩ := hgoes st (by
      rw [List.mem_filter, hvme, hcoupled]
      exact ⟨hst, hc⟩)
    rw [hepoch, hvme] at hheld
    rw [hepoch] at hmem
    exact ⟨pending, lost, hmem, hpending, fun hl => ((hheld hl).of_fs rfl fun p => rfl).queued⟩

end Sys2Proof.Machine

namespace Sys2Proof.Proofs

open Sys2Proof.Machine

/-- Settles O46: the port's queue goes, the unit is held, and the stations of the other side get their final notices. -/
theorem coupledSetChange : Obligations.CoupledSetChange := by
  unfold Obligations.CoupledSetChange
  intro s side hi hline hstate hsilence
  obtain ⟨v, hv⟩ : ∃ v, v = s.beginEvent.onSide side Backbone.silenced := ⟨_, rfl⟩
  have hvside : v.side side = (s.side side).silenced := by rw [hv, State.side_onSide_self]; simp
  have hvother : v.side (otherSide side) = s.side (otherSide side) := by rw [hv, State.side_onSide_other]; simp
  have hunit := s.beginEvent.onSide_unit side Backbone.silenced
  rw [← hv] at hunit
  have hvstate : (v.side side).state = .coupled := by rw [hvside]; exact hstate
  have hvderive : (v.side side).derive = .decoupled := by rw [hvside]; rfl
  have hexpiry : s.beginEvent.silenceExpiry side = (v.enterCoupling side .coupled .decoupled).coupledSetChange := by
    rw [hv, ← State.rederive_coupled (by rw [← hv]; exact hvstate) (by rw [← hv]; exact hvderive) (by simp) (Or.inl rfl)]
    rfl
  have hentered := v.enterCoupling_entered side .coupled .decoupled
  have hinv : Inv (v.enterCoupling side .coupled .decoupled) := by
    rw [hv]
    exact inv_fineClosed.coupling.enterCoupling _ _ _ _ (((show Inv s.beginEvent from hi).onSide side _).onSide side _)
  refine ⟨s.beginEvent.silenceExpiry side, reaches_eventWhen rfl hline (by simp [hsilence, isDue]) rfl, ?_⟩
  rw [hexpiry]
  have hvrest : v.ct = s.ct ∧ v.mc = s.mc ∧ v.sau = s.sau ∧ v.el = s.el ∧ v.spb = s.spb ∧ v.clb = s.clb ∧ v.sl = s.sl
      ∧ v.memory = s.memory ∧ v.pending = s.pending ∧ v.resetLine = s.resetLine ∧ v.fs = s.fs ∧ v.me = s.me
      ∧ v.ev.composed = [] := by
    rw [hv]
    exact ⟨rfl, rfl, rfl, rfl, rfl, rfl, rfl, rfl, rfl, rfl, rfl, rfl, rfl⟩
  obtain ⟨hct, hmc, hsau, hel, hspb, hclb, hsl, hmemory, hpending, hlineSame, hfs, hme, hcomposed⟩ := hvrest
  obtain ⟨hct', hmc', hsau', hel', hspb', hclb', hsl', hmemory', hpending', hline'⟩ := hentered.rest
  have hwme : (v.enterCoupling side .coupled .decoupled).me = s.me := by rw [hentered.me, ← hme]; rfl
  have hwother : (v.enterCoupling side .coupled .decoupled).side (otherSide side) = s.side (otherSide side) :=
    hentered.other.trans hvother
  have hchanged := (v.enterCoupling side .coupled .decoupled).coupledSetChange_changed
  obtain ⟨cs, hlog, hcounts, hlosses, hsides, hquiet, hgoes⟩ := State.coupledSetChange_composes hinv
  have hownUnpaged := hentered.own
  have hqueue := hentered.queue
  have hemptied := hentered.emptied rfl
  have hfsCounts := hentered.fsCounts
  have hlogW := hentered.log.1
  have hunitW := hentered.unit
  generalize v.enterCoupling side .coupled .decoupled = w at *
  have hwown : (w.side side).unpaged = ((s.side side).silenced.entering .coupled .decoupled).unpaged := by rw [hownUnpaged, hvside]
  have hwstate : (w.side side).state = .decoupled := congrArg Backbone.state hwown
  have hwcoupled : w.coupled side = false := by rw [State.coupled, hwstate]; rfl
  have hwcoupledOther : w.coupled (otherSide side) = s.coupled (otherSide side) := by rw [State.coupled, hwother]; rfl
  have honlyOther : ∀ c ∈ cs, c.side = otherSide side := fun c hc => by
    have hc' := hsides c hc
    by_contra hne
    have hsame : c.side = side := by
      revert hne
      generalize c.side = x
      cases x <;> cases side <;> decide
    rw [hsame, hwcoupled] at hc'
    cases hc'
  have hwroom : w.backboneRoom (otherSide side) = s.backboneRoom (otherSide side) := by
    rw [State.backboneRoom, State.backboneRoom, hwcoupledOther, hqueue _ (by simp), State.queue_eq_of_fs hfs]
  have hwsau : w.sau = s.sau := hsau'.trans hsau
  rw [hlogW, hcomposed, List.nil_append] at hlog
  have hcuC := hchanged.cu
  obtain ⟨hepoch, hchanges, _⟩ := hunitW
  obtain ⟨n, hsauC⟩ := hchanged.sau
  rw [hchanged.side, hchanged.side, hlog, hcounts, hfsCounts, hfs, hsauC, hwsau, hcuC]
  refine ⟨hwstate, congrArg Backbone.rx hwown, congrArg Backbone.matchCount hwown, congrArg Backbone.matched hwown,
    congrArg Backbone.silence hwown, congrArg Backbone.page hwown, congrArg (fun b : Backbone => b.counts.silences) hwown, hwother,
    congrArg (· + 1) (hepoch.trans hunit.1), congrArg bump (hchanges.trans hunit.2.1), ?_, rfl, rfl, rfl, rfl, rfl, rfl, fun m => ?_,
    hchanged.stations, fun st hst hst' hc => ?_, ?_, rfl, ?_⟩
  · rw [hquiet side hwcoupled, hemptied]
  · rw [hchanged.record, State.record_eq_of_ct (hct'.trans hct)]
  · obtain ⟨pending, lost, hmem, hkept, hheld⟩ := hgoes st (by rw [hwme]; exact hst) (by rw [hst', hwcoupledOther, hc])
    rw [hepoch, hunit.1] at hmem hheld
    rw [hwme] at hheld
    exact ⟨pending, lost, hmem, hkept, hheld⟩
  · exact lossesAgree_congr (fun c hc => by rw [honlyOther c hc, hwroom]) hlosses
  · rw [State.onlyChanges_iff]
    simp [hchanged.mc, hmc', hmc, hchanged.el, hel', hel, hchanged.spb, hspb', hspb, hchanged.clb, hclb', hclb, hchanged.sl, hsl', hsl,
      hchanged.memory, hmemory', hmemory, hchanged.pending, hpending', hpending, hchanged.resetLine, hline', hlineSame]

end Sys2Proof.Proofs
end

section
/-! SUPPORT. Pages, timers and check errors of a backbone port (R42, R169 to R179, R225). -/

namespace Sys2Proof.Machine

/-! ### What deriving a state again keeps of the port -/

/-- The port when its state has been derived again, its count of pages sent apart; the other port stands. -/
theorem State.rederive_sides (v : State) (side : Side) :
    ((v.rederive side).side side).unpaged = (if (v.side side).derive = (v.side side).state then v.side side
      else (v.side side).entering (v.side side).state (v.side side).derive).unpaged
    ∧ (v.rederive side).side (otherSide side) = v.side (otherSide side) := by
  by_cases hsame : (v.side side).derive = (v.side side).state
  · rw [State.rederive_same hsame, if_pos hsame]
    exact ⟨rfl, rfl⟩
  · have hentered := v.enterCoupling_entered side (v.side side).state (v.side side).derive
    rw [if_neg hsame]
    by_cases hcoupled : (v.side side).state = .coupled ∨ (v.side side).derive = .coupled
    · have hchanged := (v.enterCoupling side (v.side side).state (v.side side).derive).coupledSetChange_changed
      rw [State.rederive_coupled rfl rfl hsame hcoupled, hchanged.side, hchanged.side]
      exact ⟨hentered.own, hentered.other⟩
    · rw [State.rederive_uncoupled rfl rfl hsame (fun h => hcoupled (Or.inl h)) (fun h => hcoupled (Or.inr h))]
      exact ⟨hentered.own, hentered.other⟩

/-- The items that entering a state leaves alone. -/
structure Backbone.SameItems (b c : Backbone) : Prop where
  rx : c.rx = b.rx
  silence : c.silence = b.silence
  ownFault : c.ownFault = b.ownFault
  matchCount : c.matchCount = b.matchCount
  matched : c.matched = b.matched
  errorCount : c.errorCount = b.errorCount
  linkFailure : c.linkFailure = b.linkFailure
  offline : c.offline = b.offline
  counts : c.counts.pagesReceived = b.counts.pagesReceived ∧ c.counts.pageErrors = b.counts.pageErrors
    ∧ c.counts.linkFailures = b.counts.linkFailures

theorem Backbone.SameItems.of_unpaged {b c d : Backbone} (h : c.unpaged = d.unpaged) (hd : b.SameItems d) : b.SameItems c where
  rx := (congrArg Backbone.rx h).trans hd.rx
  silence := (congrArg Backbone.silence h).trans hd.silence
  ownFault := (congrArg Backbone.ownFault h).trans hd.ownFault
  matchCount := (congrArg Backbone.matchCount h).trans hd.matchCount
  matched := (congrArg Backbone.matched h).trans hd.matched
  errorCount := (congrArg Backbone.errorCount h).trans hd.errorCount
  linkFailure := (congrArg Backbone.linkFailure h).trans hd.linkFailure
  offline := (congrArg Backbone.offline h).trans hd.offline
  counts := ⟨(congrArg (fun x : Backbone => x.counts.pagesReceived) h).trans hd.counts.1,
    (congrArg (fun x : Backbone => x.counts.pageErrors) h).trans hd.counts.2.1,
    (congrArg (fun x : Backbone => x.counts.linkFailures) h).trans hd.counts.2.2⟩

theorem Backbone.entering_sameItems (b : Backbone) (old new : CouplingState) : b.SameItems (b.entering old new) :=
  ⟨rfl, rfl, rfl, rfl, rfl, rfl, rfl, rfl, rfl, rfl, rfl⟩

theorem State.rederive_sameItems (v : State) (side : Side) : (v.side side).SameItems ((v.rederive side).side side) := by
  refine .of_unpaged (v.rederive_sides side).1 ?_
  split
  · exact ⟨rfl, rfl, rfl, rfl, rfl, rfl, rfl, rfl, rfl, rfl, rfl⟩
  · exact Backbone.entering_sameItems _ _ _

/-- What a change between states that are not COUPLED leaves of the part (R170, R174, R187). -/
structure State.Requieted (v t : State) (side : Side) : Prop where
  own : t.side side = if (v.side side).derive = (v.side side).state then v.side side
    else (v.side side).entering (v.side side).state (v.side side).derive
  other : t.side (otherSide side) = v.side (otherSide side)
  unit : t.cu.epoch = v.cu.epoch
  me : t.me = if (v.side side).derive ≠ (v.side side).state ∧ (v.side side).derive = .faulted then (v.raise .couplingFault).me else v.me
  fs : t.fs = v.fs
  responses : t.ev.responses = v.ev.responses
  rest : t.ct = v.ct ∧ t.mc = v.mc ∧ t.sau = v.sau ∧ t.el = v.el ∧ t.spb = v.spb ∧ t.clb = v.clb ∧ t.sl = v.sl
    ∧ t.memory = v.memory ∧ t.pending = v.pending ∧ t.resetLine = v.resetLine

theorem State.rederive_requieted {v : State} {side : Side} (hold : (v.side side).state ≠ .coupled)
    (hnew : (v.side side).derive ≠ .coupled) : v.Requieted (v.rederive side) side := by
  by_cases hsame : (v.side side).derive = (v.side side).state
  · rw [State.rederive_same hsame]
    exact ⟨(if_pos hsame).symm, rfl, rfl, (if_neg fun h => h.1 hsame).symm, rfl, rfl, rfl, rfl, rfl, rfl, rfl, rfl, rfl, rfl, rfl, rfl⟩
  · rw [State.rederive_uncoupled rfl rfl hsame hold hnew]
    have hentered := v.enterCoupling_entered side (v.side side).state (v.side side).derive
    exact {
      own := (hentered.quietSide hold).trans (if_neg hsame).symm
      other := hentered.other
      unit := hentered.unit.1
      me := hentered.me.trans (by simp [hsame])
      fs := hentered.quietFs hold
      responses := hentered.log.2
      rest := hentered.rest }

theorem State.Requieted.state {v t : State} {side : Side} (h : v.Requieted t side) : (t.side side).state = (v.side side).derive := by
  rw [h.own]
  split
  · next hsame => exact hsame.symm
  · rfl

theorem State.Requieted.sameItems {v t : State} {side : Side} (h : v.Requieted t side) : (v.side side).SameItems (t.side side) := by
  rw [h.own]
  split
  · exact ⟨rfl, rfl, rfl, rfl, rfl, rfl, rfl, rfl, rfl, rfl, rfl⟩
  · exact Backbone.entering_sameItems _ _ _

/-- It changes the Coupling Unit alone where the port does not come to be FAULTED. -/
theorem State.Requieted.onlyChanges {v t : State} {side : Side} (h : v.Requieted t side) : v.onlyChanges t [.cu, .me] := by
  obtain ⟨hct, hmc, hsau, hel, hspb, hclb, hsl, hmemory, hpending, hline⟩ := h.rest
  simp [State.onlyChanges_iff, h.fs, hct, hmc, hsau, hel, hspb, hclb, hsl, hmemory, hpending, hline]

theorem State.Requieted.onlyChanges_cu {v t : State} {side : Side} (h : v.Requieted t side) (hme : t.me = v.me) :
    v.onlyChanges t [.cu] := by
  obtain ⟨hct, hmc, hsau, hel, hspb, hclb, hsl, hmemory, hpending, hline⟩ := h.rest
  simp [State.onlyChanges_iff, h.fs, hme, hct, hmc, hsau, hel, hspb, hclb, hsl, hmemory, hpending, hline]

theorem State.onlyChanges_onSide (s : State) (side : Side) (f : Backbone → Backbone) : s.onlyChanges (s.onSide side f) [.cu] := by
  simp [State.onlyChanges_iff, State.onSide]

/-! ### Reading a page -/

section Pages

variable {page : Bytes}

theorem faultOf_eq_none {b : Byte} (h : 3 < b.toNat) : faultOf b = none := by
  unfold faultOf
  rw [if_neg, if_neg, if_neg, if_neg] <;>
  · rintro rfl
    exact absurd h (by decide)

theorem readPage_short (h : page.length < 9) : readPage page = .malformed := by
  rw [readPage, if_pos h]

theorem readPage_disagrees (h : 9 ≤ page.length) (hc : field page 5 4 ≠ beBytes 4 (crc32 (page.take 5)).toNat) :
    readPage page = .checkError := by
  rw [readPage, if_neg (by omega), if_pos (by simpa using hc)]

theorem readPage_agrees (h : 9 ≤ page.length) (hc : field page 5 4 = beBytes 4 (crc32 (page.take 5)).toNat) : readPage page
    = match faultOf (byteAt page 3) with
      | none => .malformed
      | some fault => if page.length = 9 ∧ (byteAt page 4).toNat ≤ 1 then
          .valid { vehicle := beNat (field page 0 3), fault := fault, mark := byteAt page 4 == 1 } else .malformed := by
  rw [readPage, if_neg (by omega), if_neg (by simpa using hc)] <;> rfl

theorem readPage_bad (h : 9 ≤ page.length) (hc : field page 5 4 = beBytes 4 (crc32 (page.take 5)).toNat)
    (hbad : page.length ≠ 9 ∨ 3 < (byteAt page 3).toNat ∨ 1 < (byteAt page 4).toNat) : readPage page = .malformed := by
  rw [readPage_agrees h hc]
  rcases hbad with hbad | hbad | hbad
  · split
    · rfl
    · rw [if_neg fun hc => hbad hc.1]
  · rw [faultOf_eq_none hbad]
  · split
    · rfl
    · rw [if_neg fun hc => by omega]

/-- A page of the part's own making is read as what it was made of (R170, R225). -/
theorem readPage_pageBytes {v : Nat} (hv : v ≤ 16777215) (mark : Bool) :
    readPage (pageBytes v .none mark) = .valid { vehicle := v, fault := .none, mark := mark } := by
  obtain ⟨a, b, c, habc⟩ : ∃ a b c, beBytes 3 v = [a, b, c] := ⟨_, _, _, rfl⟩
  have hnat : beNat [a, b, c] = v := by
    rw [← habc, beNat_beBytes]
    omega
  have hcode : FaultCode.none.code = 0 := rfl
  obtain ⟨p, q, r, s, hpqrs⟩ : ∃ p q r s, beBytes 4 (crc32 [a, b, c, 0, if mark then 1 else 0]).toNat = [p, q, r, s] :=
    ⟨_, _, _, _, rfl⟩
  have hpage : pageBytes v .none mark = [a, b, c, 0, if mark then 1 else 0, p, q, r, s] := by
    rw [pageBytes, withCrc32, habc, hcode]
    change [a, b, c, 0, if mark then 1 else 0] ++ beBytes 4 (crc32 [a, b, c, 0, if mark then 1 else 0]).toNat = _
    rw [hpqrs]
    rfl
  rw [hpage, readPage_agrees (by simp) (by rw [← hpqrs]; simp [field, beBytes_length])]
  cases mark <;> simp [byteAt, field, faultOf, hnat]

end Pages

/-! ### Taking a page -/

section Taking

variable {s : State} {side : Side} {page : Bytes}

theorem takePage_malformed (hheld : (s.side side).pagingHeld = false) (h : readPage page = .malformed) :
    s.takePage side page = s.countSide side fun c => { c with pageErrors := bump c.pageErrors } := by
  simp [State.takePage, hheld, h]

theorem takePage_checkError (hheld : (s.side side).pagingHeld = false) (h : readPage page = .checkError) :
    s.takePage side page = (s.countSide side fun c => { c with pageErrors := bump c.pageErrors }).countError side := by
  simp [State.takePage, hheld, h]

theorem takePage_valid {rx : Received} (hheld : (s.side side).pagingHeld = false) (h : readPage page = .valid rx) :
    s.takePage side page = (s.onSide side fun b => b.afterPage rx s.cu.vehicle).rederive side := by
  simp [State.takePage, hheld, h]

/-- A port's items when a link failure begins (R177). -/
def Backbone.failed (b : Backbone) : Backbone :=
  { b with ownFault := .linkFailure, linkFailure := some 1000, counts := { b.counts with linkFailures := bump b.counts.linkFailures } }

theorem State.linkFailureBegin_eq (s : State) (side : Side) :
    s.linkFailureBegin side = (s.onSide side Backbone.failed).rederive side := rfl

/-- The items of a port after an error in its window (R176, R177). -/
theorem State.countError_items (s : State) (side : Side) :
    ((s.countError side).side side).errorCount = moreErrors (s.side side).errorCount
    ∧ ((s.countError side).side side).rx = (s.side side).rx
    ∧ ((s.countError side).side side).counts.pagesReceived = (s.side side).counts.pagesReceived
    ∧ ((s.countError side).side side).counts.pageErrors = (s.side side).counts.pageErrors := by
  unfold State.countError
  dsimp only
  split
  · rw [State.linkFailureBegin_eq]
    have hsame := State.rederive_sameItems
      ((s.onSide side fun x => { x with errorCount := moreErrors (s.side side).errorCount }).onSide side Backbone.failed) side
    obtain ⟨hreceived, herrors, _⟩ := hsame.counts
    rw [hsame.errorCount, hsame.rx, hreceived, herrors, State.side_onSide_self, State.side_onSide_self]
    exact ⟨rfl, rfl, rfl, rfl⟩
  · rw [State.side_onSide_self]
    exact ⟨rfl, rfl, rfl, rfl⟩

/-- An error that does not bring the window's count to 16 is counted there and nothing more (R176). -/
theorem State.countError_below (s : State) {side : Side} (h : (s.side side).errorCount ≠ 15) : s.countError side
    = s.onSide side fun x => { x with errorCount := moreErrors (s.side side).errorCount } := by
  have hne : moreErrors (s.side side).errorCount ≠ 16 := by
    unfold moreErrors
    split <;> omega
  unfold State.countError
  exact if_neg fun hc => hne hc.1

/-- The sixteenth error of a window begins a link failure, unless the port is DECOUPLED or has a failure already (R176, R177). -/
theorem State.countError_sixteenth (s : State) {side : Side} (h : (s.side side).errorCount = 15)
    (hstate : (s.side side).state ≠ .decoupled) (hown : (s.side side).ownFault = .none) : s.countError side
    = (s.onSide side fun x => { x with errorCount := 16 }).linkFailureBegin side := by
  have hcond : moreErrors (s.side side).errorCount = 16 ∧ (s.side side).state ≠ .decoupled ∧ (s.side side).ownFault ≠ .offline
      ∧ (s.side side).ownFault ≠ .linkFailure := by
    rw [h, hown]
    exact ⟨rfl, hstate, by simp, by simp⟩
  unfold State.countError
  dsimp only
  rw [if_pos hcond, hcond.1]

end Taking

/-- The items after a page of another part's number, without fault, on a port without fault (R172, R173). -/
theorem Backbone.afterPage_good {b : Backbone} {rx : Received} {vehicle : Nat} (hown : b.ownFault = .none) (hfault : rx.fault = .none)
    (hzero : rx.vehicle ≠ 0) (hne : rx.vehicle ≠ vehicle) : b.afterPage rx vehicle = { b with
      rx := some rx, ownFault := .none
      matchCount := if b.matched = some rx.vehicle then min (b.matchCount + 1) 3 else 1
      matched := some rx.vehicle, silence := some 50
      counts := { b.counts with pagesReceived := bump b.counts.pagesReceived } } := by
  have hinvalid : (rx.vehicle == 0 || rx.vehicle == vehicle) = false := by simp [hzero, hne]
  by_cases hm : b.matched = some rx.vehicle
  · simp [Backbone.afterPage, hinvalid, hown, hfault, faultAfterTest, matchAfter, hm]
  · simp [Backbone.afterPage, hinvalid, hown, hfault, faultAfterTest, matchAfter, hm]

/-- The items after a page of number 0 or of the part's own number, on a port without fault (R172, R173). -/
theorem Backbone.afterPage_invalid {b : Backbone} {rx : Received} {vehicle : Nat} (hown : b.ownFault = .none)
    (hbad : rx.vehicle = 0 ∨ rx.vehicle = vehicle) : b.afterPage rx vehicle = { b with
      rx := some rx, ownFault := .couplingError, matchCount := 0, matched := none, silence := some 50
      counts := { b.counts with pagesReceived := bump b.counts.pagesReceived } } := by
  have hinvalid : (rx.vehicle == 0 || rx.vehicle == vehicle) = true := by simpa using hbad
  simp [Backbone.afterPage, hinvalid, hown, faultAfterTest, matchAfter]

/-! ### An event that owes no reset -/

theorem State.compose_due (s : State) (side : Side) (frame : State → Bytes) :
    (s.compose side false frame).1.ev.resetDue = s.ev.resetDue := by
  have hlose : ∀ t : State, (t.loseComposed false).ev.resetDue = t.ev.resetDue := fun t => Bool.or_false _
  by_cases hfree : s.freeSlots = 0
  · rw [State.compose_no_slot side false frame hfree]
    exact hlose s
  · have happend : ((s.claimed (s.composedSlot false frame) (s.fs.slots.firstFree 0)).append (.backbone side)
        { slot := s.fs.slots.firstFree 0 } false).1.ev = s.ev := by simp
    by_cases hroom : s.backboneRoom side = 0
    · rw [State.compose_refused side false frame hfree hroom, ← happend]
      exact (hlose _).trans (congrArg EventLog.resetDue (State.freeSlot_keeps _ _).2.1)
    · rw [State.compose_kept side false frame hfree hroom, ← happend]

/-- An event that owes no reset, and composes no response that brings one, just closes (R49). -/
theorem State.endEvent_of_undue {u : State} (h : u.ev.resetDue = false) (hr : ∀ r ∈ u.ev.responses, r.isReset = false) :
    u.endEvent = u.notified.settleInHand.duePages := by
  have hresponses : ∀ (rs : List Response) (t : State), (∀ r ∈ rs, r.isReset = false) →
      (rs.foldl (fun t r => t.sendResponse r) t).ev.resetDue = t.ev.resetDue := by
    intro rs
    induction rs with
    | nil => exact fun _ _ => rfl
    | cons r rest ih =>
      intro t hrs
      rw [List.foldl_cons, ih _ fun q hq => hrs q (List.mem_cons_of_mem _ hq)]
      have hcomposed := t.compose_due (t.responseSide r) (responseFrame r)
      rw [← hrs r List.mem_cons_self] at hcomposed
      exact hcomposed
  have hnotices : ∀ (n : Nat) (t : State), (t.ordinaryNotices n).ev.resetDue = t.ev.resetDue := by
    intro n
    induction n with
    | zero => exact fun _ => rfl
    | succ n ih =>
      intro t
      unfold State.ordinaryNotices
      split
      · rfl
      · next st _ => exact (ih _).trans (t.compose_due st.side (noticeFrame st false))
  have hnotified : u.notified.ev.resetDue = false := by
    rw [State.notified_eq, hnotices, State.responded_foldl, hresponses _ _ hr]
    change u.lamped.ev.resetDue = false
    rw [u.lamped_keeps.2.2.2.1]
    exact h
  have hclosed : u.notified.settleInHand.duePages.ev.resetDue = false := by
    rw [(State.duePages_spoken _).log]
    change u.notified.settleInHand.ev.resetDue = false
    rw [State.settleInHand_ev]
    exact hnotified
  rw [← State.closeEvent_eq] at hclosed ⊢
  rw [State.endEvent]
  simp [hclosed]

/-- A request that sets a port's items, which stays out of the coupled set, changes the Coupling Unit alone but for the cause that it may
raise (R179, R187). -/
theorem State.requestOnly.requieted {s t u : State} {h : ReqHeader} {side : Side} {f : Backbone → Backbone}
    (ht : s.requestOnly t h [.cu]) (hu : (t.onSide side f).Requieted u side) : s.requestOnly u h [.cu] := by
  obtain ⟨hc, ha, hl, hk, hqueues⟩ := ht
  have honly : s.onlyChanges u [.fs, .me, .cu] :=
    (hc.trans ((t.onlyChanges_onSide side f).mono (by simp))).trans (hu.onlyChanges.mono (by simp))
  have hqueue : ∀ port, u.queue port = t.queue port := fun port => by
    rw [State.queue_eq_of_fs hu.fs]
    rcases port with p | c | (_ | _) <;> rfl
  have hme : u.me = t.me ∨ u.me = (t.raise .couplingFault).me := by
    rw [hu.me]
    split
    · exact Or.inr rfl
    · exact Or.inl rfl
  refine ⟨honly, ?_, ?_, ?_, fun port hport => (hqueue port).trans (hqueues port hport)⟩
  · rcases hme with h | h <;> rw [h] <;> exact ha
  · rcases hme with h | h <;> rw [h] <;> exact hl
  · rcases hme with h | h <;> rw [h, ← hk]
    change (t.me.stations.map _).map Station.kept = _
    rw [List.map_map]
    exact List.map_congr_left fun st _ => Station.enter_kept _ _ _ _

theorem sideOf_sideCode (side : Side) : sideOf (sideCode side) = some side := by cases side <;> rfl

/-- Only the counters of one port change (R50). -/
theorem State.portCounts_countPort (s : State) (port : Port) (f : PortCounters → PortCounters) :
    portCounts s (s.beginEvent.countPort port f) port f := by
  refine ⟨?_, fun q hq => ?_⟩
  · rw [State.countPort, State.onQueue, State.queue_setQueue_self]
    rfl
  · rw [State.countPort, State.onQueue, State.queue_setQueue_of_ne _ _ hq]
    rfl

/-- A frame whose check fails is counted on the port and in its window (R42, R176). -/
theorem State.checkFrame_bad (s : State) (side : Side) {frame : Bytes} (h : frameCheckOk frame = false) : s.checkFrame side frame
    = (s.countPort (.backbone side) fun c => { c with checkErrors := bump c.checkErrors }).countError side := by
  rw [State.checkFrame, if_pos (by simp [h])]

end Sys2Proof.Machine

namespace Sys2Proof.Proofs

open Sys2Proof.Machine

/-- Settles O43: a page is read by its length, its check and its fields; the part's own is made of its items. -/
theorem pagesAreReadAndMade : Obligations.PagesAreReadAndMade := by
  unfold Obligations.PagesAreReadAndMade
  refine ⟨fun s side page hline hheld => ?_, fun s side => ?_⟩
  · have hmalformed : readPage page = .malformed → ∃ u, reaches (.pageArrival side page) s u
        ∧ u.side side = { s.side side with counts := { (s.side side).counts with pageErrors := bump (s.side side).counts.pageErrors } }
        ∧ u.side (otherSide side) = s.side (otherSide side) ∧ s.onlyChanges u [.cu] := fun h => by
      refine ⟨_, reaches_event rfl hline (takePage_malformed (by exact hheld) h), ?_, ?_, ?_⟩
      · rw [State.countSide, State.side_onSide_self]; rfl
      · rw [State.countSide, State.side_onSide_other]; rfl
      · exact (State.onlyChanges_beginEvent _ _).trans (State.onlyChanges_onSide _ _ _)
    refine ⟨fun h => hmalformed (readPage_short h), fun h hc => ?_, fun h hc hbad => hmalformed (readPage_bad h hc hbad),
      fun fault hlen hc hfault hmark => ?_⟩
    · refine ⟨_, reaches_event rfl hline (takePage_checkError (by exact hheld) (readPage_disagrees h hc)), ?_⟩
      obtain ⟨hcount, hrx, hreceived, herrors⟩ := State.countError_items
        (s.beginEvent.countSide side fun c => { c with pageErrors := bump c.pageErrors }) side
      rw [hcount, hrx, hreceived, herrors, State.countSide, State.side_onSide_self]
      exact ⟨rfl, rfl, rfl, rfl⟩
    · have hread := readPage_agrees (by omega) hc
      rw [hfault] at hread
      dsimp only at hread
      rw [if_pos ⟨hlen, hmark⟩] at hread
      refine ⟨_, reaches_event rfl hline (takePage_valid (by exact hheld) hread), ?_⟩
      have hsame := State.rederive_sameItems (s.beginEvent.onSide side fun b =>
        b.afterPage { vehicle := beNat (field page 0 3), fault := fault, mark := byteAt page 4 == 1 } s.beginEvent.cu.vehicle) side
      obtain ⟨hreceived, herrors, _⟩ := hsame.counts
      rw [hreceived, herrors, hsame.errorCount, hsame.silence, hsame.rx, State.side_onSide_self]
      exact ⟨rfl, rfl, rfl, rfl, rfl⟩
  · simp [State.ownPage, pageBytes, withCrc32]

/-- Settles O18: a port that is not COUPLED and each of the checks count and drop; a sixteenth check error begins a link failure. -/
theorem backboneFrameChecks : Obligations.BackboneFrameChecks := by
  unfold Obligations.BackboneFrameChecks
  intro s side frame hline
  have hcount : ∀ f : PortCounters → PortCounters, portCounts s (s.beginEvent.countPort (.backbone side) f) (.backbone side) f
      ∧ (s.beginEvent.countPort (.backbone side) f).fs.slots = s.fs.slots
      ∧ s.onlyChanges (s.beginEvent.countPort (.backbone side) f) [.fs] := fun f =>
    ⟨State.portCounts_countPort s _ f, State.setQueue_slots _ _ _, by simp [State.onlyChanges_iff]⟩
  have hcoupledFrame : s.coupled side = true → s.beginEvent.backboneFrame side frame = s.beginEvent.checkFrame side frame := fun hc => by
    rw [State.backboneFrame, State.onCoupledPort, if_pos (by exact hc)]
  refine ⟨fun hc => ?_, fun hc hbad hne => ?_, fun hc hbad herr hown hrx => ?_, fun hc hok hlen => ?_, fun hc hok hlen => ?_,
    fun hc hok hmin hmax hfree => ?_⟩
  · obtain ⟨hport, hslots, honly⟩ := hcount fun c => { c with notCoupled := bump c.notCoupled }
    refine ⟨_, reaches_event rfl hline ?_, hport, hslots, honly⟩
    rw [State.backboneFrame, State.onCoupledPort, if_neg (by simp [hc])]
  · obtain ⟨hport, hslots, honly⟩ := hcount fun c => { c with checkErrors := bump c.checkErrors }
    have hframe := (hcoupledFrame hc).trans (State.checkFrame_bad s.beginEvent side hbad)
    rw [State.countError_below _ (by exact hne)] at hframe
    refine ⟨_, reaches_event rfl hline hframe, ?_, ?_, ?_, ?_⟩
    · obtain ⟨hself, hothers⟩ := hport
      exact ⟨hself, hothers⟩
    · exact hslots
    · rw [State.side_onSide_self]
      rfl
    · exact (honly.mono (by simp)).trans ((State.onlyChanges_onSide _ _ _).mono (by simp))
  · have hframe := (hcoupledFrame hc).trans (State.checkFrame_bad s.beginEvent side hbad)
    have hstate : (s.side side).state = .coupled := by simpa [State.coupled] using hc
    rw [State.countError_sixteenth _ (by exact herr) (by change (s.side side).state ≠ _; rw [hstate]; simp) (by exact hown),
      State.linkFailureBegin_eq] at hframe
    obtain ⟨v, hv⟩ : ∃ v, v = ((s.beginEvent.countPort (.backbone side) fun c => { c with checkErrors := bump c.checkErrors }).onSide side
      fun x => { x with errorCount := 16 }).onSide side Backbone.failed := ⟨_, rfl⟩
    rw [← hv] at hframe
    have hvside : v.side side = Backbone.failed { s.side side with errorCount := 16 } := by
      rw [hv, State.side_onSide_self, State.side_onSide_self]
      rfl
    have hvstate : (v.side side).state = .coupled := by rw [hvside]; exact hstate
    have hvderive : (v.side side).derive = .faulted := by
      obtain ⟨rx, hrx⟩ := Option.isSome_iff_exists.1 hrx
      simp [hvside, Backbone.derive, Backbone.failed, hrx]
    have hsame := v.rederive_sameItems side
    have hunpaged := (v.rederive_sides side).1
    rw [if_neg (by rw [hvstate, hvderive]; simp), hvderive] at hunpaged
    have hentered := v.enterCoupling_entered side .coupled .faulted
    have hchanged := (v.enterCoupling side .coupled .faulted).coupledSetChange_changed
    have hset := State.rederive_coupled hvstate hvderive (by simp) (Or.inl rfl)
    rw [← hset] at hchanged
    obtain ⟨n, hsau⟩ := hchanged.sau
    have hvepoch : v.cu.epoch = s.cu.epoch := by
      rw [hv, (State.onSide_unit _ _ _).1, (State.onSide_unit _ _ _).1]
      rfl
    have hraised : (v.rederive side).raised .couplingFault = bump (s.raised .couplingFault) := by
      rw [hchanged.raised _ (by simp), State.raised_eq_of_me hentered.me, State.raised_raise_same,
        State.raised_eq_of_me (s := s) (by rw [hv]; rfl)]
    refine ⟨_, reaches_event rfl hline hframe, ?_, ?_, ?_, congrArg Backbone.state hunpaged, ?_, hraised, ?_, hchanged.stations, ?_⟩
    · rw [hsame.ownFault, hvside]; rfl
    · rw [hsame.linkFailure, hvside]; rfl
    · rw [hsame.errorCount, hvside]; rfl
    · rw [hsame.counts.2.2, hvside]; rfl
    · rw [hchanged.cu]
      change (v.enterCoupling side .coupled .faulted).cu.epoch + 1 = _
      rw [hentered.unit.1, hvepoch]
    · rw [hsau]; rfl
  · obtain ⟨hport, hslots, honly⟩ := hcount fun c => { c with runts := bump c.runts }
    refine ⟨_, reaches_event rfl hline ?_, hport, hslots, honly⟩
    rw [hcoupledFrame hc, State.checkFrame, if_neg (by simp [hok]), if_pos hlen]
  · obtain ⟨hport, hslots, honly⟩ := hcount fun c => { c with oversize := bump c.oversize }
    refine ⟨_, reaches_event rfl hline ?_, hport, hslots, honly⟩
    rw [hcoupledFrame hc, State.checkFrame, if_neg (by simp [hok]), if_neg (by omega), if_pos hlen]
  · refine ⟨s.beginEvent.countFs fun c => { c with backboneNoSlot := bump c.backboneNoSlot }, reaches_event rfl hline ?_, fun q => ?_, rfl,
      rfl, by simp [State.onlyChanges_iff]⟩
    · rw [hcoupledFrame hc, State.checkFrame, if_neg (by simp [hok]), if_neg (by omega), if_neg (by omega), State.acceptFrame,
        State.claim_of_le (by exact hfree)]
    · rcases q with p | c | (_ | _) <;> rfl

/-- Settles O45: a valid page sets the items, and the state derived of them is entered. -/
theorem pagesCouple : Obligations.PagesCouple := by
  unfold Obligations.PagesCouple
  intro s side v mark hline hheld hv
  have hread := readPage_pageBytes hv mark
  have htake := takePage_valid (s := s.beginEvent) (side := side) (by exact hheld) hread
  obtain ⟨w, hw⟩ : ∃ w, w = s.beginEvent.onSide side fun b =>
    b.afterPage { vehicle := v, fault := .none, mark := mark } s.cu.vehicle := ⟨_, rfl⟩
  have hwside : w.side side = (s.side side).afterPage { vehicle := v, fault := .none, mark := mark } s.cu.vehicle := by
    rw [hw, State.side_onSide_self]; rfl
  have hwother : w.side (otherSide side) = s.side (otherSide side) := by rw [hw, State.side_onSide_other]; rfl
  have hwonly : s.onlyChanges w [.cu] := by
    rw [hw]
    exact (State.onlyChanges_beginEvent _ _).trans (State.onlyChanges_onSide _ _ _)
  have hwev : w.ev = s.beginEvent.ev := by rw [hw]; rfl
  have hwepoch : w.cu.epoch = s.cu.epoch := by rw [hw, (State.onSide_unit _ _ _).1]; rfl
  have hwsau : w.sau = s.sau := by rw [hw]; rfl
  have hwme : w.me = s.me := by rw [hw]; rfl
  have hgo : reaches (.pageArrival side (pageBytes v .none mark)) s (w.rederive side) :=
    reaches_event rfl hline (htake.trans (by rw [hw]; rfl))
  have hsame := w.rederive_sameItems side
  have hsides := w.rederive_sides side
  have hheard : ((w.rederive side).side side).rx = some { vehicle := v, fault := .none, mark := mark }
      ∧ ((w.rederive side).side side).silence = some 50 ∧ (w.rederive side).side (otherSide side) = s.side (otherSide side) := by
    rw [hsame.rx, hsame.silence, hsides.2, hwside, hwother]
    exact ⟨rfl, rfl, rfl⟩
  clear hw
  refine ⟨fun hstate hown hcount hmatched hzero hne => ?_, fun hstate hown hbad => ?_, fun hstate hown hcount hmatched hzero hne hmark => ?_,
    fun hstate hown hcount hmatched hzero hne hmark => ?_⟩
  · rw [Backbone.afterPage_good hown rfl (by exact hzero) (by exact hne)] at hwside
    have hwstate : (w.side side).state = .decoupled := by rw [hwside]; exact hstate
    have hwderive : (w.side side).derive = .paging := by simp [hwside, Backbone.derive, hmatched]
    have hquiet := State.rederive_requieted (v := w) (side := side) (by rw [hwstate]; simp) (by rw [hwderive]; simp)
    have hentered := w.enterCoupling_entered side .decoupled .paging
    have henter := State.rederive_uncoupled hwstate hwderive (by simp) (by simp) (by simp)
    rw [← henter] at hentered
    have hown' := hentered.quietSide (by simp)
    have hpages : (w.rederive side).ev.pages = [side] := by
      rw [hentered.pages, if_pos rfl, hwev]
      rfl
    have hme : (w.rederive side).me = w.me := hentered.me
    obtain ⟨hct, hmc, hsau, hel, hspb, hclb, hsl, hmemory, hpending, hline'⟩ := hentered.rest
    refine ⟨_, hgo, hheard, ?_, ?_, ?_, ?_, hpages, ?_, hentered.unit.1.trans hwepoch, hsau.trans hwsau, hwonly.trans ?_⟩
    · rw [hquiet.state, hwderive]
    · rw [hsame.matchCount, hwside]; simp [hmatched]
    · rw [hsame.matched, hwside]
    · rw [hown']; rfl
    · refine State.endEvent_pages (State.endEvent_of_undue ?_ ?_) (by rw [hpages]; simp) ?_
      · rw [hentered.quietDue (by simp), hwev]; rfl
      · rw [hentered.log.2, hwev]; simp
      · rw [hown', hwside]; exact hheld
    · simp [State.onlyChanges_iff, hentered.quietFs, hme, hct, hmc, hsau, hel, hspb, hclb, hsl, hmemory, hpending, hline']
  · rw [Backbone.afterPage_invalid hown (by exact hbad)] at hwside
    have hwstate : (w.side side).state = .paging := by rw [hwside]; exact hstate
    have hwderive : (w.side side).derive = .faulted := by simp [hwside, Backbone.derive]
    have hquiet := State.rederive_requieted (v := w) (side := side) (by rw [hwstate]; simp) (by rw [hwderive]; simp)
    have hme := hquiet.me
    rw [hwderive, hwstate, if_pos ⟨by simp, rfl⟩] at hme
    refine ⟨_, hgo, hheard, by rw [hquiet.state, hwderive], by rw [hsame.ownFault, hwside], by rw [hsame.matchCount, hwside],
      by rw [hsame.matched, hwside], ?_, ?_, (hwonly.mono (by simp)).trans hquiet.onlyChanges⟩
    · rw [State.raised_eq_of_me hme, State.raised_raise_same, State.raised_eq_of_me hwme]
    · rw [hquiet.own, hwderive, hwstate, if_neg (by simp), hwside]; rfl
  · rw [Backbone.afterPage_good hown rfl (by exact hzero) (by exact hne)] at hwside
    have hwstate : (w.side side).state = .paging := by rw [hwside]; exact hstate
    have hwderive : (w.side side).derive = .coupled := by simp [hwside, Backbone.derive, hmatched, hcount, hmark]
    have hunpaged := hsides.1
    rw [hwderive, hwstate, if_neg (by simp)] at hunpaged
    have hchanged := (w.enterCoupling side .paging .coupled).coupledSetChange_changed
    have hset := State.rederive_coupled hwstate hwderive (by simp) (Or.inr rfl)
    rw [← hset] at hchanged
    obtain ⟨n, hsau⟩ := hchanged.sau
    refine ⟨_, hgo, hheard, congrArg Backbone.state hunpaged, ?_, ?_, ?_, ?_, hchanged.stations⟩
    · rw [hsame.matchCount, hwside]; simp [hmatched, hcount]
    · have hcouplings := congrArg (fun b : Backbone => b.counts.couplings) hunpaged
      rw [hwside] at hcouplings
      exact hcouplings
    · rw [hchanged.cu]
      change (w.enterCoupling side .paging .coupled).cu.epoch + 1 = _
      rw [(w.enterCoupling_entered side .paging .coupled).unit.1, hwepoch]
    · rw [hsau]; rfl
  · rw [Backbone.afterPage_good hown rfl (by exact hzero) (by exact hne)] at hwside
    have hwstate : (w.side side).state = .coupled := by rw [hwside]; exact hstate
    have hwderive : (w.side side).derive = .coupled := by simp [hwside, Backbone.derive, hmatched, hcount, hmark]
    rw [State.rederive_same (hwderive.trans hwstate.symm)] at hgo hheard
    exact ⟨w, hgo, hheard, hwstate, by rw [hwside]; simp [hmatched, hcount], hwepoch, hwsau, hwme, hwonly⟩

/-- Settles O47: each timer's expiry changes its port's items, and the state is derived again. -/
theorem backboneTimersAndOffline : Obligations.BackboneTimersAndOffline := by
  unfold Obligations.BackboneTimersAndOffline
  intro s side hline
  dsimp only
  refine ⟨fun hpage hheld => ?_, fun hsilence hstate => ?_, fun hwindow => ?_, fun rx hfailure hstate hrx hcount => ?_,
    fun h ht hcab hstate hne => ⟨fun hoff => ?_, fun hoff hown hcount => ?_, ?_⟩⟩
  · obtain ⟨hspoken, htold⟩ : s.beginEvent.Spoken (s.beginEvent.makePage side)
        ∧ s.beginEvent.Told (s.beginEvent.makePage side) (.backbone side) := ⟨.sendControl _ _ _, .sendControl _ _ _⟩
    have hmade := State.sendControl_made (s := s.beginEvent) (port := .backbone side) (m := .page (s.ownPage side))
      (by simp [State.controlOpen, hheld]) rfl
    have hstateKept : ((s.beginEvent.makePage side).side side).state = (s.side side).state := htold.state side
    refine ⟨s.beginEvent.pageExpiry side, reaches_eventWhen rfl hline (by simp [hpage, isDue]) rfl, hmade, ?_, ?_, ?_, ?_⟩
    · rw [State.pageExpiry, State.side_onSide_self, ← hstateKept]
    · rw [State.pageExpiry, State.side_onSide_self, ← hstateKept]
    · rw [State.pageExpiry, State.side_onSide_other, htold.sides _ (by simpa using (otherSide_ne side).symm)]
      rfl
    · have hspb := htold.spb fun p h => by cases h
      refine State.onlyChanges.trans ?_ ((State.onlyChanges_onSide (s.beginEvent.makePage side) side _).mono (by simp))
      change (s.beginEvent.makePage side).spb = _ at hspb
      simp [State.onlyChanges_iff, hspb]
  · obtain ⟨v, hv⟩ : ∃ v, v = s.beginEvent.onSide side Backbone.silenced := ⟨_, rfl⟩
    have hvside : v.side side = (s.side side).silenced := by rw [hv, State.side_onSide_self]; rfl
    have hvstate : (v.side side).state = .paging := by rw [hvside]; exact hstate
    have hvderive : (v.side side).derive = .decoupled := by rw [hvside]; rfl
    have hquiet := State.rederive_requieted (v := v) (side := side) (by rw [hvstate]; simp) (by rw [hvderive]; simp)
    have hown := hquiet.own
    have hme := hquiet.me
    rw [hvderive, hvstate, if_neg (by simp), hvside] at hown
    rw [hvderive, if_neg (by simp)] at hme
    refine ⟨v.rederive side, reaches_eventWhen rfl hline (by simp [hsilence, isDue]) (by rw [hv]; rfl), hown, ?_, ?_, ?_⟩
    · rw [hquiet.other, hv, State.side_onSide_other]; rfl
    · rw [hquiet.unit, hv, (State.onSide_unit _ _ _).1]; rfl
    · have hvonly : s.onlyChanges v [.cu] := by
        rw [hv]
        exact (State.onlyChanges_beginEvent _ _).trans (State.onlyChanges_onSide _ _ _)
      exact hvonly.trans (hquiet.onlyChanges_cu hme)
  · refine ⟨s.beginEvent.errorWindowEnd side, reaches_eventWhen rfl hline (by simp [hwindow, isDue]) rfl, ?_, ?_, ?_⟩
    · rw [State.errorWindowEnd, State.side_onSide_self]; rfl
    · rw [State.errorWindowEnd, State.side_onSide_other]; rfl
    · exact (State.onlyChanges_beginEvent _ _).trans (State.onlyChanges_onSide _ _ _)
  · obtain ⟨v, hv⟩ : ∃ v, v = s.beginEvent.onSide side fun b => { b with ownFault := .none, linkFailure := none } := ⟨_, rfl⟩
    have hvside : v.side side = { s.side side with ownFault := .none, linkFailure := none } := by rw [hv, State.side_onSide_self]; rfl
    have hvstate : (v.side side).state = .faulted := by rw [hvside]; exact hstate
    have hvderive : (v.side side).derive = if rx.fault = .none then .paging else .faulted := by
      by_cases hfault : rx.fault = .none
      · simp [hvside, Backbone.derive, hrx, hcount, hfault]
      · simp [hvside, Backbone.derive, hrx, hfault]
    have hquiet := State.rederive_requieted (v := v) (side := side) (by rw [hvstate]; simp) (by rw [hvderive]; split <;> simp)
    have hown := hquiet.own
    have hme := hquiet.me
    rw [hvderive, hvstate, hvside] at hown
    rw [hvderive, hvstate, if_neg (by simp)] at hme
    refine ⟨v.rederive side, reaches_eventWhen rfl hline (by simp [hfailure, isDue]) (by rw [hv]; rfl), ?_, ?_, ?_⟩
    · rw [hown]
      by_cases hfault : rx.fault = .none
      · simp [hfault, Backbone.entering]
      · simp [hfault, hstate]
    · rw [hquiet.other, hv, State.side_onSide_other]; rfl
    · have hvonly : s.onlyChanges v [.cu] := by
        rw [hv]
        exact (State.onlyChanges_beginEvent _ _).trans (State.onlyChanges_onSide _ _ _)
      exact hvonly.trans (hquiet.onlyChanges_cu hme)
  · obtain ⟨t, ht, hserved⟩ := served_answered (q := .portOffline (sideCode side) 1) ht rfl hcab rfl
    have hside := State.side_eq_of_cu ht.cu
    obtain ⟨v, hv⟩ : ∃ v, v = t.onSide side fun b =>
      { b with offline := true, ownFault := .offline, linkFailure := none, matchCount := 0 } := ⟨_, rfl⟩
    have hperform : t.perform (returnOf h (.portOffline (sideCode side) 1)) (.portOffline (sideCode side) 1)
        = (v.rederive side, some (.ok, [])) := by
      rw [hv]
      simp [State.perform, State.doPortOffline, sideOf_sideCode, boolOf, State.setOffline, hside, hoff, State.accept]
    have hvside : v.side side = { s.side side with offline := true, ownFault := .offline, linkFailure := none, matchCount := 0 } := by
      rw [hv, State.side_onSide_self, hside]
    have hvderive : (v.side side).derive = if (s.side side).rx = none then .decoupled else .faulted := by
      cases hrx : (s.side side).rx <;> simp [hvside, Backbone.derive, hrx]
    have hquiet := State.rederive_requieted (v := v) (side := side) (by rw [hvside]; exact hne) (by rw [hvderive]; split <;> simp)
    have hsame := hquiet.sameItems
    obtain ⟨u, rfl, hu, hanswers⟩ := hserved _ .ok [] hperform (hquiet.responses.trans (by rw [hv]; exact ht.responses)) nofun
    refine ⟨_, hu, hanswers, ?_, ?_, ?_, ?_, ?_, ?_, State.requestOnly.respond ?_ _ _ _ _⟩
    · exact hquiet.other.trans (by rw [hv, State.side_onSide_other, hside])
    · exact hsame.offline.trans (by rw [hvside])
    · exact hsame.ownFault.trans (by rw [hvside])
    · exact hsame.matchCount.trans (by rw [hvside])
    · exact hsame.linkFailure.trans (by rw [hvside])
    · exact hquiet.state.trans hvderive
    · rw [hv] at hquiet ⊢
      exact (ht.requestOnly _).requieted hquiet
  · obtain ⟨t, ht, hserved⟩ := served_answered (q := .portOffline (sideCode side) 0) ht rfl hcab rfl
    have hside := State.side_eq_of_cu ht.cu
    obtain ⟨v, hv⟩ : ∃ v, v = t.onSide side fun b =>
      { b with offline := false, ownFault := if b.ownFault = .offline then .none else b.ownFault } := ⟨_, rfl⟩
    have hperform : t.perform (returnOf h (.portOffline (sideCode side) 0)) (.portOffline (sideCode side) 0)
        = (v.rederive side, some (.ok, [])) := by
      rw [hv]
      simp [State.perform, State.doPortOffline, sideOf_sideCode, boolOf, State.setOffline, hside, hoff, State.accept]
    have hvside : v.side side = { s.side side with offline := false, ownFault := .none } := by
      rw [hv, State.side_onSide_self, hside, hown, if_pos rfl]
    have hvderive : (v.side side).derive = match (s.side side).rx with
        | none => .decoupled
        | some rx => if rx.fault = .none then .paging else .faulted := by
      cases hrx : (s.side side).rx with
      | none => simp [hvside, Backbone.derive, hrx]
      | some rx => by_cases hfault : rx.fault = .none <;> simp [hvside, Backbone.derive, hrx, hfault, hcount]
    have hquiet := State.rederive_requieted (v := v) (side := side) (by rw [hvside]; exact hne) (by
      rw [hvderive]
      split
      · simp
      · split <;> simp)
    have hsame := hquiet.sameItems
    obtain ⟨u, rfl, hu, hanswers⟩ := hserved _ .ok [] hperform (hquiet.responses.trans (by rw [hv]; exact ht.responses)) nofun
    refine ⟨_, hu, hanswers, ?_, ?_, ?_, ?_, State.requestOnly.respond ?_ _ _ _ _⟩
    · exact hquiet.other.trans (by rw [hv, State.side_onSide_other, hside])
    · exact hsame.offline.trans (by rw [hvside])
    · exact hsame.ownFault.trans (by rw [hvside])
    · exact hquiet.state.trans hvderive
    · rw [hv] at hquiet ⊢
      exact (ht.requestOnly _).requieted hquiet
  · obtain ⟨t, ht, hserved⟩ := served_answered (q := .portOffline (sideCode side) (boolByte (s.side side).offline)) ht rfl hcab rfl
    have hside := State.side_eq_of_cu ht.cu
    have hbool : boolOf (boolByte (s.side side).offline) = some (s.side side).offline := by cases (s.side side).offline <;> rfl
    have hperform : t.perform (returnOf h (.portOffline (sideCode side) (boolByte (s.side side).offline)))
        (.portOffline (sideCode side) (boolByte (s.side side).offline)) = (t, some (.ok, [])) := by
      simp [State.perform, State.doPortOffline, sideOf_sideCode, hbool, State.setOffline, hside, State.accept]
    obtain ⟨u, rfl, hu, hanswers⟩ := hserved _ .ok [] hperform ht.responses nofun
    exact ⟨_, hu, hanswers, (ht.requestOnly _).respond _ _ _ _⟩

end Sys2Proof.Proofs
end

section
/-! SUPPORT. What a record that enters LINGERING leaves of the part (R8, R20, R21, R68, R87). -/

namespace Sys2Proof.Machine

/-! ### References given up -/

section Dropping

variable (s : State)

theorem State.refsOf_discardParked (parked : List Nat) (k : Nat) :
    (s.discardParked parked).refsOf k = s.refsOf k - parked.count k := by
  unfold State.discardParked
  rw [refsOf_foldl_drop (slot := id) (fun t j => ?_) parked s]
  · rfl
  · exact (t.refsOf_dropRef j k)

theorem State.refsOf_discardHold (hold : List Nat) (k : Nat) : (s.discardHold hold).refsOf k = s.refsOf k - hold.count k := by
  unfold State.discardHold
  rw [refsOf_foldl_drop (slot := id) (fun t j => ?_) hold s]
  · rfl
  · exact (t.refsOf_dropRef j k)

theorem State.discardHold_mc (hold : List Nat) : (s.discardHold hold).mc = { s.mc with
    counts := { s.mc.counts with holdDiscarded := bumpBy s.mc.counts.holdDiscarded hold.length } } := by
  unfold State.discardHold
  induction hold generalizing s with
  | nil => rw [List.length_nil, bumpBy_zero]; rfl
  | cons k rest ih =>
    rw [List.foldl_cons, ih]
    simp only [State.countMc, State.onMc, State.dropRef_keeps, bump_eq_bumpBy, bumpBy_bumpBy, List.length_cons, Nat.add_comm 1]

theorem State.discardHold_rest (hold : List Nat) : (s.discardHold hold).queue = s.queue := by
  refine foldl_keeps State.queue (fun t k => ?_) hold rfl
  rw [← t.dropRef_queue k]
  rfl

theorem State.discardHold_log (hold : List Nat) : (s.discardHold hold).ev.responses = s.ev.responses
    ∧ (s.discardHold hold).ev.pages = s.ev.pages ∧ (s.discardHold hold).ev.composed = s.ev.composed
    ∧ (s.discardHold hold).ev.levels = s.ev.levels ∧ (s.discardHold hold).ev.thresholds = s.ev.thresholds := by
  have h := foldl_keeps (fun t : State => (t.ev.responses, t.ev.pages, t.ev.composed, t.ev.levels, t.ev.thresholds))
    (f := fun (t : State) k => (t.dropRef k).countMc fun c => { c with holdDiscarded := bump c.holdDiscarded })
    (fun t k => by
      obtain ⟨hcomposed, hpages, hresponses, hlevels, hthresholds⟩ := t.dropRef_composed k
      simp only [Prod.mk.injEq]
      exact ⟨hresponses, hpages, hcomposed, hlevels, hthresholds⟩) hold (b := s) rfl
  simp only [Prod.mk.injEq] at h
  exact h

theorem State.discardParked_log (parked : List Nat) : (s.discardParked parked).ev.responses = s.ev.responses
    ∧ (s.discardParked parked).ev.pages = s.ev.pages ∧ (s.discardParked parked).ev.composed = s.ev.composed
    ∧ (s.discardParked parked).ev.levels = s.ev.levels ∧ (s.discardParked parked).ev.thresholds = s.ev.thresholds := by
  have h := foldl_keeps (fun t : State => (t.ev.responses, t.ev.pages, t.ev.composed, t.ev.levels, t.ev.thresholds))
    (f := fun (t : State) k => (t.dropRef k).countSau fun c => { c with parkedDiscarded := bump c.parkedDiscarded })
    (fun t k => by
      obtain ⟨hcomposed, hpages, hresponses, hlevels, hthresholds⟩ := t.dropRef_composed k
      simp only [Prod.mk.injEq]
      exact ⟨hresponses, hpages, hcomposed, hlevels, hthresholds⟩) parked (b := s) rfl
  simp only [Prod.mk.injEq] at h
  exact h

end Dropping

/-! ### Clearing what is parked -/

section Clearing

variable {s : State} {n : Nat} {r : Record}

theorem State.clearParked_eq (h : s.record n = some r) :
    s.clearParked n = ((s.discardParked r.parked).onRecord n fun x => { x with parked := [] }).leaveWaiting n := by
  unfold State.clearParked
  rw [h]

theorem State.onRecord_record (s : State) (n m : Nat) (f : Record → Record) :
    (s.onRecord n f).record m = if m = n then (s.record n).map f else s.record m := Table.get_modify _ _ _ _

theorem State.clearParked_record (h : s.record n = some r) (m : Nat) :
    (s.clearParked n).record m = if m = n then some { r with parked := [] } else s.record m := by
  rw [State.clearParked_eq h]
  change ((s.discardParked r.parked).onRecord n fun x => { x with parked := [] }).record m = _
  rw [State.onRecord_record, State.record_eq_of_ct (State.discardParked_ct s r.parked), h]
  rfl

theorem State.clearParked_refsOf (h : s.record n = some r) (k : Nat) : (s.clearParked n).refsOf k = s.refsOf k - r.parked.count k := by
  rw [State.clearParked_eq h]
  exact s.refsOf_discardParked r.parked k

theorem State.clearParked_sau (h : s.record n = some r) : ∃ c, (s.clearParked n).sau = { s.sau with
    waiting := s.sau.waiting.filter (fun m => m != n), counts := { s.sau.counts with parkedDiscarded := c } } := by
  obtain ⟨c, hc⟩ := s.discardParked_sau r.parked
  rw [State.clearParked_eq h]
  refine ⟨c, ?_⟩
  change { (s.discardParked r.parked).sau with waiting := (s.discardParked r.parked).sau.waiting.filter fun m => m != n } = _
  rw [hc]

theorem State.clearParked_queue (h : s.record n = some r) : (s.clearParked n).queue = s.queue := by
  rw [State.clearParked_eq h, ← (s.discardParked_rest r.parked).1]
  rfl

theorem State.clearParked_log (h : s.record n = some r) : (s.clearParked n).ev.responses = s.ev.responses
    ∧ (s.clearParked n).ev.pages = s.ev.pages ∧ (s.clearParked n).ev.composed = s.ev.composed
    ∧ (s.clearParked n).ev.levels = s.ev.levels ∧ (s.clearParked n).ev.thresholds = s.ev.thresholds := by
  rw [State.clearParked_eq h]
  exact s.discardParked_log r.parked

theorem State.clearParked_ct (h : s.record n = some r) : (s.clearParked n).ct
    = { s.ct with records := s.ct.records.modify n fun x => { x with parked := [] } } := by
  rw [State.clearParked_eq h]
  change { (s.discardParked r.parked).ct with
    records := (s.discardParked r.parked).ct.records.modify n fun x => { x with parked := [] } } = _
  rw [State.discardParked_ct]

end Clearing

/-! ### Entering LINGERING -/

/-- The entries of the seat's queue that refer to a slot, when a place is a seat. -/
def State.seatRefs (s : State) (pl : Option Place) (k : Nat) : Nat :=
  match pl with
  | some (.seat p) => (s.queue (.seat p)).entries.countP fun e => e.slot == k
  | _ => 0

/-- Record `n`, in use as `r`, enters LINGERING from the place `pl`, its hold entries `hold` discarded; `moved` tells whether it was
MOVING (R8, R21, R68, R87). -/
structure State.Leaves (s t : State) (n : Nat) (r : Record) (pl : Option Place) (hold : List Nat) (moved : Bool) : Prop where
  record : t.record n = some (r.lingers s.ct.lingerTime)
  others : otherRecords s t n
  lingerTime : t.ct.lingerTime = s.ct.lingerTime
  ctCounts : t.ct.counts = s.ct.counts
  sau : ∃ c, t.sau = { s.sau with
    waiting := s.sau.waiting.filter (fun m => m != n), counts := { s.sau.counts with parkedDiscarded := c } }
  mc : t.mc = { s.mc with counts := { s.mc.counts with
    targetsLost := bumpBy s.mc.counts.targetsLost moved.toNat
    holdDiscarded := bumpBy s.mc.counts.holdDiscarded hold.length } }
  refs : ∀ k, t.refsOf k = s.refsOf k - s.seatRefs pl k - (hold.count k + r.parked.count k)
  emptied : ∀ p, pl = some (.seat p) → (t.queue (.seat p)).entries = []
  queues : ∀ q, (∀ p, pl = some (.seat p) → q ≠ .seat p) → t.queue q = s.queue q
  seats : ∀ p, pl ≠ some (.seat p) → t.seat p = s.seat p
  seat : ∀ p, (t.seat p).uncommanded = (s.seat p).uncommanded
  trunk : t.trunk = s.trunk
  spb : (∀ p, pl ≠ some (.seat p)) → t.spb = s.spb
  blink : t.spb.rules = s.spb.rules ∧ t.spb.brightness = s.spb.brightness
  rest : t.el = s.el ∧ t.clb = s.clb ∧ t.cu = s.cu ∧ t.me = s.me ∧ t.sl = s.sl ∧ t.memory = s.memory ∧ t.pending = s.pending
    ∧ t.resetLine = s.resetLine
  log : t.ev.responses = s.ev.responses ∧ t.ev.pages = s.ev.pages ∧ t.ev.composed = s.ev.composed ∧ t.ev.levels = s.ev.levels
    ∧ t.ev.thresholds = s.ev.thresholds

/-- A record made LINGERING, its seat's queue and its parked list discarded. -/
def State.lingering (s : State) (n : Nat) (pl : Place) : State :=
  ((s.onRecord n fun x => { x with st := .lingering (some (s.ct.lingerTime * 1000)) }).leaveSeat (some pl)).clearParked n

/-- What a place that is left takes with it: a seat its queue (R8). -/
theorem State.leaveSeat_leaves (s : State) (pl : Option Place) :
    (∀ k, (s.leaveSeat pl).refsOf k = s.refsOf k - s.seatRefs pl k)
    ∧ (∀ p, pl = some (.seat p) → ((s.leaveSeat pl).queue (.seat p)).entries = [])
    ∧ (∀ q, (∀ p, pl = some (.seat p) → q ≠ .seat p) → (s.leaveSeat pl).queue q = s.queue q)
    ∧ (∀ p, pl ≠ some (.seat p) → (s.leaveSeat pl).seat p = s.seat p)
    ∧ (∀ p, ((s.leaveSeat pl).seat p).uncommanded = (s.seat p).uncommanded) ∧ (s.leaveSeat pl).trunk = s.trunk
    ∧ ((∀ p, pl ≠ some (.seat p)) → (s.leaveSeat pl).spb = s.spb)
    ∧ ((s.leaveSeat pl).spb.rules = s.spb.rules ∧ (s.leaveSeat pl).spb.brightness = s.spb.brightness)
    ∧ (s.leaveSeat pl).cu = s.cu
    ∧ (s.leaveSeat pl).ev.responses = s.ev.responses ∧ (s.leaveSeat pl).ev.pages = s.ev.pages
    ∧ (s.leaveSeat pl).ev.composed = s.ev.composed ∧ (s.leaveSeat pl).ev.levels = s.ev.levels
    ∧ (s.leaveSeat pl).ev.thresholds = s.ev.thresholds := by
  have hstays : ∀ pl : Option Place, (∀ p, pl ≠ some (.seat p)) → s.leaveSeat pl = s ∧ ∀ k, s.seatRefs pl k = 0 := by
    rintro (_ | (p | ⟨c, a⟩)) h
    · exact ⟨rfl, fun _ => rfl⟩
    · exact absurd rfl (h p)
    · exact ⟨rfl, fun _ => rfl⟩
  by_cases hseat : ∃ p, pl = some (.seat p)
  · obtain ⟨p, rfl⟩ := hseat
    have htold : s.Told (s.discardQueue (.seat p)) (.seat p) := .discardQueue s _
    obtain ⟨_, hcomposed, hresponses, hpages, hlevels, hthresholds⟩ := s.discardQueue_log (.seat p)
    refine ⟨s.discardQueue_refsOf (.seat p), fun q hq => ?_, fun q hq => s.discardQueue_queue_of_ne (hq p rfl), fun q hq => ?_,
      htold.seat, htold.trunk, fun h => absurd rfl (h p), ⟨htold.lamps.1, htold.lamps.2.1⟩, htold.cu (fun x h => by cases h),
      hresponses, hpages, hcomposed, hlevels, hthresholds⟩
    · obtain rfl : p = q := by simpa using hq
      exact s.discardQueue_entries (.seat p)
    · exact htold.seats q fun h => hq (by rw [Port.seat.inj h])
  · have hnot : ∀ p, pl ≠ some (.seat p) := fun p h => hseat ⟨p, h⟩
    obtain ⟨heq, hzero⟩ := hstays pl hnot
    rw [heq]
    exact ⟨fun k => by rw [hzero]; rfl, fun p h => absurd h (hnot p), fun _ _ => rfl, fun _ _ => rfl, fun _ => rfl, rfl, fun _ => rfl,
      ⟨rfl, rfl⟩, rfl, rfl, rfl, rfl, rfl, rfl⟩

theorem State.lingering_leaves {s : State} {n : Nat} {r : Record} (hr : s.record n = some r) (pl : Place) :
    s.Leaves (s.lingering n pl) n r (some pl) [] false := by
  obtain ⟨u, hu⟩ : ∃ u, u = s.onRecord n fun x => { x with st := .lingering (some (s.ct.lingerTime * 1000)) } := ⟨_, rfl⟩
  have hurecord : ∀ m, u.record m = if m = n then some { r with st := .lingering (some (s.ct.lingerTime * 1000)) } else s.record m := by
    intro m
    rw [hu, State.onRecord_record, hr]
    rfl
  have hufs : u.fs = s.fs := by rw [hu]; rfl
  have huspb : u.spb = s.spb := by rw [hu]; rfl
  have huev : u.ev = s.ev := by rw [hu]; rfl
  have hurest : u.el = s.el ∧ u.clb = s.clb ∧ u.cu = s.cu ∧ u.me = s.me ∧ u.sl = s.sl ∧ u.memory = s.memory ∧ u.pending = s.pending
      ∧ u.resetLine = s.resetLine ∧ u.mc = s.mc ∧ u.sau = s.sau := by
    rw [hu]
    exact ⟨rfl, rfl, rfl, rfl, rfl, rfl, rfl, rfl, rfl, rfl⟩
  have huct : u.ct.lingerTime = s.ct.lingerTime ∧ u.ct.counts = s.ct.counts := by rw [hu]; exact ⟨rfl, rfl⟩
  have hlingering : s.lingering n pl = (u.leaveSeat (some pl)).clearParked n := by rw [hu]; rfl
  obtain ⟨hrefs, hemptied, hqueues, hseats, hseat, htrunk, hspb, hblink, hcu, hresponses, hpages, hcomposed, hlevels, hthresholds⟩ :=
    u.leaveSeat_leaves (some pl)
  obtain ⟨hpending, _, hline, hmemory, hct, hmc, hsau, hel, hclb, hme, hsl⟩ := u.leaveSeat_keeps (some pl)
  rw [hlingering]
  generalize u.leaveSeat (some pl) = v at *
  have hvrecord : v.record n = some { r with st := .lingering (some (s.ct.lingerTime * 1000)) } := by
    rw [State.record_eq_of_ct hct, hurecord, if_pos rfl]
  have hqueue := State.clearParked_queue hvrecord
  have hrecord := State.clearParked_record hvrecord
  obtain ⟨c, hsau'⟩ := State.clearParked_sau hvrecord
  have hct' := State.clearParked_ct hvrecord
  have hrefs' := State.clearParked_refsOf hvrecord
  obtain ⟨hresponses', hpages', hcomposed', hlevels', hthresholds'⟩ := State.clearParked_log hvrecord
  obtain ⟨hpending', _, hline', hmemory', hmc', hel', hspb', hclb', hcu', hme', hsl'⟩ := v.clearParked_keeps n
  obtain ⟨helU, hclbU, hcuU, hmeU, hslU, hmemoryU, hpendingU, hlineU, hmcU, hsauU⟩ := hurest
  generalize v.clearParked n = w at *
  have huqueue : u.queue = s.queue := State.queue_eq_of_fs hufs
  exact {
    record := (hrecord n).trans (if_pos rfl)
    others := fun m hm => by
      rw [hrecord, if_neg hm, State.record_eq_of_ct hct, hurecord, if_neg hm]
    lingerTime := (congrArg ClientTable.lingerTime hct').trans ((congrArg ClientTable.lingerTime hct).trans huct.1)
    ctCounts := (congrArg ClientTable.counts hct').trans ((congrArg ClientTable.counts hct).trans huct.2)
    sau := ⟨c, by rw [hsau', hsau, hsauU]⟩
    mc := by rw [hmc', hmc, hmcU, Bool.toNat_false, List.length_nil, bumpBy_zero, bumpBy_zero]
    refs := fun k => by
      have hslots : u.refsOf k = s.refsOf k := congrFun (State.refsOf_eq_of_slots (by rw [hufs])) k
      have hseatRefs : u.seatRefs (some pl) k = s.seatRefs (some pl) k := by
        unfold State.seatRefs
        rw [huqueue]
      rw [hrefs', hrefs, hslots, hseatRefs]
      simp
    emptied := fun p hp => by rw [hqueue, hemptied p hp]
    queues := fun q hq => by rw [hqueue, hqueues q hq, huqueue]
    seats := fun p hp => by rw [State.seat_eq_of_spb hspb', hseats p hp, State.seat_eq_of_spb huspb]
    seat := fun p => by rw [State.seat_eq_of_spb hspb', hseat p, State.seat_eq_of_spb huspb]
    trunk := by rw [State.trunk_eq_of_spb hspb', htrunk, State.trunk_eq_of_spb huspb]
    spb := fun h => by rw [hspb', hspb h, huspb]
    blink := by rw [hspb', hblink.1, hblink.2, huspb]; exact ⟨rfl, rfl⟩
    rest := ⟨by rw [hel', hel, helU], by rw [hclb', hclb, hclbU], by rw [hcu', hcu, hcuU], by rw [hme', hme, hmeU],
      by rw [hsl', hsl, hslU], by rw [hmemory', hmemory, hmemoryU], by rw [hpending', hpending, hpendingU], by rw [hline', hline, hlineU]⟩
    log := ⟨by rw [hresponses', hresponses, huev], by rw [hpages', hpages, huev], by rw [hcomposed', hcomposed, huev],
      by rw [hlevels', hlevels, huev], by rw [hthresholds', hthresholds, huev]⟩ }

/-- A MOVING record loses its target as well: its hold entries are discarded (R68). -/
theorem State.Leaves.losesTarget {s t : State} {n : Nat} {r : Record} {pl : Option Place} (h : s.Leaves t n r pl [] false)
    (hold : List Nat) :
    s.Leaves ((t.discardHold hold).countMc fun c => { c with targetsLost := bump c.targetsLost }) n r pl hold true := by
  have hmc := t.discardHold_mc hold
  have hqueue := t.discardHold_rest hold
  have hrefs := t.refsOf_discardHold hold
  obtain ⟨hresponses, hpages, hcomposed, hlevels, hthresholds⟩ := t.discardHold_log hold
  obtain ⟨hpending, _, hline, hmemory, hct, hsau, hel, hspb, hclb, hcu, hme, hsl⟩ := t.discardHold_keeps hold
  obtain ⟨helT, hclbT, hcuT, hmeT, hslT, hmemoryT, hpendingT, hlineT⟩ := h.rest
  obtain ⟨hresponsesT, hpagesT, hcomposedT, hlevelsT, hthresholdsT⟩ := h.log
  obtain ⟨c, hsauT⟩ := h.sau
  generalize t.discardHold hold = w at *
  have hcounted : (w.countMc fun c => { c with targetsLost := bump c.targetsLost }).queue = w.queue := State.queue_eq_of_fs rfl
  exact {
    record := by rw [← h.record]; exact congrFun (State.record_eq_of_ct hct) n
    others := fun m hm => by rw [← h.others m hm]; exact congrFun (State.record_eq_of_ct hct) m
    lingerTime := (congrArg ClientTable.lingerTime hct).trans h.lingerTime
    ctCounts := (congrArg ClientTable.counts hct).trans h.ctCounts
    sau := ⟨c, hsau.trans hsauT⟩
    mc := by
      change { w.mc with counts := { w.mc.counts with targetsLost := bump w.mc.counts.targetsLost } } = _
      rw [hmc, h.mc]
      simp [bumpBy_zero, bump_eq_bumpBy]
    refs := fun k => by
      have hkept : (w.countMc fun c => { c with targetsLost := bump c.targetsLost }).refsOf k = w.refsOf k := rfl
      rw [hkept, hrefs, h.refs, List.count_nil]
      omega
    emptied := fun p hp => by rw [hcounted, hqueue, h.emptied p hp]
    queues := fun q hq => by rw [hcounted, hqueue, h.queues q hq]
    seats := fun p hp => by rw [← h.seats p hp]; exact congrFun (State.seat_eq_of_spb hspb) p
    seat := fun p => by rw [← h.seat p]; exact congrArg Seat.uncommanded (congrFun (State.seat_eq_of_spb hspb) p)
    trunk := (State.trunk_eq_of_spb hspb).trans h.trunk
    spb := fun hp => hspb.trans (h.spb hp)
    blink := ⟨(congrArg SeatPortBlock.rules hspb).trans h.blink.1, (congrArg SeatPortBlock.brightness hspb).trans h.blink.2⟩
    rest := ⟨hel.trans helT, hclb.trans hclbT, hcu.trans hcuT, hme.trans hmeT, hsl.trans hslT, hmemory.trans hmemoryT,
      hpending.trans hpendingT, hline.trans hlineT⟩
    log := ⟨hresponses.trans hresponsesT, hpages.trans hpagesT, hcomposed.trans hcomposedT, hlevels.trans hlevelsT,
      hthresholds.trans hthresholdsT⟩ }

/-- R21: a record that is ATTACHED or MOVING enters LINGERING. -/
theorem State.enterLingering_leaves {s : State} {n : Nat} {r : Record} (hr : s.record n = some r) (h : r.st.isLingering = false) :
    s.Leaves (s.enterLingering n) n r r.st.place r.st.hold r.isMoving := by
  have hstart := fun pl => State.lingering_leaves hr pl
  unfold State.enterLingering
  rw [hr]
  dsimp only
  cases hst : r.st with
  | lingering left => rw [hst] at h; cases h
  | attached pl idle =>
    have hmoving : r.isMoving = false := by simp [Record.isMoving, hst, RecordState.former]
    rw [hmoving]
    exact hstart pl
  | moving pl c a deadline hold =>
    have hmoving : r.isMoving = true := by simp [Record.isMoving, hst, RecordState.former]
    rw [hmoving]
    exact (hstart pl).losesTarget hold

end Sys2Proof.Machine
end

section
/-! SUPPORT. What the end of an event leaves of a queue and of a seat's last command, and two statements that a Client Table out of its
form refutes. -/

namespace Sys2Proof.Machine

/-! ### The end of an event, seat by seat -/

/-- What a pin's command reaches ends as its event does. -/
theorem reaches_pinEvent_end {i : Instr} {s u : State} {f : State → State} (hi : exec i s = .next (s.pinEvent f))
    (hline : s.resetLine = false) (h : reaches i s u) : (f s.beginEvent).endEvent = u.endEvent := by
  have hpin : s.pinEvent f = (f s.beginEvent).endEvent := by
    simp only [State.pinEvent, hline, Bool.false_eq_true, if_false]
  exact hpin.symm.trans (Host.Outcome.next.inj (hi.symm.trans h))

theorem seatLinkIndicationChange_end {s u : State} {p : SeatNo} {v : Option Speed} (hline : s.resetLine = false)
    (h : reaches (.seatLinkIndicationChange p v) s u) : (s.beginEvent.seatStatus p v).endEvent = u.endEvent :=
  reaches_pinEvent_end (f := fun t => t.seatStatus p v) rfl hline h

/-- An event that ends with a trunk out of HELD has brought no reset (R211). -/
theorem State.endEvent_eq_closeEvent {u : State} {t : TrunkNo} (h : (u.endEvent.trunk t).state ≠ .held) : u.endEvent = u.closeEvent := by
  unfold State.endEvent
  dsimp only
  split
  · next hdue =>
    obtain ⟨_, _, _, _, _, _, _, _, htrunks, _⟩ := (Proofs.resetsGiveResetValues.2.2 u hdue).1
    exact absurd (htrunks t).1 h
  · rfl

theorem State.closeEvent_entries (u : State) (p : SeatNo) :
    (u.closeEvent.queue (.seat p)).entries = (u.queue (.seat p)).entries := by
  obtain ⟨_, _, hentries, _⟩ := u.lamped_keeps
  rw [u.closeEvent_eq, State.duePages_queue, u.settled_unheard.queue _ (by simp), hentries]

/-- A control message to a seat leaves its last command, or is it. -/
theorem State.sendControl_lastCommanded (s : State) (p q : SeatNo) (out : LampOutput) :
    ((s.sendControl (.seat p) (.lamp out)).seat q).lastCommanded = (s.seat q).lastCommanded
      ∨ p = q ∧ ((s.sendControl (.seat p) (.lamp out)).seat q).lastCommanded = some out := by
  unfold State.sendControl
  split
  · exact Or.inl rfl
  · split
    · exact Or.inl rfl
    · rw [State.goOut_lamp_seat]
      split
      · next h => exact Or.inr ⟨h.symm, rfl⟩
      · exact Or.inl rfl

theorem State.sweepLamp_lastCommanded (s : State) (p q : SeatNo) :
    ((s.sweepLamp p).seat q).lastCommanded = (s.seat q).lastCommanded
      ∨ ((s.sweepLamp p).seat q).lastCommanded = some (s.resolveLamp q) := by
  have hseat : ((s.lampResolved p).seat q).lastCommanded = (s.seat q).lastCommanded := by
    rw [State.lampResolved_seat]
    split
    · next h => rw [h]
    · rfl
  rw [State.sweepLamp_eq]
  split
  · obtain h | ⟨rfl, h⟩ := (s.lampResolved p).sendControl_lastCommanded p q (s.resolveLamp p)
    · exact Or.inl (h.trans hseat)
    · exact Or.inr h
  · exact Or.inl hseat

/-- After the end of an event a seat's last command is what it was, or what the seat now resolves to (R135). -/
theorem State.closeEvent_lastCommanded (u : State) (q : SeatNo) :
    (u.closeEvent.seat q).lastCommanded = (u.seat q).lastCommanded
      ∨ (u.closeEvent.seat q).lastCommanded = some (u.resolveLamp q) := by
  have hfold : ∀ (ps : List SeatNo) (t : State),
      ((ps.foldl (fun t p => t.sweepLamp p) t).seat q).lastCommanded = (t.seat q).lastCommanded
        ∨ ((ps.foldl (fun t p => t.sweepLamp p) t).seat q).lastCommanded = some (t.resolveLamp q) := by
    intro ps
    induction ps with
    | nil => exact fun t => Or.inl rfl
    | cons p rest ih =>
      intro t
      rw [List.foldl_cons]
      obtain h | h := ih (t.sweepLamp p)
      · rw [h]
        exact t.sweepLamp_lastCommanded p q
      · rw [h, (t.sweepLamp_swept p).resolve]
        exact Or.inr rfl
  have hclosed : u.closeEvent.seat q = u.lamped.seat q := by
    have h : u.closeEvent.spb = u.lamped.spb := by
      rw [u.closeEvent_eq, (State.duePages_told _).1, u.settled_keeps.1]
    exact congrFun (State.seat_eq_of_spb h) q
  have hspb : u.takeVehicle.spb = u.spb := by simp
  have hlamped : u.lamped.seat q = (allSeats.foldl (fun t p => t.sweepLamp p) u.takeVehicle).seat q := by
    rw [State.lamped_eq, State.sweepLamps]
    generalize allSeats.foldl (fun t p => t.sweepLamp p) u.takeVehicle = t
    rfl
  rw [hclosed, hlamped, ← State.resolveLamp_eq_of_spb (p := q) hspb (by simp), ← congrFun (State.seat_eq_of_spb hspb) q]
  exact hfold allSeats u.takeVehicle

/-! ### A Client Table out of its form -/

/-- A record placed at a seat. -/
def Record.seated (x : Addr) (p : SeatNo) : Record :=
  { addr := x, cls := .basic, credit := 0, parked := [], charged := 0, overShare := 0, st := .attached (.seat p) none }

/-- Two records under one number, which no step from a table in canonical form makes: the occupant of seat 0 is looked up by number
and the record at seat 1 is found. -/
def doubledRecords : Table Record := [(0, .seated 2 1), (0, .seated 4 0)]

/-- Seat 0 of PRESENT trunk 0 is UP, and an entry stands in the queue of seat 1. -/
def twoRecordsAtZero : State :=
  { ct := { records := doubledRecords }
    fs := { seatQ := (Vector.replicate 64 {}).set (1 : Fin 64) { entries := [{ slot := 0 }] } }
    spb :=
      { seats := (Vector.replicate 64 {}).set (0 : Fin 64) { indication := some .mbit100, up := true }
        trunks := (Vector.replicate 8 {}).set (0 : Fin 8) { state := .present, signal := true } } }

/-- A request from the cabinet's station on FORE. -/
def cabinetHeader : ReqHeader := { side := .fore, dest := .cabinet, station := 6, tag := 0, epoch := 0 }

def cabinetStation : Station :=
  { addr := 6, side := .fore, roles := { cabinet := true }, threshold := 0, pending := [], spacing := none, due := false, number := 0,
    epoch := 0 }

/-- An output that no lamp of the cabinet resolves to, its duty being above 16. -/
def oddOutput : LampOutput := { effect := .fast, duty := 99 }

/-- The two records, a station that holds CABINET, and a lamp command that waits at seat 1, whose lamp is forced OFF. -/
def twoRecordsAndStation : State :=
  { ct := { records := doubledRecords }
    cu := { fore := { state := .coupled } }
    me := { stations := [cabinetStation] }
    sl := { unit := .idle }
    fs := { seatQ := (Vector.replicate 64 {}).set (1 : Fin 64) { waiting := [.lamp oddOutput] } }
    spb :=
      { seats := ((Vector.replicate 64 {}).set (0 : Fin 64) { indication := some .mbit100, up := true }).set (1 : Fin 64)
          { force := .off }
        trunks := (Vector.replicate 8 {}).set (0 : Fin 8) { state := .present, signal := true } } }

/-- The default profile with the enabled field 0. -/
def disabledSeat : RawSeatProfile :=
  { enabled := 0, maxLength := 1522, acceptBroadcast := 1, acceptMulticast := 0, loopback := 0, idleTime := 300 }

/-- The request that takes seat 0 out of use. -/
def disableSeatZero : Request := .setProfile 0 (.seat disabledSeat)

theorem served_end {s u : State} {h : ReqHeader} {q : Request} (hline : s.resetLine = false) (hserved : served s h q u) :
    (s.beginEvent.requestArrival h q).endEvent = u.endEvent := by
  have hexec := exec_request h q s
  simp only [State.event, hline, Bool.false_eq_true, if_false] at hexec
  exact Host.Outcome.next.inj (hexec.symm.trans hserved)

/-! ### A minute of the Entitlement List -/

/-- A STANDARD record of an address. -/
def Record.standard (x : Addr) : Record := { Record.seated x 0 with cls := .standard }

/-- A STANDARD entry with one minute left. -/
def Entitlement.lastMinute (x : Addr) : Entitlement := { addr := x, kind := .standard, minutes := some 1, station := 6 }

/-- Records 7 and 3 hold address 4, and number 3 stands twice, its second line holding address 2; both addresses have a last minute. A
change of record 3 writes its line in front of record 7's. -/
def lastMinutes : State :=
  { ct := { records := [(7, .standard 4), (3, .standard 4), (3, .standard 2)] }
    el := { entries := [.lastMinute 2, .lastMinute 4], minute := some 0 }
    spb := { trunks := (Vector.replicate 8 {}).set (0 : Fin 8) { state := .present, signal := true } } }

theorem minuteTimerExpiry_end {s u : State} (hline : s.resetLine = false) (hdue : s.el.minute = some 0)
    (h : reaches .minuteTimerExpiry s u) : s.beginEvent.minuteExpiry.endEvent = u.endEvent := by
  have hexec : exec .minuteTimerExpiry s = .next (s.eventWhen (isDue s.el.minute) fun t => t.minuteExpiry) := rfl
  simp only [State.eventWhen, State.event, hline, hdue, isDue, Bool.false_eq_true, if_false, beq_self_eq_true, if_true] at hexec
  exact Host.Outcome.next.inj (hexec.symm.trans h)

theorem State.closeEvent_ct (u : State) : u.closeEvent.ct = u.ct := by
  simp only [u.closeEvent_eq, State.duePages_keeps, u.settled_keeps.2.2]

end Sys2Proof.Machine

namespace Sys2Proof.Proofs

open Sys2Proof.Machine

/-- Refutes O36: its second clause asks for no table in canonical form. With two records under number 0 the occupant of seat 0 that
goes to LINGERING is taken for the one at seat 1, and it is the queue of seat 1 that is discarded. -/
theorem not_seatStatusAndMarks : ¬ Obligations.SeatStatusAndMarks := by
  unfold Obligations.SeatStatusAndMarks
  intro h
  obtain ⟨_, hdown, _⟩ := h twoRecordsAtZero 0 (by decide +kernel)
  obtain ⟨u, hreaches, _, _, _, _, _, hothers, _⟩ := hdown (by decide +kernel) (by decide +kernel)
  have hend : (twoRecordsAtZero.beginEvent.seatStatus 0 none).endEvent = u.endEvent := 
    seatLinkIndicationChange_end (by decide +kernel) hreaches
  have hpresent : (u.endEvent.trunk 0).state ≠ .held := by rw [← hend]; decide +kernel
  have hkept := u.closeEvent_entries 1
  rw [← State.endEvent_eq_closeEvent hpresent, ← hend, hothers (.seat 1) (by decide)] at hkept
  exact absurd hkept (by decide +kernel)

/-- Refutes O51: its clause that no other seat changes asks for no table in canonical form. With two records under number 0 a profile
that takes seat 0 out of use discards the queue of seat 1, and the lamp command that waited there goes out. -/
theorem not_profilesAreReplaced : ¬ Obligations.ProfilesAreReplaced := by
  unfold Obligations.ProfilesAreReplaced
  intro h
  obtain ⟨hseat, _⟩ := h twoRecordsAndStation cabinetHeader 0
    ⟨by decide +kernel, by decide +kernel, by decide +kernel, trivial, by decide +kernel⟩ (by decide +kernel) (by decide +kernel)
  obtain ⟨u, hserved, _, _, _, _, _, _, _, hothers⟩ := hseat disabledSeat 0 _ (by decide +kernel) rfl (by decide +kernel)
  have hend : (twoRecordsAndStation.beginEvent.requestArrival cabinetHeader disableSeatZero).endEvent = u.endEvent :=
    served_end (by decide +kernel) hserved
  have hpresent : (u.endEvent.trunk 0).state ≠ .held := by rw [← hend]; decide +kernel
  have hsame : u.seat 1 = twoRecordsAndStation.seat 1 := hothers 1 (by decide)
  have hsent : (u.closeEvent.seat 1).lastCommanded = some oddOutput := by
    rw [← State.endEvent_eq_closeEvent hpresent, ← hend]
    decide +kernel
  have hoff : u.resolveLamp 1 = { effect := .none, duty := 0 } := by
    have hforce : (u.seat 1).force = .off := by rw [hsame]; decide +kernel
    rw [State.resolveLamp, hforce]
    rfl
  obtain hkept | hnew := u.closeEvent_lastCommanded 1
  · rw [hsent, hsame] at hkept
    exact absurd hkept (by decide +kernel)
  · rw [hsent, hoff] at hnew
    exact absurd hnew (by decide +kernel)

/-- Refutes O42: its clause on classes asks for no table in canonical form. The class change of record 3 puts a line of its own in
front of record 7's, so the end of the entry of address 4 then finds record 3, and record 7 stays STANDARD. -/
theorem not_minuteTimerExpires : ¬ Obligations.MinuteTimerExpires := by
  unfold Obligations.MinuteTimerExpires
  intro h
  obtain ⟨u, hreaches, _, _, _, hclass, _⟩ := h lastMinutes (by decide +kernel) (by decide +kernel)
  have hend : lastMinutes.beginEvent.minuteExpiry.endEvent = u.endEvent :=
    minuteTimerExpiry_end (by decide +kernel) (by decide +kernel) hreaches
  have hpresent : (u.endEvent.trunk 0).state ≠ .held := by rw [← hend]; decide +kernel
  have hbasic : (u.record 7).map Record.cls = some .basic :=
    hclass (.lastMinute 4) 7 (.standard 4) (by decide) rfl (by decide) rfl
  have hct : u.endEvent.ct = u.ct := (congrArg State.ct (State.endEvent_eq_closeEvent hpresent)).trans u.closeEvent_ct
  rw [← State.record_eq_of_ct hct, ← hend] at hbasic
  exact absurd hbasic (by decide +kernel)

end Sys2Proof.Proofs
end

section
/-! SUPPORT and PROOFS. Bytes read back from a message: its fields one after the other, the requests (O15) and the settings image
(O14). -/

namespace Sys2Proof.Machine

/-! ### Fields of a message -/

section Fields

variable {a b bs : Bytes} {x : Byte} {o n : Nat}

@[simp] theorem beBytes_zero (v : Nat) : beBytes 0 v = [] := rfl

@[simp] theorem halfBytes_length (x : Half) : (halfBytes x).length = 2 := beBytes_length _ _
@[simp] theorem wordBytes_length (x : Word) : (wordBytes x).length = 4 := beBytes_length _ _
@[simp] theorem addrBytes_length (x : Addr) : (addrBytes x).length = 6 := beBytes_length _ _

/-- A field past the first part of a message lies in the second. -/
theorem field_append_of_le (h : a.length ≤ o) : field (a ++ b) o n = field b (o - a.length) n := by
  rw [field, field, List.drop_append, List.drop_eq_nil_of_le h, List.nil_append]

/-- A field within the first part of a message. -/
theorem field_append_of_ge (h : o + n ≤ a.length) : field (a ++ b) o n = field a o n := by
  rw [field, field, List.drop_append, List.take_append_of_le_length (by rw [List.length_drop]; omega)]

theorem field_append_head (h : a.length = n) : field (a ++ b) 0 n = a := by
  rw [field, List.drop_zero, List.take_append_of_le_length h.ge, List.take_of_length_le h.le]

theorem field_all (h : a.length = n) : field a 0 n = a := by
  rw [field, List.drop_zero, List.take_of_length_le h.le]

@[simp] theorem field_cons_succ : field (x :: bs) (o + 1) n = field bs o n := rfl
@[simp] theorem field_cons_zero : field (x :: bs) 0 (n + 1) = x :: field bs 0 n := rfl
@[simp] theorem field_none : field bs o 0 = [] := List.take_zero

theorem byteAt_append_of_le (h : a.length ≤ o) : byteAt (a ++ b) o = byteAt b (o - a.length) := by
  rw [byteAt, byteAt, List.getD_append_right _ _ _ _ h]

theorem byteAt_append_of_lt (h : o < a.length) : byteAt (a ++ b) o = byteAt a o := by
  rw [byteAt, byteAt, List.getD_append _ _ _ _ h]

@[simp] theorem byteAt_cons_succ : byteAt (x :: bs) (o + 1) = byteAt bs o := rfl
@[simp] theorem byteAt_cons_zero : byteAt (x :: bs) 0 = x := rfl

/-- A byte of a message after `o` others. -/
theorem byteAt_drop : byteAt (bs.drop o) n = byteAt bs (o + n) := by
  rw [byteAt, byteAt, List.getD_eq_getElem?_getD, List.getD_eq_getElem?_getD, List.getElem?_drop]

theorem field_drop (m : Nat) : field (bs.drop o) m n = field bs (o + m) n := by
  rw [field, field, List.drop_drop]

end Fields

/-- Words, halves and addresses read back as they were written. -/
theorem ofNat_beNat_halfBytes (x : Half) : BitVec.ofNat 16 (beNat (halfBytes x)) = x := by
  rw [beNat_halfBytes, BitVec.ofNat_toNat, BitVec.setWidth_eq]

theorem ofNat_beNat_wordBytes (x : Word) : BitVec.ofNat 32 (beNat (wordBytes x)) = x := by
  rw [beNat_wordBytes, BitVec.ofNat_toNat, BitVec.setWidth_eq]

theorem ofNat_beNat_addrBytes (x : Addr) : BitVec.ofNat 48 (beNat (addrBytes x)) = x := by
  rw [beNat_addrBytes, BitVec.ofNat_toNat, BitVec.setWidth_eq]

section Reading

variable {a b bs : Bytes} {x : Byte} {o : Nat}

theorem halfAt_append_of_le (h : a.length ≤ o) : halfAt (a ++ b) o = halfAt b (o - a.length) := by
  rw [halfAt, halfAt, field_append_of_le h]

theorem wordAt_append_of_le (h : a.length ≤ o) : wordAt (a ++ b) o = wordAt b (o - a.length) := by
  rw [wordAt, wordAt, field_append_of_le h]

theorem addrAt_append_of_le (h : a.length ≤ o) : addrAt (a ++ b) o = addrAt b (o - a.length) := by
  rw [addrAt, addrAt, field_append_of_le h]

@[simp] theorem halfAt_cons_succ : halfAt (x :: bs) (o + 1) = halfAt bs o := rfl
@[simp] theorem wordAt_cons_succ : wordAt (x :: bs) (o + 1) = wordAt bs o := rfl
@[simp] theorem addrAt_cons_succ : addrAt (x :: bs) (o + 1) = addrAt bs o := rfl

@[simp] theorem halfAt_halfBytes (x : Half) (b : Bytes) : halfAt (halfBytes x ++ b) 0 = x := by
  rw [halfAt, field_append_head (halfBytes_length x), ofNat_beNat_halfBytes]

@[simp] theorem halfAt_halfBytes_last (x : Half) : halfAt (halfBytes x) 0 = x := by
  rw [halfAt, field_all (halfBytes_length x), ofNat_beNat_halfBytes]

@[simp] theorem wordAt_wordBytes (x : Word) (b : Bytes) : wordAt (wordBytes x ++ b) 0 = x := by
  rw [wordAt, field_append_head (wordBytes_length x), ofNat_beNat_wordBytes]

@[simp] theorem wordAt_wordBytes_last (x : Word) : wordAt (wordBytes x) 0 = x := by
  rw [wordAt, field_all (wordBytes_length x), ofNat_beNat_wordBytes]

@[simp] theorem addrAt_addrBytes (x : Addr) (b : Bytes) : addrAt (addrBytes x ++ b) 0 = x := by
  rw [addrAt, field_append_head (addrBytes_length x), ofNat_beNat_addrBytes]

@[simp] theorem addrAt_addrBytes_last (x : Addr) : addrAt (addrBytes x) 0 = x := by
  rw [addrAt, field_all (addrBytes_length x), ofNat_beNat_addrBytes]

end Reading

/-! ### The arguments of a request -/

@[simp] theorem seatProfileBytes_length (f : RawSeatProfile) : (seatProfileBytes f).length = 8 := by simp [seatProfileBytes]

@[simp] theorem ceilingProfileBytes_length (f : RawCeilingProfile) : (ceilingProfileBytes f).length = 11 := by
  simp [ceilingProfileBytes]

/-- A profile stands where it was written. -/
theorem readSeatProfile_append (f : RawSeatProfile) (b : Bytes) : readSeatProfile (seatProfileBytes f ++ b) 0 = f := by
  simp [readSeatProfile, seatProfileBytes, byteAt_append_of_le, halfAt_append_of_le]

theorem readCeilingProfile_append (f : RawCeilingProfile) (b : Bytes) : readCeilingProfile (ceilingProfileBytes f ++ b) 0 = f := by
  simp [readCeilingProfile, ceilingProfileBytes, byteAt_append_of_le, halfAt_append_of_le]

theorem readSeatProfile_drop (bs : Bytes) (o : Nat) : readSeatProfile (bs.drop o) 0 = readSeatProfile bs o := by
  simp [readSeatProfile, byteAt_drop, halfAt, field_drop]

theorem readCeilingProfile_drop (bs : Bytes) (o : Nat) : readCeilingProfile (bs.drop o) 0 = readCeilingProfile bs o := by
  simp [readCeilingProfile, byteAt_drop, halfAt, field_drop]

theorem readPairs_pairBytes (ps : List (Byte × Byte)) : readPairs (pairBytes ps) = ps := by
  induction ps with
  | nil => rfl
  | cons p rest ih =>
    change (p.1, p.2) :: readPairs (pairBytes rest) = _
    rw [ih]

@[simp] theorem pairBytes_length (ps : List (Byte × Byte)) : (pairBytes ps).length = 2 * ps.length := by
  induction ps with
  | nil => rfl
  | cons p rest ih =>
    change (pairBytes rest).length + 2 = _
    rw [ih, List.length_cons]
    omega

/-- The part set byte gives its bits back. -/
theorem partSet_reads (other : BitVec 5) (r b f : Bool) : (partSet other r b f).getLsbD 0 = r ∧ (partSet other r b f).getLsbD 1 = b
    ∧ (partSet other r b f).getLsbD 2 = f ∧ (partSet other r b f).extractLsb' 3 5 = other := by
  revert other r b f
  decide +kernel

/-- A count of at most 255 is read back from its byte. -/
theorem toNat_ofNat_byte {n : Nat} (h : n ≤ 255) : (BitVec.ofNat 8 n).toNat = n := by
  rw [BitVec.toNat_ofNat]
  exact Nat.mod_eq_of_lt (by omega)

theorem ofLength_eq {bs : Bytes} {n : Nat} (h : bs.length = n) (q : Request) : ofLength bs n q = .request q := if_pos h

/-- SET_LAMP reads back what it is written as (R221). -/
theorem readLamp_args (other : BitVec 5) (rules : Option RawRules) (brightness : Option Byte) (forces : Option (List (Byte × Byte)))
    (h : (Request.setLamp other rules brightness forces).inFormat = true) :
    readLamp (Request.setLamp other rules brightness forces).args = .request (.setLamp other rules brightness forces) := by
  obtain ⟨hrules, hbrightness, hforces, hother⟩ := partSet_reads other rules.isSome brightness.isSome forces.isSome
  have hcount : ∀ fs, forces = some fs → (BitVec.ofNat 8 fs.length).toNat = fs.length := fun fs hfs => by
    rw [hfs] at h
    exact toNat_ofNat_byte (of_decide_eq_true h)
  simp only [Request.args, readLamp, byteAt_cons_zero, hrules, hbrightness, hforces, hother]
  cases rules with
  | none =>
    cases brightness with
    | none =>
      cases forces with
      | none => exact ofLength_eq rfl _
      | some fs =>
        simp [forceBytes, hcount fs rfl, readPairs_pairBytes, ofLength]
        omega
    | some b =>
      cases forces with
      | none => exact ofLength_eq rfl _
      | some fs =>
        simp [forceBytes, hcount fs rfl, readPairs_pairBytes, ofLength]
        omega
  | some r =>
    cases brightness with
    | none =>
      cases forces with
      | none => simp [rawRulesBytes, ofLength, readRules]
      | some fs =>
        simp [rawRulesBytes, forceBytes, hcount fs rfl, readPairs_pairBytes, ofLength, readRules]
        omega
    | some b =>
      cases forces with
      | none => simp [rawRulesBytes, ofLength, readRules]
      | some fs =>
        simp [rawRulesBytes, forceBytes, hcount fs rfl, readPairs_pairBytes, ofLength, readRules]
        omega

/-- SET_PROFILE reads back what it is written as, its kind telling the two apart (R221). -/
theorem readProfile_args (port : Byte) (f : RawProfile) :
    readProfile (Request.setProfile port f).args = .request (.setProfile port f) := by
  cases f with
  | seat f =>
    have hread := readSeatProfile_drop (Request.setProfile port (.seat f)).args 2
    have hself := readSeatProfile_append f []
    rw [List.append_nil] at hself
    have hdrop : (Request.setProfile port (.seat f)).args.drop 2 = seatProfileBytes f := rfl
    rw [hdrop, hself] at hread
    unfold readProfile
    rw [if_pos (show byteAt (Request.setProfile port (.seat f)).args 0 = 0 from rfl), ← hread]
    exact ofLength_eq (by simp [Request.args]) _
  | ceiling f =>
    have hread := readCeilingProfile_drop (Request.setProfile port (.ceiling f)).args 2
    have hself := readCeilingProfile_append f []
    rw [List.append_nil] at hself
    have hdrop : (Request.setProfile port (.ceiling f)).args.drop 2 = ceilingProfileBytes f := rfl
    rw [hdrop, hself] at hread
    unfold readProfile
    rw [if_neg (by simp [Request.args]), if_pos (show byteAt (Request.setProfile port (.ceiling f)).args 0 = 1 from rfl), ← hread]
    exact ofLength_eq (by simp [Request.args]) _

/-! ### Management frames -/

/-- A management message lies at the head of its frame, behind its header. -/
theorem managementFrame_eq (dst src : Addr) (kind code status flags : Byte) (tag epoch : Half) (args : Bytes) :
    ∃ rest, managementFrame dst src kind code status flags tag epoch args = addrBytes dst ++ (addrBytes src
      ++ (halfBytes managementType ++ (1 :: kind :: code :: status :: flags :: (halfBytes tag ++ (halfBytes epoch
      ++ (beBytes 2 args.length ++ (args ++ rest))))))) :=
  ⟨_, by simp only [managementFrame, managementHeader, withCrc32, List.append_assoc, List.cons_append, List.nil_append]; rfl⟩

/-- The fields of a management message (section 11.1). -/
structure Spells (frame : Bytes) (dst src : Addr) (kind code status flags : Byte) (tag : Half) (args : Bytes) : Prop where
  check : frameCheckOk frame = true
  length : 64 ≤ frame.length ∧ 25 + args.length + 4 ≤ frame.length ∧ frame.length ≤ 64 + args.length
  dst : frameDst frame = dst
  src : frameSrc frame = src
  type : frameType frame = managementType
  version : byteAt frame 14 = 1
  kind : byteAt frame 15 = kind
  code : byteAt frame 16 = code
  status : byteAt frame 17 = status
  flags : byteAt frame 18 = flags
  tag : halfAt frame 19 = tag
  count : (halfAt frame 23).toNat = args.length
  args : field frame 25 args.length = args

theorem managementFrame_spells (dst src : Addr) (kind code status flags : Byte) (tag epoch : Half) {args : Bytes}
    (h : args.length < 65536) :
    Spells (managementFrame dst src kind code status flags tag epoch args) dst src kind code status flags tag args := by
  have hlength : (managementFrame dst src kind code status flags tag epoch args).length
      = 25 + args.length + (60 - (25 + args.length)) + 4 := by
    simp [managementFrame, managementHeader, withCrc32, beBytes_length]
    omega
  have hcheck : frameCheckOk (managementFrame dst src kind code status flags tag epoch args) = true := frameCheckOk_withCrc32 _
  obtain ⟨rest, hframe⟩ := managementFrame_eq dst src kind code status flags tag epoch args
  have hcount : (BitVec.ofNat 16 (beNat (beBytes 2 args.length))).toNat = args.length := by
    rw [beNat_beBytes, BitVec.toNat_ofNat]
    omega
  have hhalf : halfAt (managementFrame dst src kind code status flags tag epoch args) 23
      = BitVec.ofNat 16 (beNat (beBytes 2 args.length)) := by
    rw [hframe]
    simp only [halfAt_append_of_le, addrBytes_length, halfBytes_length, halfAt_cons_succ, Nat.reduceSub, Nat.reduceLeDiff]
    rw [halfAt, field_append_head (beBytes_length 2 _)]
  refine ⟨hcheck, by omega, ?_, ?_, ?_, ?_, ?_, ?_, ?_, ?_, ?_, by rw [hhalf, hcount], ?_⟩ <;> rw [hframe]
  · exact addrAt_addrBytes _ _
  · simp [frameSrc, addrAt_append_of_le]
  · simp [frameType, halfAt_append_of_le]
  · simp [byteAt_append_of_le]
  · simp [byteAt_append_of_le]
  · simp [byteAt_append_of_le]
  · simp [byteAt_append_of_le]
  · simp [byteAt_append_of_le]
  · simp [halfAt_append_of_le]
  · simp only [field_append_of_le, addrBytes_length, halfBytes_length, beBytes_length, field_cons_succ, Nat.reduceSub,
      Nat.reduceLeDiff]
    exact field_append_head rfl

/-- The arguments of a request are at most those of a SET_LAMP with 255 forces. -/
theorem Request.args_length_le {q : Request} (h : q.inFormat = true) : q.args.length ≤ 519 := by
  cases q with
  | setProfile port f => cases f <;> simp [Request.args]
  | queryClient client => cases client <;> simp [Request.args]
  | clearCauses causes =>
    have hlength : causes.length ≤ 11 := of_decide_eq_true h
    change causes.length ≤ 519
    omega
  | setLevels pairs =>
    have hlength : pairs.length ≤ 11 := of_decide_eq_true h
    change (pairBytes pairs).length ≤ 519
    rw [pairBytes_length]
    omega
  | setLamp other rules brightness forces =>
    have hrules : ((rules.map rawRulesBytes).getD []).length ≤ 6 := by cases rules <;> simp [rawRulesBytes]
    have hbrightness : ((brightness.map fun b => [b]).getD []).length ≤ 1 := by cases brightness <;> simp
    have hforces : ((forces.map forceBytes).getD []).length ≤ 511 := by
      cases forces with
      | none => simp
      | some fs =>
        have hlength : fs.length ≤ 255 := of_decide_eq_true h
        change (pairBytes fs).length + 1 ≤ 511
        rw [pairBytes_length]
        omega
    simp only [Request.args, List.length_cons, List.length_append]
    omega
  | _ => simp [Request.args]

/-- A request's frame is read as the request, by the header it was written with. -/
theorem readMessage_spells {frame : Bytes} {dst src : Addr} {tag : Half} {q : Request}
    (h : Spells frame dst src requestKind q.code 0 0 tag q.args) (hread : readRequest q.code q.args = .request q) (side : Side) :
    readMessage side frame
      = some { details := { station := src, side := side, code := q.code, tag := tag }, content := .request q } := by
  obtain ⟨_, ⟨h64, hlength, _⟩, _, hsrc, _, hversion, hkind, hcode, hstatus, hflags, htag, hcount, hargs⟩ := h
  have hdecode : decodeRequest frame = .request q := by
    unfold decodeRequest
    dsimp only
    rw [hcount, hcode, hargs, hread]
    exact if_neg (by rw [hstatus]; simp; omega)
  have hformed : headerFormed frame = true := by
    rw [headerFormed, hkind, hflags]
    simp
    omega
  unfold readMessage
  rw [hformed, hversion, hkind, hdecode, hsrc, hcode, htag]
  rfl

theorem State.requestFrame_spells (s : State) (h : ReqHeader) {q : Request} (hq : q.inFormat = true) :
    Spells (s.requestFrame h q) (s.destAddress h.dest) h.station requestKind q.code 0 0 h.tag q.args :=
  managementFrame_spells _ _ _ _ _ _ _ _ (by have := Request.args_length_le hq; omega)

end Sys2Proof.Machine

namespace Sys2Proof.Proofs

open Sys2Proof.Machine

/-- Settles O15, code by code: each argument is read where it was written. -/
theorem requestRoundTrip : Obligations.RequestRoundTrip := by
  unfold Obligations.RequestRoundTrip
  intro q hq
  cases q with
  | setProfile port f => exact readProfile_args port f
  | setLamp other rules brightness forces => exact readLamp_args other rules brightness forces hq
  | clearCauses causes => exact if_pos (of_decide_eq_true hq)
  | setLevels pairs =>
    have hlength : pairs.length ≤ 11 := of_decide_eq_true hq
    have hpairs : readRequest 0x22 (pairBytes pairs) = if (pairBytes pairs).length ≤ 22 ∧ (pairBytes pairs).length % 2 = 0 then
        .request (.setLevels (readPairs (pairBytes pairs))) else .badFormat := rfl
    change readRequest 0x22 (pairBytes pairs) = _
    rw [hpairs, if_pos (by rw [pairBytes_length]; omega), readPairs_pairBytes]
  | queryClient client =>
    cases client <;>
      simp [readRequest, Request.code, Request.args, readClientRef]
  | _ => simp [readRequest, Request.code, Request.args, ofLength, byteAt_append_of_le, halfAt_append_of_le, addrAt_append_of_le,
      relayCode]

/-- Settles O16: the frame of a request passes the checks of R42, and what the engine reads in it is the request. -/
theorem typedRequestIsItsFrame : Obligations.TypedRequestIsItsFrame := by
  unfold Obligations.TypedRequestIsItsFrame
  intro h q s hq
  have hspells := s.requestFrame_spells h hq
  have hread := readMessage_spells hspells (requestRoundTrip q hq) h.side
  have hargs := Request.args_length_le hq
  obtain ⟨hcheck, ⟨h64, _, hlong⟩, hdst, _, htype, _⟩ := hspells
  have hinbound : inboundOf h.side (s.requestFrame h q) = s.beginEvent.requestInbound h q := by
    rw [inboundOf, hdst, htype, if_pos rfl, hread, State.requestInbound, State.beginEvent_destAddress, requestMessage, if_pos hq]
    rw [State.requestFrame, State.requestFrame, State.beginEvent_destAddress]
  have hchecked : s.beginEvent.checkFrame h.side (s.requestFrame h q) = s.beginEvent.acceptFrame (s.beginEvent.requestInbound h q) := by
    unfold State.checkFrame
    rw [hcheck, hinbound]
    dsimp only
    rw [if_neg (by simp), if_neg (by omega), if_neg (by omega)]
  have harrival : s.beginEvent.requestArrival h q = s.beginEvent.backboneFrame h.side (s.requestFrame h q) := by
    unfold State.requestArrival State.backboneFrame State.onCoupledPort
    dsimp only
    rw [hchecked]
  rw [exec_request]
  change _ = Host.Outcome.next (s.event fun t => t.backboneFrame h.side (s.requestFrame h q))
  unfold State.event
  dsimp only
  rw [harrival]

end Sys2Proof.Proofs
end

section
/-! SUPPORT and PROOFS. The settings image read back (O14). -/

namespace Sys2Proof.Machine

/-! ### Lists of parts of one length -/

section Parts

variable {α : Type} {f : α → Bytes} {k : Nat}

theorem flatMap_length_const (hf : ∀ a, (f a).length = k) (l : List α) : (l.flatMap f).length = k * l.length := by
  induction l with
  | nil => rfl
  | cons a rest ih => rw [List.flatMap_cons, List.length_append, hf, ih, List.length_cons, Nat.mul_succ, Nat.add_comm]

theorem drop_flatMap_const (hf : ∀ a, (f a).length = k) (l : List α) (i : Nat) : (l.flatMap f).drop (k * i) = (l.drop i).flatMap f := by
  induction i generalizing l with
  | zero => rfl
  | succ i ih =>
    cases l with
    | nil => simp
    | cons a rest =>
      rw [List.flatMap_cons, List.drop_succ_cons, ← ih rest, Nat.mul_succ, Nat.add_comm, ← List.drop_drop,
        List.drop_append, hf a, List.drop_eq_nil_of_le (hf a).le]
      simp

/-- The part of the `i`th element stands at the front of what follows the `i` parts before it. -/
theorem drop_flatMap_getElem (hf : ∀ a, (f a).length = k) {l : List α} {i : Nat} (h : i < l.length) :
    (l.flatMap f).drop (k * i) = f l[i] ++ (l.drop (i + 1)).flatMap f := by
  rw [drop_flatMap_const hf, List.drop_eq_getElem_cons h, List.flatMap_cons]

end Parts

theorem drop_append_exact {a b : Bytes} {n : Nat} (h : a.length = n) (m : Nat) : (a ++ b).drop (n + m) = b.drop m := by
  rw [← h, List.drop_append]
  simp

/-- A list is read from the numbers below its length. -/
theorem readAll_range {α : Type} {f : Nat → Option α} {l : List α} (h : ∀ i (hi : i < l.length), f i = some l[i]) :
    readAll f (List.range l.length) = some l := by
  refine readAll_eq_some_iff.2 (List.ext_getElem (by simp) fun i hi _ => ?_)
  have hi' : i < l.length := by simpa using hi
  rw [List.getElem_map, List.getElem_range, List.getElem_map, h i hi']

/-! ### Values within their ranges -/

@[simp] theorem boolOf_boolByte (b : Bool) : boolOf (boolByte b) = some b := by cases b <;> rfl

theorem effectOf_code (e : Effect) : effectOf e.code = some e := by cases e <;> rfl

theorem toNat_ofNat_half {n : Nat} (h : n < 65536) : (BitVec.ofNat 16 n).toNat = n := by
  rw [BitVec.toNat_ofNat]
  exact Nat.mod_eq_of_lt h

theorem seatProfileOf_raw {p : SeatProfile}
    (h : 64 ≤ p.maxLength ∧ p.maxLength ≤ 2048 ∧ 10 ≤ p.idleTime ∧ p.idleTime ≤ 3600) : seatProfileOf p.raw = some p := by
  obtain ⟨hmin, hmax, hidleMin, hidleMax⟩ := h
  simp only [seatProfileOf, SeatProfile.raw, boolOf_boolByte, toNat_ofNat_half (show p.maxLength < 65536 by omega),
    toNat_ofNat_half (show p.idleTime < 65536 by omega), within_eq_some hmin hmax, within_eq_some hidleMin hidleMax]

theorem ceilingProfileOf_raw {p : CeilingProfile} (h : 1 ≤ p.clientLimit ∧ p.clientLimit ≤ 63 ∧ 64 ≤ p.maxLength ∧ p.maxLength ≤ 2048
    ∧ 10 ≤ p.idleTime ∧ p.idleTime ≤ 3600 ∧ 100 ≤ p.surveyWindow ∧ p.surveyWindow ≤ 10000 ∧ p.threshold ≤ 100) :
    ceilingProfileOf p.raw = some p := by
  obtain ⟨hlimitMin, hlimitMax, hmin, hmax, hidleMin, hidleMax, hsurveyMin, hsurveyMax, hthreshold⟩ := h
  simp only [ceilingProfileOf, CeilingProfile.raw, boolOf_boolByte, toNat_ofNat_byte (show p.clientLimit ≤ 255 by omega),
    toNat_ofNat_half (show p.maxLength < 65536 by omega), toNat_ofNat_half (show p.idleTime < 65536 by omega),
    toNat_ofNat_half (show p.surveyWindow < 65536 by omega), toNat_ofNat_byte (show p.threshold ≤ 255 by omega),
    within_eq_some hlimitMin hlimitMax, within_eq_some hmin hmax, within_eq_some hidleMin hidleMax,
    within_eq_some hsurveyMin hsurveyMax, within_eq_some (Nat.zero_le _) hthreshold]

theorem rulesOf_bytes (r : LampRules) (b : Bytes) : rulesOf (readRules (r.bytes ++ b) 0) = some r := by
  have hread : readRules (r.bytes ++ b) 0 =
      { linkUp := r.linkUp.code, clientAttached := r.clientAttached.code, entitled := r.entitled.code, parked := r.parked.code,
        activity := r.activity.code, lampBarred := r.lampBarred.code } := rfl
  simp only [hread, rulesOf, effectOf_code]

/-! ### The image, part by part -/

/-- The items before the seats: the vehicle number and the addressing. -/
def Settings.headBytes (x : Settings) : Bytes :=
  beBytes 4 x.vehicle ++ (addrBytes x.addressing.cabinet ++ (addrBytes x.addressing.group
    ++ [boolByte x.addressing.groupEnable, boolByte x.addressing.allEnable]))

/-- The part of one seat, and of one link. -/
def SeatProfile.bytes (p : SeatProfile) : Bytes := seatProfileBytes p.raw
def CeilingProfile.bytes (p : CeilingProfile) : Bytes := ceilingProfileBytes p.raw

theorem SeatProfile.bytes_length (p : SeatProfile) : p.bytes.length = 8 := seatProfileBytes_length _
theorem CeilingProfile.bytes_length (p : CeilingProfile) : p.bytes.length = 11 := ceilingProfileBytes_length _

def Settings.seatBytes (x : Settings) : Bytes := x.seats.flatMap SeatProfile.bytes
def Settings.linkBytes (x : Settings) : Bytes := x.links.flatMap CeilingProfile.bytes
def Settings.levelBytes (x : Settings) : Bytes := x.levels.map (BitVec.ofNat 8)
def Settings.timingBytes (x : Settings) : Bytes :=
  halfBytes (BitVec.ofNat 16 x.timing.release) ++ (halfBytes (BitVec.ofNat 16 x.timing.linger)
    ++ halfBytes (BitVec.ofNat 16 x.timing.defer))

theorem beBytes_half {n : Nat} (h : n < 65536) : beBytes 2 n = halfBytes (BitVec.ofNat 16 n) := by
  rw [halfBytes, toNat_ofNat_half h]

section Image

variable {x : Settings} (h : x.inRange)
include h

theorem Settings.bytes_eq : x.bytes
    = x.headBytes ++ (x.seatBytes ++ (x.linkBytes ++ (x.rules.bytes ++ (BitVec.ofNat 8 x.brightness :: (x.levelBytes ++ x.timingBytes))))) := by
  obtain ⟨_, _, _, _, _, _, _, _, _, _, _, _, _, _, _, _, hrelease, _, hlinger, _, hdefer⟩ := h
  simp only [Settings.bytes, Settings.headBytes, Settings.seatBytes, Settings.linkBytes, Settings.levelBytes, Settings.timingBytes,
    List.append_assoc, List.cons_append, List.nil_append, beBytes_half (show x.timing.release < 65536 by omega),
    beBytes_half (show x.timing.linger < 65536 by omega), beBytes_half (show x.timing.defer < 65536 by omega)]
  rfl

theorem Settings.seatBytes_length : x.seatBytes.length = 512 := by
  obtain ⟨_, _, _, _, _, _, _, hseats, _⟩ := h
  rw [Settings.seatBytes, flatMap_length_const SeatProfile.bytes_length, hseats]

theorem Settings.linkBytes_length : x.linkBytes.length = 88 := by
  obtain ⟨_, _, _, _, _, _, _, _, _, hlinks, _⟩ := h
  rw [Settings.linkBytes, flatMap_length_const CeilingProfile.bytes_length, hlinks]

theorem Settings.levelBytes_length : x.levelBytes.length = 11 := by
  obtain ⟨_, _, _, _, _, _, _, _, _, _, _, _, _, hlevels, _⟩ := h
  rw [Settings.levelBytes, List.length_map, hlevels]

omit h in
theorem Settings.headBytes_length : x.headBytes.length = 18 := by simp [Settings.headBytes, beBytes_length]

/-- What stands behind the vehicle number and the addressing. -/
theorem Settings.drop_bytes : x.bytes.drop 18
      = x.seatBytes ++ (x.linkBytes ++ (x.rules.bytes ++ (BitVec.ofNat 8 x.brightness :: (x.levelBytes ++ x.timingBytes))))
    ∧ x.bytes.drop 530 = x.linkBytes ++ (x.rules.bytes ++ (BitVec.ofNat 8 x.brightness :: (x.levelBytes ++ x.timingBytes)))
    ∧ x.bytes.drop 618 = x.rules.bytes ++ (BitVec.ofNat 8 x.brightness :: (x.levelBytes ++ x.timingBytes))
    ∧ x.bytes.drop 625 = x.levelBytes ++ x.timingBytes ∧ x.bytes.drop 636 = x.timingBytes := by
  have hbytes := Settings.bytes_eq h
  have hhead : x.headBytes.length = 18 := Settings.headBytes_length
  have hseats := Settings.seatBytes_length h
  have hlinks := Settings.linkBytes_length h
  have h18 := drop_append_exact hhead 0 (b := x.seatBytes ++ (x.linkBytes ++ (x.rules.bytes
    ++ (BitVec.ofNat 8 x.brightness :: (x.levelBytes ++ x.timingBytes)))))
  have h530 := drop_append_exact hseats 0 (b := x.linkBytes ++ (x.rules.bytes
    ++ (BitVec.ofNat 8 x.brightness :: (x.levelBytes ++ x.timingBytes))))
  have h618 := drop_append_exact hlinks 0 (b := x.rules.bytes ++ (BitVec.ofNat 8 x.brightness :: (x.levelBytes ++ x.timingBytes)))
  rw [← hbytes, List.drop_zero] at h18
  rw [← h18, List.drop_drop, List.drop_zero] at h530
  rw [← h530, List.drop_drop, List.drop_zero] at h618
  have h625 : x.bytes.drop (618 + 7) = x.levelBytes ++ x.timingBytes := by
    rw [← List.drop_drop, h618]
    rfl
  have h636 : x.bytes.drop (625 + 11) = x.timingBytes := by
    rw [← List.drop_drop, h625, drop_append_exact (m := 0) (Settings.levelBytes_length h), List.drop_zero]
  exact ⟨h18, h530, h618, h625, h636⟩

theorem Settings.bytes_length : x.bytes.length = imageLength := by
  rw [Settings.bytes_eq h]
  simp only [List.length_append, List.length_cons, Settings.headBytes_length, Settings.seatBytes_length h, Settings.linkBytes_length h,
    Settings.levelBytes_length h, LampRules.bytes, Settings.timingBytes, halfBytes_length]
  rfl

theorem readSettings_seats :
    readAll (fun i => seatProfileOf (readSeatProfile x.bytes (18 + 8 * i))) (List.range 64) = some x.seats := by
  obtain ⟨h18, _⟩ := Settings.drop_bytes h
  obtain ⟨_, _, _, _, _, _, _, hlength, hseats, _⟩ := h
  rw [← hlength]
  refine readAll_range fun i hi => ?_
  have hdrop : x.bytes.drop (18 + 8 * i) = (x.seats[i]).bytes
      ++ ((x.seats.drop (i + 1)).flatMap SeatProfile.bytes
        ++ (x.linkBytes ++ (x.rules.bytes ++ (BitVec.ofNat 8 x.brightness :: (x.levelBytes ++ x.timingBytes))))) := by
    rw [← List.drop_drop, h18, List.drop_append_of_le_length, Settings.seatBytes,
      drop_flatMap_getElem SeatProfile.bytes_length hi, List.append_assoc]
    rw [Settings.seatBytes, flatMap_length_const SeatProfile.bytes_length]
    omega
  rw [← readSeatProfile_drop, hdrop, SeatProfile.bytes, readSeatProfile_append]
  exact seatProfileOf_raw (hseats _ (List.getElem_mem hi))

theorem readSettings_links :
    readAll (fun i => ceilingProfileOf (readCeilingProfile x.bytes (530 + 11 * i))) (List.range 8) = some x.links := by
  obtain ⟨_, h530, _⟩ := Settings.drop_bytes h
  obtain ⟨_, _, _, _, _, _, _, _, _, hlength, hlinks, _⟩ := h
  rw [← hlength]
  refine readAll_range fun i hi => ?_
  have hdrop : x.bytes.drop (530 + 11 * i) = (x.links[i]).bytes
      ++ ((x.links.drop (i + 1)).flatMap CeilingProfile.bytes
        ++ (x.rules.bytes ++ (BitVec.ofNat 8 x.brightness :: (x.levelBytes ++ x.timingBytes)))) := by
    rw [← List.drop_drop, h530, List.drop_append_of_le_length, Settings.linkBytes,
      drop_flatMap_getElem CeilingProfile.bytes_length hi, List.append_assoc]
    rw [Settings.linkBytes, flatMap_length_const CeilingProfile.bytes_length]
    omega
  rw [← readCeilingProfile_drop, hdrop, CeilingProfile.bytes, readCeilingProfile_append]
  exact ceilingProfileOf_raw (hlinks _ (List.getElem_mem hi))

theorem readSettings_levels : readAll (fun i => levelOf (byteAt x.bytes (625 + i))) (List.range 11) = some x.levels := by
  obtain ⟨_, _, _, h625, _⟩ := Settings.drop_bytes h
  have hbytes := Settings.levelBytes_length h
  obtain ⟨_, _, _, _, _, _, _, _, _, _, _, _, _, hlength, hlevels, _⟩ := h
  rw [← hlength]
  refine readAll_range fun i hi => ?_
  have hle := hlevels _ (List.getElem_mem hi)
  have hbyte : byteAt x.bytes (625 + i) = BitVec.ofNat 8 x.levels[i] := by
    rw [← byteAt_drop, h625, byteAt_append_of_lt (by rw [Settings.levelBytes, List.length_map]; exact hi), Settings.levelBytes, byteAt,
      List.getD_eq_getElem _ _ (by rw [List.length_map]; exact hi), List.getElem_map]
  rw [hbyte, levelOf_eq_some (by rw [toNat_ofNat_byte (by omega)]; exact hle), toNat_ofNat_byte (by omega)]

theorem readSettings_lamps : rulesOf (readRules x.bytes 618) = some x.rules ∧ brightnessOf (byteAt x.bytes 624) = some x.brightness := by
  obtain ⟨_, _, h618, _⟩ := Settings.drop_bytes h
  obtain ⟨_, _, _, _, _, _, _, _, _, _, _, hmin, hmax, _⟩ := h
  have hrules : readRules x.bytes 618 = readRules (x.bytes.drop 618) 0 := by simp [readRules, byteAt_drop]
  have hbright : byteAt x.bytes 624 = byteAt (x.bytes.drop 618) 6 := (byteAt_drop (o := 618) (n := 6)).symm
  rw [hrules, hbright, h618, rulesOf_bytes]
  refine ⟨rfl, ?_⟩
  have hbyte := toNat_ofNat_byte (show x.brightness ≤ 255 by omega)
  change brightnessOf (BitVec.ofNat 8 x.brightness) = _
  rw [brightnessOf, hbyte, if_pos ⟨hmin, hmax⟩]

theorem readSettings_timing : timingOf (halfAt x.bytes 636) (halfAt x.bytes 638) (halfAt x.bytes 640) = some x.timing := by
  obtain ⟨_, _, _, _, h636⟩ := Settings.drop_bytes h
  obtain ⟨_, _, _, _, _, _, _, _, _, _, _, _, _, _, _, hrelease, hrelease', hlinger, hlinger', hdefer, hdefer'⟩ := h
  have hhalf : ∀ n, halfAt x.bytes (636 + n) = halfAt x.timingBytes n := fun n => by
    rw [halfAt, halfAt, ← field_drop, h636]
  rw [show halfAt x.bytes 636 = _ from hhalf 0, show halfAt x.bytes 638 = _ from hhalf 2, show halfAt x.bytes 640 = _ from hhalf 4]
  have hr := toNat_ofNat_half (show x.timing.release < 65536 by omega)
  have hl := toNat_ofNat_half (show x.timing.linger < 65536 by omega)
  have hd := toNat_ofNat_half (show x.timing.defer < 65536 by omega)
  simp [Settings.timingBytes, timingOf, halfAt_append_of_le, -BitVec.toNat_ofNat, hr, hl, hd, within_eq_some hrelease hrelease',
    within_eq_some hlinger hlinger', within_eq_some hdefer hdefer']

theorem readSettings_head : within 0 16777215 (wordAt x.bytes 0).toNat = some x.vehicle
    ∧ addressingOf (addrAt x.bytes 4) (byteAt x.bytes 17) (addrAt x.bytes 10) (byteAt x.bytes 16) = some x.addressing := by
  have hbytes := Settings.bytes_eq h
  obtain ⟨hvehicle, hcabinet, hzero, hall, hgroup, hbroadcast, hallGroup, _⟩ := h
  have hword : (wordAt x.bytes 0).toNat = x.vehicle := by
    rw [wordAt, hbytes, Settings.headBytes, List.append_assoc, field_append_head (beBytes_length 4 _), beNat_beBytes,
      BitVec.toNat_ofNat]
    omega
  refine ⟨by rw [hword, within_eq_some (Nat.zero_le _) hvehicle], ?_⟩
  rw [hbytes]
  simp [Settings.headBytes, addrAt_append_of_le, byteAt_append_of_le, beBytes_length, addressingOf, hcabinet, hall, hgroup,
    hbroadcast, hallGroup]
  exact hzero

end Image

end Sys2Proof.Machine

namespace Sys2Proof.Proofs

open Sys2Proof.Machine

/-- Settles O14: the image's parts have fixed lengths, and each is read where it stands. -/
theorem settingsImageRoundTrip : Obligations.SettingsImageRoundTrip := by
  unfold Obligations.SettingsImageRoundTrip
  intro x h
  obtain ⟨hvehicle, haddressing⟩ := readSettings_head h
  obtain ⟨hrules, hbrightness⟩ := readSettings_lamps h
  unfold readSettings
  rw [if_neg (not_not.2 (Settings.bytes_length h)), hvehicle, haddressing, readSettings_seats h, readSettings_links h, hrules, hbrightness,
    readSettings_levels h, readSettings_timing h]

end Sys2Proof.Proofs
end

section
/-! SUPPORT and PROOFS. What a frame that is read as a request spells, and the requests that the engine refuses (O49). -/

namespace Sys2Proof.Machine

/-! ### Bytes written back as they were read -/

section WrittenBack

variable {bs : Bytes} {o p m n : Nat}

theorem field_length (h : o + n ≤ bs.length) : (field bs o n).length = n := by
  rw [field, List.length_take, List.length_drop]
  omega

/-- A number that bytes spell is written back as those bytes. -/
theorem beBytes_beNat (bs : Bytes) : beBytes bs.length (beNat bs) = bs := by
  induction bs with
  | nil => rfl
  | cons b rest ih =>
    have hlt : beNat rest < 256 ^ rest.length := by
      rw [← ih, beNat_beBytes, ih]
      exact Nat.mod_lt _ (Nat.pow_pos (by decide))
    have hdigits : ∀ (k v w : Nat), k ≤ rest.length → w = v * 256 ^ rest.length + beNat rest → beBytes k w = beBytes k (beNat rest) := by
      intro k v w hk hw
      induction k with
      | zero => rfl
      | succ k ihk =>
        rw [beBytes, beBytes, ihk (by omega)]
        congr 1
        refine BitVec.eq_of_toNat_eq ?_
        rw [BitVec.toNat_ofNat, BitVec.toNat_ofNat, hw]
        obtain ⟨d, hd⟩ := Nat.exists_eq_add_of_le hk
        have hsplit : v * 256 ^ rest.length = 256 ^ k * (256 * (v * 256 ^ d)) := by rw [hd]; ring
        rw [hsplit, Nat.mul_add_div (Nat.pow_pos (by decide)), Nat.mul_add_mod]
    rw [beNat_cons, List.length_cons, beBytes, hdigits rest.length b.toNat _ le_rfl rfl, ih]
    congr 1
    refine BitVec.eq_of_toNat_eq ?_
    rw [BitVec.toNat_ofNat, Nat.mul_comm, Nat.mul_add_div (Nat.pow_pos (by decide)), Nat.div_eq_of_lt hlt]
    exact Nat.mod_eq_of_lt b.isLt

theorem beNat_lt (bs : Bytes) : beNat bs < 256 ^ bs.length := by
  rw [← beBytes_beNat bs, beNat_beBytes, beBytes_length]
  exact Nat.mod_lt _ (Nat.pow_pos (by decide))

theorem halfBytes_halfAt (h : o + 2 ≤ bs.length) : halfBytes (halfAt bs o) = field bs o 2 := by
  have hlength := field_length h
  have hlt := beNat_lt (field bs o 2)
  rw [hlength] at hlt
  have hback := beBytes_beNat (field bs o 2)
  rw [hlength] at hback
  rw [halfBytes, halfAt, BitVec.toNat_ofNat, Nat.mod_eq_of_lt (by omega), hback]

theorem wordBytes_wordAt (h : o + 4 ≤ bs.length) : wordBytes (wordAt bs o) = field bs o 4 := by
  have hlength := field_length h
  have hlt := beNat_lt (field bs o 4)
  rw [hlength] at hlt
  have hback := beBytes_beNat (field bs o 4)
  rw [hlength] at hback
  rw [wordBytes, wordAt, BitVec.toNat_ofNat, Nat.mod_eq_of_lt (by omega), hback]

theorem addrBytes_addrAt (h : o + 6 ≤ bs.length) : addrBytes (addrAt bs o) = field bs o 6 := by
  have hlength := field_length h
  have hlt := beNat_lt (field bs o 6)
  rw [hlength] at hlt
  have hback := beBytes_beNat (field bs o 6)
  rw [hlength] at hback
  rw [addrBytes, addrAt, BitVec.toNat_ofNat, Nat.mod_eq_of_lt (by omega), hback]

theorem field_join (h : o + m = p) : field bs o m ++ field bs p n = field bs o (m + n) := by
  rw [field, field, field, ← h, List.take_add, List.drop_drop]

theorem byteAt_cons_field (h : o < bs.length) (hp : o + 1 = p) : byteAt bs o :: field bs p n = field bs o (n + 1) := by
  rw [field, field, ← hp, byteAt, List.drop_eq_getElem_cons h, List.take_succ_cons, List.getD_eq_getElem _ _ h]

theorem byteAt_singleton (h : o < bs.length) : [byteAt bs o] = field bs o 1 := by
  rw [← byteAt_cons_field h rfl, field_none]

theorem pairBytes_readPairs : ∀ bs : Bytes, bs.length % 2 = 0 → pairBytes (readPairs bs) = bs
  | [], _ => rfl
  | [_], h => by simp at h
  | a :: b :: rest, h => by
    have hrest := pairBytes_readPairs rest (by simp only [List.length_cons] at h; omega)
    change a :: b :: pairBytes (readPairs rest) = _
    rw [hrest]

end WrittenBack

/-! ### What a code and its arguments spell -/

/-- A request that is written with the code and the arguments given. -/
def Request.Writes (q : Request) (code : Byte) (bs : Bytes) : Prop := q.inFormat = true ∧ q.code = code ∧ q.args = bs

section Spelled

variable {bs : Bytes} {q : Request}

theorem ofLength_eq_request {n : Nat} {r : Request} (h : ofLength bs n r = .request q) : bs.length = n ∧ r = q := by
  unfold ofLength at h
  split at h
  · next hlength => exact ⟨hlength, Decoded.request.inj h⟩
  · cases h

theorem ofLength_ne_unknown (bs : Bytes) (n : Nat) (r : Request) : ofLength bs n r ≠ .unknown := by
  unfold ofLength
  split <;> nofun

theorem seatProfileBytes_read {o : Nat} (h : o + 8 ≤ bs.length) : seatProfileBytes (readSeatProfile bs o) = field bs o 8 := by
  rw [seatProfileBytes, readSeatProfile]
  dsimp only
  rw [halfBytes_halfAt (by omega), halfBytes_halfAt (by omega), byteAt_singleton (show o + 5 < bs.length by omega),
    byteAt_cons_field (by omega) rfl, byteAt_cons_field (by omega) rfl, field_join (by omega), field_join (by omega),
    byteAt_cons_field (by omega) rfl]

theorem ceilingProfileBytes_read {o : Nat} (h : o + 11 ≤ bs.length) :
    ceilingProfileBytes (readCeilingProfile bs o) = field bs o 11 := by
  rw [ceilingProfileBytes, readCeilingProfile]
  dsimp only
  rw [halfBytes_halfAt (by omega), halfBytes_halfAt (by omega), halfBytes_halfAt (by omega),
    byteAt_singleton (show o + 5 < bs.length by omega), byteAt_singleton (show o + 10 < bs.length by omega),
    byteAt_cons_field (by omega) rfl, field_join (by omega), field_join (by omega), field_join (by omega), field_join (by omega),
    byteAt_cons_field (by omega) rfl, byteAt_cons_field (by omega) rfl]

theorem readProfile_writes (h : readProfile bs = .request q) : q.Writes 0x20 bs := by
  unfold readProfile at h
  split at h
  · next hkind =>
    obtain ⟨hlength, rfl⟩ := ofLength_eq_request h
    refine ⟨rfl, rfl, ?_⟩
    rw [Request.args, ← hkind, seatProfileBytes_read (by omega), byteAt_cons_field (by omega) rfl, byteAt_cons_field (by omega) rfl,
      field_all hlength]
  · split at h
    · next hkind =>
      obtain ⟨hlength, rfl⟩ := ofLength_eq_request h
      refine ⟨rfl, rfl, ?_⟩
      rw [Request.args, ← hkind, ceilingProfileBytes_read (by omega), byteAt_cons_field (by omega) rfl,
        byteAt_cons_field (by omega) rfl, field_all hlength]
    · cases h

theorem readClientRef_writes (h : readClientRef bs = .request q) : q.Writes 0x32 bs := by
  unfold readClientRef at h
  split at h
  · next hlength =>
    obtain rfl := Decoded.request.inj h
    exact ⟨rfl, rfl, by rw [Request.args, halfBytes_halfAt (by omega), field_all hlength]⟩
  · split at h
    · next hlength =>
      obtain rfl := Decoded.request.inj h
      exact ⟨rfl, rfl, by rw [Request.args, addrBytes_addrAt (by omega), field_all hlength]⟩
    · cases h

/-- The part set byte is written back from its bits. -/
theorem partSet_bits (b : Byte) : partSet (b.extractLsb' 3 5) (b.getLsbD 0) (b.getLsbD 1) (b.getLsbD 2) = b := by
  revert b
  decide +kernel

theorem rawRulesBytes_read {o : Nat} (h : o + 6 ≤ bs.length) : rawRulesBytes (readRules bs o) = field bs o 6 := by
  rw [rawRulesBytes, readRules]
  dsimp only
  rw [byteAt_singleton (show o + 5 < bs.length by omega), byteAt_cons_field (by omega) rfl, byteAt_cons_field (by omega) rfl,
    byteAt_cons_field (by omega) rfl, byteAt_cons_field (by omega) rfl, byteAt_cons_field (by omega) rfl]

/-- The force list behind its count byte at `o`, when the message ends with it. -/
theorem forceBytes_read {o : Nat} (h : bs.length = o + 1 + 2 * (byteAt bs o).toNat) :
    (readPairs (bs.drop (o + 1))).length = (byteAt bs o).toNat ∧ forceBytes (readPairs (bs.drop (o + 1))) = bs.drop o := by
  have heven : (bs.drop (o + 1)).length % 2 = 0 := by rw [List.length_drop]; omega
  have hpairs := pairBytes_readPairs _ heven
  have hlength : 2 * (readPairs (bs.drop (o + 1))).length = (bs.drop (o + 1)).length := by
    rw [← pairBytes_length, hpairs]
  rw [List.length_drop] at hlength
  have hcount : (readPairs (bs.drop (o + 1))).length = (byteAt bs o).toNat := by omega
  have hsplit : bs.drop o = byteAt bs o :: bs.drop (o + 1) := by
    rw [byteAt, List.getD_eq_getElem _ _ (by omega)]
    exact List.drop_eq_getElem_cons (by omega)
  exact ⟨hcount, by rw [forceBytes, hpairs, hcount, BitVec.ofNat_toNat, BitVec.setWidth_eq, hsplit]⟩

/-- Where the parts of a SET_LAMP end. -/
def lampRulesEnd (part : Byte) : Nat := if part.getLsbD 0 then 7 else 1
def lampBrightnessEnd (part : Byte) : Nat := if part.getLsbD 1 then lampRulesEnd part + 1 else lampRulesEnd part
def lampEnd (part : Byte) (count : Nat) : Nat :=
  if part.getLsbD 2 then lampBrightnessEnd part + 1 + 2 * count else lampBrightnessEnd part

theorem field_rest (bs : Bytes) (o : Nat) : field bs o (bs.length - o) = bs.drop o := by
  rw [field, List.take_of_length_le (by rw [List.length_drop])]

/-- The three optional parts, each written back as the bytes it was read from. -/
theorem lampParts_read (part : Byte) (hlength : bs.length = lampEnd part (byteAt bs (lampBrightnessEnd part)).toNat) :
    (((if part.getLsbD 0 then some (readRules bs 1) else none).map rawRulesBytes).getD []
      ++ ((if part.getLsbD 1 then some (byteAt bs (lampRulesEnd part)) else none).map fun b => [b]).getD []
      ++ ((if part.getLsbD 2 then some (readPairs (bs.drop (lampBrightnessEnd part + 1))) else none).map forceBytes).getD [])
      = bs.drop 1 := by
  have hrulesEnd : lampRulesEnd part = if part.getLsbD 0 then 7 else 1 := rfl
  have hbrightnessEnd : lampBrightnessEnd part = if part.getLsbD 1 then lampRulesEnd part + 1 else lampRulesEnd part := rfl
  have hle : lampBrightnessEnd part ≤ bs.length := by rw [hlength, lampEnd]; split <;> omega
  have hle' : lampRulesEnd part ≤ lampBrightnessEnd part := by rw [hbrightnessEnd]; split <;> omega
  have hrules : ((if part.getLsbD 0 then some (readRules bs 1) else none).map rawRulesBytes).getD []
      = field bs 1 (lampRulesEnd part - 1) := by
    rw [hrulesEnd] at hle' ⊢
    split
    · next h => rw [if_pos h] at hle'; exact rawRulesBytes_read (by omega)
    · exact field_none.symm
  have hbrightness : ((if part.getLsbD 1 then some (byteAt bs (lampRulesEnd part)) else none).map fun b => [b]).getD []
      = field bs (lampRulesEnd part) (lampBrightnessEnd part - lampRulesEnd part) := by
    rw [hbrightnessEnd] at hle ⊢
    split
    · next h =>
      rw [if_pos h] at hle
      rw [Nat.add_sub_cancel_left]
      exact byteAt_singleton (by omega)
    · rw [Nat.sub_self]; exact field_none.symm
  have hforces : ((if part.getLsbD 2 then some (readPairs (bs.drop (lampBrightnessEnd part + 1))) else none).map forceBytes).getD []
      = field bs (lampBrightnessEnd part) (bs.length - lampBrightnessEnd part) := by
    rw [field_rest]
    split
    · next h =>
      rw [lampEnd, if_pos h] at hlength
      exact (forceBytes_read hlength).2
    · next h =>
      rw [lampEnd, if_neg h] at hlength
      rw [List.drop_eq_nil_of_le hlength.le]
      rfl
  have hone : 1 ≤ lampRulesEnd part := by rw [hrulesEnd]; split <;> omega
  rw [hrules, hbrightness, hforces, field_join (by omega), field_join (by omega), ← field_rest]
  congr 1
  omega

theorem readLamp_writes (h : readLamp bs = .request q) : q.Writes 0x21 bs := by
  obtain ⟨hlength, rfl⟩ := ofLength_eq_request h
  have hend : bs.length = lampEnd (byteAt bs 0) (byteAt bs (lampBrightnessEnd (byteAt bs 0))).toNat := hlength
  have hparts := lampParts_read (byteAt bs 0) hend
  have hpositive : 0 < bs.length := by
    rw [hend, lampEnd, lampBrightnessEnd, lampRulesEnd]
    split <;> split <;> split <;> omega
  refine ⟨?_, rfl, ?_⟩
  · cases hbit : (byteAt bs 0).getLsbD 2 with
    | false => rfl
    | true =>
      rw [lampEnd, if_pos hbit] at hend
      obtain ⟨hcount, _⟩ := forceBytes_read hend
      refine decide_eq_true (hcount.trans_le ?_)
      have := (byteAt bs (lampBrightnessEnd (byteAt bs 0))).isLt
      omega
  · have hhead : [byteAt bs 0] ++ bs.drop 1 = bs := by
      rw [byteAt_singleton hpositive, ← field_rest, field_join rfl, field_all (by omega)]
    have hsome : ∀ {α : Type} (c : Bool) (x : α), (if c then some x else none).isSome = c := by
      intro α c x
      cases c <;> rfl
    have hargs := congrArg (byteAt bs 0 :: ·) hparts
    rw [Request.args, hsome, hsome, hsome, partSet_bits]
    exact hargs.trans hhead

theorem writes_of_length {code : Byte} {n : Nat} {r : Request} (h : ofLength bs n r = .request q) (hcode : r.code = code)
    (hformat : r.inFormat = true) (hargs : bs.length = n → r.args = bs) : q.Writes code bs := by
  obtain ⟨hlength, rfl⟩ := ofLength_eq_request h
  exact ⟨hformat, hcode, hargs hlength⟩

/-- What is read as a request is what the request writes (R191, R221). -/
theorem readRequest_writes {code : Byte} (h : readRequest code bs = .request q) : q.Writes code bs := by
  unfold readRequest at h
  by_cases hcode : code = 0x01
  · rw [if_pos hcode] at h
    exact writes_of_length h hcode.symm rfl fun hlength => by
      simp [Request.args, hlength, byteAt_singleton, byteAt_cons_field, field_all]
  rw [if_neg hcode] at h
  by_cases hcode : code = 0x02
  · rw [if_pos hcode] at h
    exact writes_of_length h hcode.symm rfl fun hlength => by
      simp [Request.args, hlength, byteAt_singleton, field_all]
  rw [if_neg hcode] at h
  by_cases hcode : code = 0x03
  · rw [if_pos hcode] at h
    split at h
    · next hlength =>
      obtain rfl := Decoded.request.inj h
      exact ⟨decide_eq_true hlength, hcode.symm, rfl⟩
    · cases h
  rw [if_neg hcode] at h
  by_cases hcode : code = 0x10
  · rw [if_pos hcode] at h
    exact writes_of_length h hcode.symm rfl fun hlength => by
      simp [Request.args, hlength, halfBytes_halfAt, wordBytes_wordAt, byteAt_singleton, field_join, field_all]
  rw [if_neg hcode] at h
  by_cases hcode : code = 0x11
  · rw [if_pos hcode] at h
    exact writes_of_length h hcode.symm rfl fun hlength => by
      simp [Request.args, hlength, halfBytes_halfAt, addrBytes_addrAt, byteAt_cons_field, field_join, field_all]
  rw [if_neg hcode] at h
  by_cases hcode : code = 0x12
  · rw [if_pos hcode] at h
    exact writes_of_length h hcode.symm rfl fun hlength => by
      simp [Request.args, hlength, addrBytes_addrAt, field_all]
  rw [if_neg hcode] at h
  by_cases hcode : code = 0x13
  · rw [if_pos hcode] at h
    exact writes_of_length h hcode.symm rfl fun hlength => (List.eq_nil_of_length_eq_zero hlength).symm
  rw [if_neg hcode] at h
  by_cases hcode : code = 0x14
  · rw [if_pos hcode] at h
    exact writes_of_length h hcode.symm rfl fun hlength => by
      simp [Request.args, hlength, addrBytes_addrAt, field_all]
  rw [if_neg hcode] at h
  by_cases hcode : code = 0x20
  · rw [if_pos hcode] at h
    rw [hcode]; exact readProfile_writes h
  rw [if_neg hcode] at h
  by_cases hcode : code = 0x21
  · rw [if_pos hcode] at h
    rw [hcode]; exact readLamp_writes h
  rw [if_neg hcode] at h
  by_cases hcode : code = 0x22
  · rw [if_pos hcode] at h
    split at h
    · next hlength =>
      obtain ⟨hle, heven⟩ := hlength
      obtain rfl := Decoded.request.inj h
      have hpairs := pairBytes_readPairs bs heven
      have hcount := pairBytes_length (readPairs bs)
      rw [hpairs] at hcount
      exact ⟨decide_eq_true (by omega), hcode.symm, hpairs⟩
    · cases h
  rw [if_neg hcode] at h
  by_cases hcode : code = 0x23
  · rw [if_pos hcode] at h
    exact writes_of_length h hcode.symm rfl fun hlength => by
      simp [Request.args, hlength, halfBytes_halfAt, field_join, field_all]
  rw [if_neg hcode] at h
  by_cases hcode : code = 0x24
  · rw [if_pos hcode] at h
    exact writes_of_length h hcode.symm rfl fun hlength => by
      simp [Request.args, hlength, addrBytes_addrAt, byteAt_singleton, field_join, field_all]
  rw [if_neg hcode] at h
  by_cases hcode : code = 0x25
  · rw [if_pos hcode] at h
    exact writes_of_length h hcode.symm rfl fun hlength => by
      simp [Request.args, hlength, wordBytes_wordAt, field_all]
  rw [if_neg hcode] at h
  by_cases hcode : code = 0x26
  · rw [if_pos hcode] at h
    exact writes_of_length h hcode.symm rfl fun hlength => by
      simp [Request.args, hlength, byteAt_singleton, byteAt_cons_field, field_all]
  rw [if_neg hcode] at h
  by_cases hcode : code = 0x27
  · rw [if_pos hcode] at h
    exact writes_of_length h hcode.symm rfl fun hlength => by
      simp [Request.args, hlength, wordBytes_wordAt, byteAt_singleton, byteAt_cons_field, field_join, field_all]
  rw [if_neg hcode] at h
  by_cases hcode : code = 0x28
  · rw [if_pos hcode] at h
    exact writes_of_length h hcode.symm rfl fun hlength => (List.eq_nil_of_length_eq_zero hlength).symm
  rw [if_neg hcode] at h
  by_cases hcode : code = 0x29
  · rw [if_pos hcode] at h
    exact writes_of_length h hcode.symm rfl fun hlength => (List.eq_nil_of_length_eq_zero hlength).symm
  rw [if_neg hcode] at h
  by_cases hcode : code = 0x2A
  · rw [if_pos hcode] at h
    exact writes_of_length h hcode.symm rfl fun hlength => (List.eq_nil_of_length_eq_zero hlength).symm
  rw [if_neg hcode] at h
  by_cases hcode : code = 0x30
  · rw [if_pos hcode] at h
    exact writes_of_length h hcode.symm rfl fun hlength => by
      simp [Request.args, hlength, byteAt_singleton, byteAt_cons_field, field_all]
  rw [if_neg hcode] at h
  by_cases hcode : code = 0x31
  · rw [if_pos hcode] at h
    exact writes_of_length h hcode.symm rfl fun hlength => (List.eq_nil_of_length_eq_zero hlength).symm
  rw [if_neg hcode] at h
  by_cases hcode : code = 0x32
  · rw [if_pos hcode] at h
    rw [hcode]; exact readClientRef_writes h
  rw [if_neg hcode] at h
  by_cases hcode : code = 0x33
  · rw [if_pos hcode] at h
    exact writes_of_length h hcode.symm rfl fun hlength => by
      simp [Request.args, hlength, halfBytes_halfAt, field_all]
  rw [if_neg hcode] at h
  by_cases hcode : code = 0x34
  · rw [if_pos hcode] at h
    exact writes_of_length h hcode.symm rfl fun hlength => by
      simp [Request.args, hlength, byteAt_singleton, byteAt_cons_field, field_all]
  rw [if_neg hcode] at h
  by_cases hcode : code = 0x35
  · rw [if_pos hcode] at h
    exact writes_of_length h hcode.symm rfl fun hlength => by
      simp [Request.args, hlength, byteAt_singleton, field_all]
  rw [if_neg hcode] at h
  cases h

/-- A code that some request has is not an unknown one. -/
theorem readRequest_code_ne_unknown (q : Request) (bs : Bytes) : readRequest q.code bs ≠ .unknown := by
  cases q with
  | clearCauses causes =>
    change (if bs.length ≤ 11 then Decoded.request (.clearCauses bs) else .badFormat) ≠ .unknown
    split <;> nofun
  | setProfile port f =>
    change readProfile bs ≠ .unknown
    unfold readProfile
    split
    · exact ofLength_ne_unknown _ _ _
    · split
      · exact ofLength_ne_unknown _ _ _
      · nofun
  | setLevels pairs =>
    change (if bs.length ≤ 22 ∧ bs.length % 2 = 0 then Decoded.request (.setLevels (readPairs bs)) else .badFormat) ≠ .unknown
    split <;> nofun
  | queryClient client =>
    change readClientRef bs ≠ .unknown
    unfold readClientRef
    split
    · nofun
    · split <;> nofun
  | _ => exact ofLength_ne_unknown _ _ _

/-- A code that no request has is unknown. -/
theorem readRequest_unknown {code : Byte} (h : ∀ q : Request, q.code ≠ code) (bs : Bytes) : readRequest code bs = .unknown := by
  have hne : ∀ q : Request, ¬ code = q.code := fun q e => h q e.symm
  simp only [readRequest, if_neg (show ¬ code = 0x01 from hne (.enrol 0 0)),
    if_neg (show ¬ code = 0x02 from hne (.releaseRoles 0)),
    if_neg (show ¬ code = 0x03 from hne (.clearCauses [])),
    if_neg (show ¬ code = 0x10 from hne (.grantShare 0 0 0 0 0 0)),
    if_neg (show ¬ code = 0x11 from hne (.entitle 0 0 0)),
    if_neg (show ¬ code = 0x12 from hne (.revoke 0)),
    if_neg (show ¬ code = 0x13 from hne (.journeyEnd)),
    if_neg (show ¬ code = 0x14 from hne (.evict 0)),
    if_neg (show ¬ code = 0x20 from hne (.setProfile 0 (.seat { enabled := 0, maxLength := 0, acceptBroadcast := 0, acceptMulticast := 0, loopback := 0, idleTime := 0 }))),
    if_neg (show ¬ code = 0x21 from hne (.setLamp 0 none none none)),
    if_neg (show ¬ code = 0x22 from hne (.setLevels [])),
    if_neg (show ¬ code = 0x23 from hne (.setTiming 0 0 0)),
    if_neg (show ¬ code = 0x24 from hne (.setAddressing 0 0 0 0)),
    if_neg (show ¬ code = 0x25 from hne (.setIdentity 0)),
    if_neg (show ¬ code = 0x26 from hne (.portOffline 0 0)),
    if_neg (show ¬ code = 0x27 from hne (.relaySetting 0 0 0 0)),
    if_neg (show ¬ code = 0x28 from hne (.storeSettings)),
    if_neg (show ¬ code = 0x29 from hne (.reloadSettings)),
    if_neg (show ¬ code = 0x2A from hne (.cabinetReset)),
    if_neg (show ¬ code = 0x30 from hne (.readCounters 0 0 0)),
    if_neg (show ¬ code = 0x31 from hne (.queryCabinet)),
    if_neg (show ¬ code = 0x32 from hne (.queryClient (.number 0))),
    if_neg (show ¬ code = 0x33 from hne (.listClients 0)),
    if_neg (show ¬ code = 0x34 from hne (.queryPort 0 0)),
    if_neg (show ¬ code = 0x35 from hne (.queryLink 0))]

end Spelled

/-! ### The content of a request's frame -/

theorem decodeRequest_unknown {frame : Bytes} (h : ∀ q : Request, q.code ≠ byteAt frame 16) : decodeRequest frame = .unknown := by
  unfold decodeRequest
  dsimp only
  rw [readRequest_unknown h]

theorem decodeRequest_badFormat {frame : Bytes} {q : Request} (hq : q.code = byteAt frame 16) (h : badArguments frame) :
    decodeRequest frame = .badFormat := by
  have hknown := readRequest_code_ne_unknown q (field frame 25 (halfAt frame 23).toNat)
  rw [hq] at hknown
  unfold decodeRequest
  dsimp only
  cases hread : readRequest (byteAt frame 16) (field frame 25 (halfAt frame 23).toNat) with
  | unknown => exact absurd hread hknown
  | badFormat => exact ite_self _
  | request r =>
    obtain ⟨hformat, hcode, hargs⟩ := readRequest_writes hread
    refine if_pos ?_
    obtain h | h | h := h
    · exact Or.inl h
    · exact Or.inr h
    · exact absurd hargs (h r hformat hcode)

end Sys2Proof.Machine
end

section
/-! SUPPORT and PROOFS. The frames that the engine discards, and the requests that it refuses (O49). -/

namespace Sys2Proof.Machine

/-! ### A frame handed to the engine -/

theorem State.Carried.loosen {s w : State} {side : Side} {whole other : Prop} {m : Engine} (hw : s.Carried side whole m w)
    (h : ¬ other) : s.Carried side other m w :=
  { hw with
    transit := by
      obtain ⟨es, hlen, _, hes⟩ := hw.transit
      exact ⟨es, hlen, fun ho => absurd ho h, hes⟩
    whole := fun ho => absurd ho h }

/-- A frame of the management type that is addressed to the part is read and handed to the engine (R42 to R44). -/
theorem State.backboneFrame_handed {s : State} {side : Side} {frame : Bytes} (hs : s.acceptsFrame side frame)
    (hh : s.handsOver frame) :
    ∃ w, s.beginEvent.backboneFrame side frame = w.handToEngine (readMessage side frame)
      ∧ s.Carried side False s.engineAfterClaim w := by
  obtain ⟨_, hcoupled, hcheck, hmin, hmax, hfree⟩ := hs
  obtain ⟨htype, hdst⟩ := hh
  obtain ⟨w, haccept, hw⟩ := State.acceptFrame_handsOver (s := s) (f := inboundOf side frame) hfree
    (by rw [inboundOf, if_pos htype]) hdst
  refine ⟨w, ?_, hw.loosen id⟩
  rw [State.backboneFrame, State.onCoupledPort, if_pos (by exact hcoupled), ← haccept]
  unfold State.checkFrame
  rw [hcheck]
  dsimp only
  rw [if_neg (by simp), if_neg (by omega), if_neg (by omega)]

/-- The entries of the Station Table after a frame's claim: a STORE_LOW may have entered their pending sets. -/
theorem State.engineAfterClaim_stations (s : State) : ∃ g : Station → Station, s.engineAfterClaim.stations = s.me.stations.map g
    ∧ ∀ st, (g st).kept = st.kept ∧ (g st).side = st.side := by
  rcases s.beginEvent.lowWater_me (s.freeSlots - 1) with h | h
  · exact ⟨id, by rw [State.engineAfterClaim, h, List.map_id]; rfl, fun _ => ⟨rfl, rfl⟩⟩
  · exact ⟨_, by rw [State.engineAfterClaim, h]; rfl, fun _ => ⟨Station.enter_kept _ _ _ _, Station.enter_side _ _ _ _⟩⟩

theorem State.engineAfterClaim_counts (s : State) :
    s.engineAfterClaim.counts = { s.me.counts with raised := s.engineAfterClaim.counts.raised } := by
  rcases s.beginEvent.lowWater_me (s.freeSlots - 1) with h | h <;> rw [State.engineAfterClaim, h] <;> rfl

theorem State.engineAfterClaim_levels (s : State) : s.engineAfterClaim.levels = s.me.levels := by
  rcases s.beginEvent.lowWater_me (s.freeSlots - 1) with h | h <;> rw [State.engineAfterClaim, h] <;> rfl

theorem State.Carried.requestOnly {s w : State} {h : ReqHeader} {whole : Prop}
    (hw : s.Carried h.side whole s.engineAfterClaim w) : s.requestOnly w h [] := by
  obtain ⟨g, hmap, hg⟩ := s.engineAfterClaim_stations
  refine ⟨State.onlyChanges_iff.2 ?_, by rw [hw.me, State.engineAfterClaim_addressing], by rw [hw.me, State.engineAfterClaim_levels],
    ?_, hw.queues⟩
  · exact ⟨fun _ => hw.ct, fun _ => hw.mc, fun _ => hw.sau, fun _ => hw.el, fun hfs => absurd (by simp) hfs, fun _ => hw.spb,
      fun _ => hw.clb, fun _ => hw.cu, fun hme => absurd (by simp) hme, fun _ => hw.sl, fun _ => hw.memory, hw.pending, hw.resetLine⟩
  · rw [hw.me, hmap, List.map_map]
    exact List.map_congr_left fun st _ => (hg st).1

/-- A request that is answered before its owner sees it: it is noted, one more counter advances, and no other effect (R191). -/
theorem noted_refused {s w : State} {side : Side} {x : Addr} (hw : s.Carried side False s.engineAfterClaim w) (r : Return)
    (status : Status) (f : MeCounters → MeCounters) (h : ReqHeader) (hside : h.side = side) :
    let u := (((w.onMe fun e => e.noted x side).countMe f).respond r status [] false)
    u.ev.responses = [{ station := r.station, side := r.side, long := false, code := r.code, tag := r.tag, status := status, args := [] }]
      ∧ (∃ c, u.me.counts = f { s.me.counts with requests := bump s.me.counts.requests, raised := c })
      ∧ u.me.stations.map Station.side = s.me.stations.map (fun st => if st.addr = x then side else st.side)
      ∧ s.requestOnly u h [] := by
  subst hside
  have ht : s.Taken { h with dest := .group, station := x } (w.onMe fun e => e.noted x h.side) :=
    (hw.note x h.side).loosen (by simp)
  have hresponses : (w.onMe fun e => e.noted x h.side).ev.responses = [] := hw.responses
  have honly := ((ht.requestOnly []).countMe f).respond r status [] false
  have hcounts := ht.engineCounts
  obtain ⟨g, hmap, hg⟩ := ht.stations
  generalize (w.onMe fun e => e.noted x h.side) = t at *
  refine ⟨?_, ⟨t.me.counts.raised, congrArg f hcounts⟩, ?_, honly⟩
  · change t.ev.responses ++ [_] = _
    rw [hresponses]
    rfl
  · change t.me.stations.map Station.side = _
    rw [hmap, List.map_map]
    exact List.map_congr_left fun st _ => (hg st).2.1

/-! ### Requests that are refused -/

section Refused

variable {s : State} {h : ReqHeader} {q : Request}

/-- A request whose role its station does not hold (R197). -/
theorem served_notHolder (hs : s.takes h) (hq : q.inFormat = true) (hp : s.permits h.station q = false) :
    ∃ u, served s h q u ∧ u.answers h q .notHolder [] ∧ u.me.counts.notHolder = bump s.me.counts.notHolder
      ∧ s.requestOnly u h [] := by
  obtain ⟨t, ht, hserved⟩ := served_of_takes hs hq
  refine ⟨_, hserved _ (State.carryOut_notHolder ((ht.permits _ _).trans hp)), ?_, ?_,
    ((ht.requestOnly []).countMe _).respond _ _ _ _⟩
  · have hresponses := State.Carried.responses ht
    exact State.respond_answers (u := t.countMe fun c => { c with notHolder := bump c.notHolder }) hresponses h q .notHolder [] false
      (by simp)
  · change bump t.me.counts.notHolder = _
    rw [ht.engineCounts]

/-- A SET_PROFILE while the unit is LOADING (R191). -/
theorem served_waits (hs : s.takes h) (hq : q.inFormat = true) (hp : s.permits h.station q = true) (hw : s.waitsForLoad q = true) :
    ∃ u, served s h q u ∧ u.answers h q .busy [] ∧ s.requestOnly u h [] := by
  obtain ⟨t, ht, hserved⟩ := served_of_takes hs hq
  refine ⟨_, hserved _ (State.carryOut_waits ((ht.permits _ _).trans hp) ((ht.waitsForLoad _).trans hw)), ?_,
    (ht.requestOnly []).respond _ _ _ _⟩
  exact State.respond_answers (State.Carried.responses ht) h q .busy [] false (by simp)

/-- A RELOAD_SETTINGS or STORE_SETTINGS while the unit is at work (R214, R216). -/
theorem served_unitBusy (hs : s.takes h) (hq : q.inFormat = true) (hp : s.permits h.station q = true) (hw : s.waitsForLoad q = false)
    (hne : q ≠ .cabinetReset) (ho : ∀ t : State, t.sl = s.sl → t.perform (returnOf h q) q = t.unitBusy) :
    ∃ u, served s h q u ∧ u.answers h q .busy []
      ∧ u.sl = { s.sl with counts := { s.sl.counts with busyRefusals := bump s.sl.counts.busyRefusals } }
      ∧ s.requestOnly u h [.sl] := by
  obtain ⟨t, ht, hserved⟩ := served_answered hs hq hp hw
  have hsl := State.Carried.sl ht
  have hresponses := State.Carried.responses ht
  obtain ⟨v, rfl, hv, hanswers⟩ := hserved (t.countSl fun c => { c with busyRefusals := bump c.busyRefusals }) .busy [] (ho t hsl)
    hresponses fun h => absurd h hne
  refine ⟨_, hv, hanswers, ?_, State.requestOnly.respond ?_ _ _ _ _⟩
  · change { t.sl with counts := { t.sl.counts with busyRefusals := bump t.sl.counts.busyRefusals } } = _
    rw [hsl]
  · exact (ht.requestOnly [.sl]).after (by simp [State.onlyChanges_iff]) (State.queue_eq_of_fs rfl) rfl

end Refused

/-- What a station's entry keeps tells who holds a role. -/
theorem heldByOthers_map {g : Station → Station} (hg : ∀ st, (g st).kept = st.kept) {s t : State}
    (h : t.me.stations = s.me.stations.map g) (x : Addr) (wanted : Roles) : t.heldByOthers x wanted = s.heldByOthers x wanted := by
  unfold State.heldByOthers
  refine congrArg (List.flatMap · _) (funext fun role => ?_)
  have hfit : (fun st : Station => st.addr != x && !(st.roles.inter role).isEmpty) ∘ g
      = fun st => st.addr != x && !(st.roles.inter role).isEmpty := by
    funext st
    change ((g st).addr != x && !((g st).roles.inter role).isEmpty) = _
    rw [Station.kept_addr (hg st), Station.kept_roles (hg st)]
  have hname : (fun st : Station => (role, st.addr)) ∘ g = fun st => (role, st.addr) := by
    funext st
    change (role, (g st).addr) = _
    rw [Station.kept_addr (hg st)]
  rw [h, List.filter_map, List.map_map, hfit, hname]

theorem State.Taken.heldByOthers {s t : State} {h : ReqHeader} (ht : s.Taken h t) (x : Addr) (wanted : Roles) :
    t.heldByOthers x wanted = s.heldByOthers x wanted := by
  obtain ⟨g, hmap, hg⟩ := ht.stations
  exact heldByOthers_map (fun st => (hg st).1) hmap x wanted

theorem State.Taken.stations_length {s t : State} {h : ReqHeader} (ht : s.Taken h t) :
    t.me.stations.length = s.me.stations.length := by
  obtain ⟨g, hmap, _⟩ := ht.stations
  rw [hmap, List.length_map]

end Sys2Proof.Machine

namespace Sys2Proof.Proofs

open Sys2Proof.Machine

/-- Settles O49: what is handed to the engine is discarded or noted, and a request that is noted is refused by its content, by the role
of its station, or by its owner. -/
theorem requestsRefused : Obligations.RequestsRefused := by
  unfold Obligations.RequestsRefused
  refine ⟨fun s side frame haccepts hhands => ?_, fun s h q ht hq => ?_⟩
  · obtain ⟨w, hframe, hw⟩ := State.backboneFrame_handed haccepts hhands
    obtain ⟨hline, _, _, hmin, _⟩ := haccepts
    have hgo : ∀ u, w.handToEngine (readMessage side frame) = u → reaches (.backboneFrameArrival side frame) s u := fun u hu =>
      reaches_event rfl hline (hframe.trans hu)
    have hanswerable : w.answerable (frameSrc frame) = s.answerable (frameSrc frame) :=
      State.answerable_congr (by rw [hw.me, State.engineAfterClaim_addressing]) _
    have hread : s.isRequest frame → readMessage side frame = some
        { details := { station := frameSrc frame, side := side, code := byteAt frame 16, tag := halfAt frame 19 },
          content := decodeRequest frame } := by
      rintro ⟨hversion, hkind, hflags, _⟩
      unfold readMessage headerFormed
      rw [hversion, hkind, hflags]
      simp [requestKind]
      omega
    have hnoted : s.isRequest frame → w.handToEngine (readMessage side frame) = w.takeRequest
        { details := { station := frameSrc frame, side := side, code := byteAt frame 16, tag := halfAt frame 19 },
          content := decodeRequest frame } := by
      intro hrequest
      rw [hread hrequest]
      obtain ⟨_, _, _, hanswer⟩ := hrequest
      unfold State.handToEngine
      dsimp only
      rw [hanswerable, if_pos hanswer]
    dsimp only
    refine ⟨fun hnot => ?_, fun hrequest hunknown => ?_, fun hrequest ⟨q, hq⟩ hbad => ?_⟩
    · have hdiscarded : w.handToEngine (readMessage side frame) = w.countMe fun c => { c with discarded := bump c.discarded } := by
        unfold State.handToEngine
        cases hm : readMessage side frame with
        | none => rfl
        | some m =>
          dsimp only
          refine if_neg fun hanswer => hnot ?_
          unfold readMessage at hm
          split at hm
          · next hformed =>
            obtain rfl := Option.some.inj hm
            simp only [headerFormed, requestKind, responseKind, noticeKind, Bool.and_eq_true, Bool.or_eq_true, beq_iff_eq] at hformed
            obtain ⟨⟨⟨_, hflags⟩, hversion⟩, hkind⟩ := hformed
            refine ⟨hversion, hkind, ?_, hanswerable.symm.trans hanswer⟩
            rcases hflags with hflags | ⟨_, hnotice⟩
            · exact hflags
            · rw [hkind] at hnotice; exact absurd hnotice (by decide)
          · cases hm
      obtain ⟨g, hmap, hg⟩ := s.engineAfterClaim_stations
      refine ⟨_, hgo _ hdiscarded, hw.responses, ?_, ?_, ?_,
        (State.Carried.requestOnly (h := { side := side, dest := .cabinet, station := 0, tag := 0, epoch := 0 }) hw).countMe _⟩
      · change bump w.me.counts.discarded = _
        rw [hw.me, State.engineAfterClaim_counts]
      · change w.me.counts.requests = _
        rw [hw.me, State.engineAfterClaim_counts]
      · change w.me.stations.map Station.side = _
        rw [hw.me, hmap, List.map_map]
        exact List.map_congr_left fun st _ => (hg st).2
    · have htaken := hnoted hrequest
      rw [decodeRequest_unknown fun q hq => hunknown ⟨q, hq⟩, State.takeRequest_eq] at htaken
      obtain ⟨hresponses, ⟨c, hcounts⟩, hsides, honly⟩ := noted_refused (x := frameSrc frame) hw
        { station := frameSrc frame, side := side, code := byteAt frame 16, tag := halfAt frame 19 } .unknownRequest
        (fun c => { c with unknown := bump c.unknown })
        { side := side, dest := .cabinet, station := frameSrc frame, tag := halfAt frame 19, epoch := halfAt frame 21 } rfl
      exact ⟨_, hgo _ htaken, ⟨hresponses, by rw [hcounts], by rw [hcounts], hsides, honly⟩, by rw [hcounts], by rw [hcounts]⟩
    · have htaken := hnoted hrequest
      rw [decodeRequest_badFormat hq hbad, State.takeRequest_eq] at htaken
      obtain ⟨hresponses, ⟨c, hcounts⟩, hsides, honly⟩ := noted_refused (x := frameSrc frame) hw
        { station := frameSrc frame, side := side, code := byteAt frame 16, tag := halfAt frame 19 } .badFormat
        (fun c => { c with badFormat := bump c.badFormat })
        { side := side, dest := .cabinet, station := frameSrc frame, tag := halfAt frame 19, epoch := halfAt frame 21 } rfl
      exact ⟨_, hgo _ htaken, ⟨hresponses, by rw [hcounts], by rw [hcounts], hsides, honly⟩, by rw [hcounts], by rw [hcounts]⟩
  · have hneeds := fun hp => served_notHolder (q := q) ht hq hp
    dsimp only
    refine ⟨?_, fun port profile hset hcab hloading => ?_, fun hreload hcab hwork => ?_,
      fun roles threshold wanted henrol hwanted hlevel hnone hsome hheld hfull => ?_⟩
    · cases q with
      | readCounters group port clear =>
        intro hclear hcab
        exact hneeds (by rw [hclear]; exact hcab)
      | enrol | releaseRoles | queryCabinet | queryClient | listClients | queryPort | queryLink => trivial
      | _ => exact fun hholds => hneeds hholds
    · subst hset
      exact served_waits ht hq hcab (by rw [State.waitsForLoad, hloading]; rfl)
    · rcases hreload with rfl | rfl
      · exact served_unitBusy ht hq hcab rfl (by simp) fun t hsl => if_neg (by rw [hsl]; exact hwork)
      · exact served_unitBusy ht hq hcab rfl (by simp) fun t hsl => if_neg (by rw [hsl]; exact hwork)
    · subst henrol
      refine served_refused ht hq rfl rfl (fun t ht' => ?_) (by simp)
      have hnone' : t.stationAt h.station = none := by
        rw [← Option.not_isSome_iff_eq_none, ht'.stationAt_isSome, hnone]
        simp
      change t.doEnrol (returnOf h _) roles threshold = _
      unfold State.doEnrol
      rw [hwanted, levelOf_eq_some hlevel]
      dsimp only [returnOf]
      rw [hnone', ht'.heldByOthers, hheld, ht'.stations_length, hsome]
      simp [hfull]

end Sys2Proof.Proofs
end

section
/-! SUPPORT and PROOFS. The Station Table's requests (O48). -/

namespace Sys2Proof.Machine

/-! ### An element put among others, found again -/

section PutBy

variable {α : Type} {key : α → Addr}

theorem find?_putBy_self (x : α) (l : List α) : (putBy key x l).find? (fun d => key d == key x) = some x := by
  induction l with
  | nil => simp [putBy]
  | cons d rest ih =>
    unfold putBy
    split
    · simp
    · split
      · simp
      · next hne => rw [List.find?_cons_of_neg (by simpa using fun h => hne h.symm), ih]

theorem find?_putBy_of_ne (x : α) {y : Addr} (h : y ≠ key x) (l : List α) :
    (putBy key x l).find? (fun d => key d == y) = l.find? fun d => key d == y := by
  have hx : ¬ (key x == y) = true := by simpa using fun h' => h h'.symm
  induction l with
  | nil => simp [putBy, hx]
  | cons d rest ih =>
    unfold putBy
    split
    · exact List.find?_cons_of_neg hx
    · split
      · next hd =>
        have hd' : (key d == y) = false := by rw [← hd]; simpa using hx
        have hx' : (key x == y) = false := by simpa using hx
        simp only [List.find?_cons, hx', hd']
      · rw [List.find?_cons, List.find?_cons, ih]

/-- An element of a new address makes the list one longer. -/
theorem putBy_length_of_new {x : α} {l : List α} (h : ∀ d ∈ l, key d ≠ key x) : (putBy key x l).length = l.length + 1 := by
  induction l with
  | nil => rfl
  | cons d rest ih =>
    unfold putBy
    split
    · rfl
    · rw [if_neg fun hd => h d List.mem_cons_self hd.symm, List.length_cons, List.length_cons,
        ih fun e he => h e (List.mem_cons_of_mem _ he)]

theorem find?_filter_of_ne (x : Addr) {y : Addr} (h : y ≠ x) (l : List α) :
    (l.filter fun d => key d != x).find? (fun d => key d == y) = l.find? fun d => key d == y := by
  rw [List.find?_filter]
  refine congrArg (List.find? · l) (funext fun d => ?_)
  by_cases hd : key d = y
  · simp [hd, h]
  · simp [hd]

theorem find?_filter_self (x : Addr) (l : List α) : (l.filter fun d => key d != x).find? (fun d => key d == x) = none := by
  rw [List.find?_filter]
  exact List.find?_eq_none.2 fun d _ => by by_cases hd : key d = x <;> simp [hd]

end PutBy

section Stations

variable {s : State}

theorem State.stationAt_put (m : Engine) (st : Station) (x : Addr) (t : State) (ht : t.me.stations = putStation st m.stations) :
    t.stationAt x = if x = st.addr then some st else m.stations.find? fun d => d.addr == x := by
  rw [State.stationAt, ht, putStation_eq]
  split
  · next hx => rw [hx]; exact find?_putBy_self (key := Station.addr) st _
  · next hx => exact find?_putBy_of_ne (key := Station.addr) st hx _

theorem State.rolesHeld_of_stationAt {t : State} {x : Addr} (h : t.stationAt x = s.stationAt x) : t.rolesHeld x = s.rolesHeld x := by
  rw [State.rolesHeld, State.rolesHeld, h]

/-- A station without an entry is none of those in the table. -/
theorem State.addr_ne_of_stationAt {x : Addr} (h : s.stationAt x = none) : ∀ d ∈ s.me.stations, d.addr ≠ x := by
  intro d hd hx
  have hne := List.find?_eq_none.1 h d hd
  exact hne (by simpa using hx)

end Stations

theorem State.addr_of_stationAt {s : State} {x : Addr} {st : Station} (h : s.stationAt x = some st) : st.addr = x := by
  simpa using List.find?_some h

/-! ### Role sets and causes -/

theorem rolesOf_eq_none {b : Byte} (h : 8 ≤ b.toNat) : rolesOf b = none := if_pos h

/-- A role set is written back as its byte. -/
theorem Roles.code_of_rolesOf {b : Byte} {r : Roles} (h : rolesOf b = some r) : r.code = b := by
  have hall : ∀ b : Byte, ∀ r, rolesOf b = some r → r.code = b := by decide +kernel
  exact hall b r h

theorem Roles.eq_of_isEmpty {r : Roles} (h : r.isEmpty = true) : r = {} := by
  obtain ⟨a, b, c⟩ := r
  simp only [Roles.isEmpty, Bool.and_eq_true, Bool.not_eq_true'] at h
  obtain ⟨⟨ha, hb⟩, hc⟩ := h
  rw [ha, hb, hc]

theorem Roles.minus_empty (r : Roles) : (({} : Roles).minus r).isEmpty = true := rfl

theorem causesOf_eq (causes : List Byte) : causesOf causes = readAll causeOf causes := by
  induction causes with
  | nil => rfl
  | cons c rest ih =>
    simp only [causesOf, readAll, ← ih]
    cases causeOf c <;> cases causesOf rest <;> rfl

/-- A list of cause codes that CLEAR_CAUSES refuses (R204). -/
theorem causesOf_bad {causes : List Byte} (h : causes = [] ∨ (∃ c ∈ causes, c = 0 ∨ 11 < c.toNat) ∨ ¬ causes.Nodup) :
    ∀ cs, causesOf causes = some cs → (cs.isEmpty || !decide cs.Nodup) = true := by
  intro cs hcs
  rw [causesOf_eq] at hcs
  rcases h with rfl | ⟨c, hc, hbad⟩ | hdup
  · obtain rfl := Option.some.inj hcs
    rfl
  · rw [readAll_eq_none hc (causeOf_eq_none hbad)] at hcs
    cases hcs
  · rw [nodup_read_iff (fun a a' b => causeOf_injective) (readAll_eq_some_iff.1 hcs)] at hdup
    simp [hdup]

/-! ### The owners -/

section Owners

variable {s t : State} {r : Return} {roles threshold : Byte} {wanted : Roles}

theorem State.doEnrol_badField (h : 8 ≤ roles.toNat ∨ 7 < threshold.toNat) : t.doEnrol r roles threshold = t.refuse .badArgument := by
  unfold State.doEnrol
  split
  · next hroles hlevel =>
    rcases h with h | h
    · rw [rolesOf_eq_none h] at hroles; cases hroles
    · rw [levelOf_eq_none h] at hlevel; cases hlevel
  · rfl

theorem State.doEnrol_empty (hroles : rolesOf roles = some wanted) (hlevel : threshold.toNat ≤ 7)
    (hempty : (wanted.isEmpty && (t.stationAt r.station).isNone) = true) :
    t.doEnrol r roles threshold = t.refuse .badArgument := by
  unfold State.doEnrol
  rw [hroles, levelOf_eq_some hlevel]
  exact if_pos hempty

theorem State.doEnrol_held (hroles : rolesOf roles = some wanted) (hlevel : threshold.toNat ≤ 7) (hempty : wanted.isEmpty = false)
    (hheld : t.heldByOthers r.station wanted ≠ []) : t.doEnrol r roles threshold
      = (t, some (.roleHeld, (t.heldByOthers r.station wanted).flatMap fun e => e.1.code :: addrBytes e.2)) := by
  unfold State.doEnrol
  rw [hroles, levelOf_eq_some hlevel]
  dsimp only
  rw [hempty, if_neg (by simp), if_pos (by simpa using hheld)]

/-- An ENROL that is accepted writes the entry (R193). -/
theorem State.doEnrol_accepted (hroles : rolesOf roles = some wanted) (hlevel : threshold.toNat ≤ 7)
    (hempty : wanted.isEmpty = true → t.stationAt r.station ≠ none) (hheld : t.heldByOthers r.station wanted = [])
    (hroom : t.stationAt r.station = none → t.me.stations.length < 4) : t.doEnrol r roles threshold
      = (t.onMe fun m => { m with stations := putStation (t.enrolled r wanted threshold.toNat) m.stations }).accept
          [(t.enrolled r wanted threshold.toNat).roles.code] := by
  have hnotEmpty : ¬ (wanted.isEmpty && (t.stationAt r.station).isNone) = true := by
    intro h
    obtain ⟨hw, hn⟩ := Bool.and_eq_true_iff.1 h
    exact hempty hw (Option.isNone_iff_eq_none.1 hn)
  have hnotFull : ¬ ((t.stationAt r.station).isNone && decide (4 ≤ t.me.stations.length)) = true := by
    intro h
    obtain ⟨hn, hfull⟩ := Bool.and_eq_true_iff.1 h
    have := hroom (Option.isNone_iff_eq_none.1 hn)
    have := of_decide_eq_true hfull
    omega
  unfold State.doEnrol
  rw [hroles, levelOf_eq_some hlevel]
  dsimp only
  rw [if_neg hnotEmpty, hheld, if_neg (by simp), if_neg hnotFull]

end Owners

/-- A change of the engine alone, by the owner of a request that is answered. -/
theorem State.onlyChanges_engine {s t u : State} {h : ReqHeader} (ht : s.Taken h t) (hu : t.onlyChanges u [.me]) (r : Return)
    (status : Status) (args : Bytes) (reset : Bool) : s.onlyChanges (u.respond r status args reset) [.fs, .me] := by
  obtain ⟨honly, _⟩ := ht.requestOnly []
  exact (honly.trans (hu.mono (by simp))).trans (State.respond_keeps _ _ _ _ _ _)

/-- The station entry that an ENROL finds or makes has the station's address. -/
theorem State.enrolled_addr (t : State) (r : Return) (wanted : Roles) (n : Nat) : (t.enrolled r wanted n).addr = r.station := by
  unfold State.enrolled
  split
  · next st hst => exact (State.addr_of_stationAt hst : st.addr = _)
  · rfl

/-- An ENROL that is accepted: the entry is written on the part as the request finds it, and answered (R193). -/
theorem served_enrol {s : State} {h : ReqHeader} {roles threshold : Byte} {wanted : Roles} (hs : s.takes h)
    (hroles : rolesOf roles = some wanted) (hlevel : threshold.toNat ≤ 7)
    (hempty : wanted.isEmpty = true → s.stationAt h.station ≠ none) (hheld : s.heldByOthers h.station wanted = [])
    (hroom : s.stationAt h.station = none → s.me.stations.length < 4) :
    ∃ t u, s.Taken h t ∧ served s h (.enrol roles threshold) u
      ∧ (let st := t.enrolled (returnOf h (.enrol roles threshold)) wanted threshold.toNat
        u.answers h (.enrol roles threshold) .ok [st.roles.code] ∧ u.me.stations = putStation st t.me.stations
        ∧ ∀ y, u.stationAt y = if y = h.station then some st else t.stationAt y)
      ∧ s.onlyChanges u [.fs, .me] := by
  obtain ⟨t, ht, hserved⟩ := served_answered (q := .enrol roles threshold) hs rfl rfl rfl
  have hnone : t.stationAt h.station = none ↔ s.stationAt h.station = none := by
    rw [← Option.not_isSome_iff_eq_none, ht.stationAt_isSome, Option.not_isSome_iff_eq_none]
  have hperform := State.doEnrol_accepted (t := t) (r := returnOf h (.enrol roles threshold)) hroles hlevel
    (fun he hn => hempty he (hnone.1 hn)) ((ht.heldByOthers _ _).trans hheld)
    (fun hn => by rw [ht.stations_length]; exact hroom (hnone.1 hn))
  have haddr := t.enrolled_addr (returnOf h (.enrol roles threshold)) wanted threshold.toNat
  obtain ⟨v, rfl, hv, hanswers⟩ := hserved _ .ok _ hperform (by exact ht.responses) nofun
  refine ⟨t, _, ht, hv, ?_, State.onlyChanges_engine ht (by simp [State.onlyChanges_iff]) _ _ _ _⟩
  dsimp only
  generalize t.enrolled (returnOf h (.enrol roles threshold)) wanted threshold.toNat = st at hanswers haddr ⊢
  have hput := fun y => State.stationAt_put t.me st y ((t.onMe fun m => { m with stations := putStation st m.stations }).respond
    (returnOf h (.enrol roles threshold)) .ok [st.roles.code] false) rfl
  rw [haddr] at hput
  exact ⟨hanswers, rfl, hput⟩

/-- A RELEASE_ROLES that names roles: those left, in an entry that goes when none is left (R194). -/
theorem served_releaseRoles {s : State} {h : ReqHeader} {roles : Byte} {named : Roles} (hs : s.takes h)
    (hroles : rolesOf roles = some named) :
    ∃ u, served s h (.releaseRoles roles) u
      ∧ (let left := (s.rolesHeld h.station).minus named
        u.answers h (.releaseRoles roles) .ok [left.code] ∧ u.rolesHeld h.station = left
        ∧ (left.isEmpty = true → u.stationAt h.station = none))
      ∧ (∀ y, y ≠ h.station → u.rolesHeld y = s.rolesHeld y) ∧ s.onlyChanges u [.fs, .me] := by
  obtain ⟨t, ht, hserved⟩ := served_answered (q := .releaseRoles roles) hs rfl rfl rfl
  have hleft := ht.rolesHeld h.station
  have hothers := ht.rolesHeld
  have hperform : t.perform (returnOf h (.releaseRoles roles)) (.releaseRoles roles)
      = (if ((s.rolesHeld h.station).minus named).isEmpty then
          t.onMe fun m => { m with stations := m.stations.filter fun st => st.addr != h.station }
        else t.onStation h.station fun st => { st with roles := (s.rolesHeld h.station).minus named }).accept
          [((s.rolesHeld h.station).minus named).code] := by
    change t.doReleaseRoles _ _ = _
    unfold State.doReleaseRoles
    rw [hroles]
    dsimp only [returnOf]
    rw [hleft]
  dsimp only
  cases hempty : ((s.rolesHeld h.station).minus named).isEmpty with
  | true =>
    rw [if_pos hempty] at hperform
    obtain ⟨v, rfl, hv, hanswers⟩ := hserved _ .ok _ hperform (by exact ht.responses) nofun
    have hnone : State.stationAt ((t.onMe fun m => { m with stations := m.stations.filter fun st => st.addr != h.station }).respond
        (returnOf h (.releaseRoles roles)) .ok [((s.rolesHeld h.station).minus named).code] false) h.station = none :=
      find?_filter_self (key := Station.addr) _ _
    refine ⟨_, hv, ⟨hanswers, ?_, fun _ => hnone⟩, fun y hy => ?_, State.onlyChanges_engine ht (by simp [State.onlyChanges_iff]) _ _ _ _⟩
    · rw [Roles.eq_of_isEmpty hempty]
      exact congrArg (fun st : Option Station => (st.map Station.roles).getD {}) hnone
    · rw [← hothers y]
      exact State.rolesHeld_of_stationAt (find?_filter_of_ne (key := Station.addr) _ hy _)
  | false =>
    rw [if_neg (by rw [hempty]; nofun)] at hperform
    obtain ⟨v, rfl, hv, hanswers⟩ := hserved _ .ok _ hperform (by exact ht.responses) nofun
    refine ⟨_, hv, ⟨hanswers, ?_, nofun⟩, fun y hy => ?_,
      State.onlyChanges_engine ht (by simp [State.onlyChanges_iff, State.onStation]) _ _ _ _⟩
    · have hsome : ∃ st, t.stationAt h.station = some st := by
        cases hst : t.stationAt h.station with
        | none =>
          rw [← hleft, State.rolesHeld, hst] at hempty
          cases hempty
        | some st => exact ⟨st, rfl⟩
      obtain ⟨st, hst⟩ := hsome
      have hself := t.stationAt_onStation_self (fun st => { st with roles := (s.rolesHeld h.station).minus named }) rfl hst
      exact congrArg (fun st : Option Station => (st.map Station.roles).getD {}) hself
    · rw [← hothers y]
      exact State.rolesHeld_of_stationAt
        (t.stationAt_onStation_of_ne (f := fun st => { st with roles := (s.rolesHeld h.station).minus named }) (fun _ => rfl) hy)

/-- A CLEAR_CAUSES of an enrolled station (R204). -/
theorem served_clearCauses {s : State} {h : ReqHeader} {causes : List Byte} {cs : List Cause} {st : Station} (hs : s.takes h)
    (hcs : causesOf causes = some cs) (hlength : causes.length ≤ 11) (hne : cs ≠ []) (hnodup : cs.Nodup)
    (hst : s.stationAt h.station = some st) :
    ∃ (u : State) (e : Station), served s h (.clearCauses causes) u ∧ u.stationAt h.station = some { e with pending := removeCauses cs e.pending }
      ∧ (∀ c ∈ st.pending, c ∈ e.pending)
      ∧ u.answers h (.clearCauses causes) .ok (beBytes 2 (causeSetNat (((u.stationAt h.station).map Station.pending).getD [])))
      ∧ s.onlyChanges u [.fs, .me] := by
  obtain ⟨t, ht, hserved⟩ := served_answered (q := .clearCauses causes) hs (decide_eq_true hlength)
    (by change (s.stationAt h.station).isSome = true; rw [hst]; rfl) rfl
  obtain ⟨g, hat, hg⟩ := ht.stationAt h.station
  rw [hst, Option.map_some] at hat
  obtain ⟨_, _, hpending⟩ := hg st
  have hself := t.stationAt_onStation_self (fun e => { e with pending := removeCauses cs e.pending }) rfl hat
  have hperform : t.perform (returnOf h (.clearCauses causes)) (.clearCauses causes)
      = (t.onStation h.station fun e => { e with pending := removeCauses cs e.pending }).accept (beBytes 2 (causeSetNat
          ((((t.onStation h.station fun e => { e with pending := removeCauses cs e.pending }).stationAt h.station).map
            Station.pending).getD []))) := by
    change t.doClearCauses _ _ = _
    unfold State.doClearCauses
    rw [hcs]
    dsimp only
    rw [if_neg (by simp [hne, hnodup])]
    rfl
  obtain ⟨v, rfl, hv, hanswers⟩ := hserved _ .ok _ hperform (by exact ht.responses) nofun
  exact ⟨_, g st, hv, hself, hpending, hanswers,
    State.onlyChanges_engine ht (by simp [State.onlyChanges_iff, State.onStation]) _ _ _ _⟩

theorem mem_removeCauses {cs set : List Cause} {c : Cause} : c ∈ removeCauses cs set ↔ c ∈ set ∧ c ∉ cs := by
  simp [removeCauses]

end Sys2Proof.Machine

namespace Sys2Proof.Proofs

open Sys2Proof.Machine

/-- Settles O48: ENROL writes its entry, RELEASE_ROLES takes roles from it, and CLEAR_CAUSES causes from its pending set. -/
theorem stationsEnrolReleaseAndClear : Obligations.StationsEnrolReleaseAndClear := by
  unfold Obligations.StationsEnrolReleaseAndClear
  intro s h roles threshold hi ht
  dsimp only
  refine ⟨fun hbad => served_refused ht rfl rfl rfl (fun t _ => State.doEnrol_badField hbad) (by simp), fun wanted hroles hlevel => ?_,
    fun hbad => ?_, fun named hnamed => ?_, fun causes hsome hlength hbad => ?_, fun causes cs st hcs hlength hne hnodup hst => ?_⟩
  · refine ⟨fun hnone hempty => ?_, fun hnone hempty hheld hroom => ?_, fun hheld hempty => ?_, fun st hst hheld => ?_⟩
    · refine served_refused ht rfl rfl rfl (fun t ht' => State.doEnrol_empty hroles hlevel ?_) (by simp)
      have hnone' : t.stationAt h.station = none := by
        rw [← Option.not_isSome_iff_eq_none, ht'.stationAt_isSome, hnone]
        simp
      rw [hempty]
      exact Option.isNone_iff_eq_none.2 hnone'
    · obtain ⟨t, u, ht', hserved, ⟨hanswers, hstations, hat⟩, honly⟩ := served_enrol ht hroles hlevel (by rw [hempty]; nofun) hheld
        fun _ => hroom
      have hnone' : t.stationAt h.station = none := by
        rw [← Option.not_isSome_iff_eq_none, ht'.stationAt_isSome, hnone]
        simp
      have henrolled : t.enrolled (returnOf h (.enrol roles threshold)) wanted threshold.toNat =
          { addr := h.station, side := h.side, roles := wanted, threshold := threshold.toNat, pending := [], spacing := none,
            due := false, number := 0, epoch := s.cu.epoch } := by
        unfold State.enrolled
        rw [show t.stationAt (returnOf h (.enrol roles threshold)).station = none from hnone', ht'.cu]
        rfl
      rw [henrolled] at hanswers hat hstations
      rw [show _ = roles from Roles.code_of_rolesOf hroles] at hanswers
      refine ⟨u, hserved, hanswers, (hat _).trans (if_pos rfl), ?_, honly⟩
      rw [hstations, putStation_eq, putBy_length_of_new (State.addr_ne_of_stationAt hnone'), ht'.stations_length]
    · obtain ⟨t, ht', hserved⟩ := served_answered (q := .enrol roles threshold) ht rfl rfl rfl
      have hheld' := ht'.heldByOthers h.station wanted
      have hperform := State.doEnrol_held (t := t) (r := returnOf h (.enrol roles threshold)) hroles hlevel hempty
        (fun hnil => hheld (hheld'.symm.trans hnil))
      obtain ⟨v, rfl, hv, hanswers⟩ := hserved _ .roleHeld _ hperform (by exact ht'.responses) nofun
      refine ⟨_, hv, ?_, (ht'.requestOnly []).respond _ _ _ _⟩
      rw [← hheld']
      exact hanswers
    · obtain ⟨t, u, ht', hserved, ⟨hanswers, _, hat⟩, honly⟩ := served_enrol ht hroles hlevel (by rw [hst]; nofun) hheld
        (by rw [hst]; nofun)
      obtain ⟨g, hfound, hg⟩ := ht'.stationAt h.station
      rw [hst, Option.map_some] at hfound
      obtain ⟨hkept, _, hpending⟩ := hg st
      have hspacing : (g st).spacing = st.spacing ∧ (g st).number = st.number := by
        simp only [Station.kept, Prod.mk.injEq] at hkept
        exact ⟨hkept.2.2.2.1, hkept.2.2.2.2.1⟩
      have henrolled : t.enrolled (returnOf h (.enrol roles threshold)) wanted threshold.toNat
          = { g st with roles := st.roles.union wanted, threshold := threshold.toNat, epoch := s.cu.epoch } := by
        unfold State.enrolled
        rw [show t.stationAt (returnOf h (.enrol roles threshold)).station = _ from hfound, ht'.cu]
        dsimp only
        rw [Station.kept_roles hkept]
      rw [henrolled] at hanswers hat
      have hself := (hat h.station).trans (if_pos rfl)
      have hside : (g st).side = h.side := (hg st).2.1.trans (if_pos (State.addr_of_stationAt hst))
      refine ⟨u, hserved, hanswers, ?_, ?_, ?_, ?_, ?_, ?_, fun c hc => ?_, fun y hy => ?_, honly⟩
      · rw [State.rolesHeld, hself]; rfl
      · rw [hself]; rfl
      · rw [hself]; exact congrArg some hside
      · rw [hself]; rfl
      · rw [hself]; exact congrArg some hspacing.2
      · rw [hself]; exact congrArg some hspacing.1
      · rw [hself]
        exact List.contains_iff_mem.2 (hpending c hc)
      · rw [← ht'.rolesHeld y]
        exact State.rolesHeld_of_stationAt ((hat y).trans (if_neg hy))
  · exact served_refused ht rfl rfl rfl (fun t _ => by
      change t.doReleaseRoles _ _ = _
      unfold State.doReleaseRoles
      rw [rolesOf_eq_none hbad]) (by simp)
  · obtain ⟨u, hserved, ⟨hanswers, hleft, hgone⟩, hothers, honly⟩ := served_releaseRoles ht hnamed
    exact ⟨u, hserved, hanswers, hleft, hgone, hothers, honly⟩
  · refine served_refused (q := .clearCauses causes) ht (decide_eq_true hlength) hsome rfl (fun t _ => ?_) (by simp)
    change t.doClearCauses _ _ = _
    unfold State.doClearCauses
    split
    · next hcs => exact if_pos (causesOf_bad hbad _ hcs)
    · rfl
  · obtain ⟨u, e, hserved, hat, hpending, hanswers, honly⟩ := served_clearCauses ht hcs hlength hne hnodup hst
    refine ⟨u, hserved, fun c hc => ?_, fun c hc hmem => ?_, hanswers, honly⟩
    · rw [hat]
      simp [mem_removeCauses, hc]
    · rw [hat]
      simp [mem_removeCauses, hc, hpending c hmem]

end Sys2Proof.Proofs
end

section
/-! SUPPORT and PROOFS. Control messages and the low-water mark (O22). -/

namespace Sys2Proof.Machine

/-! ### The low-water mark -/

theorem State.freeSlot_mark (s : State) (k : Nat) :
    (s.freeSlot k).fs.mark = if s.fs.mark = .spent ∧ 256 < (s.freeSlot k).freeSlots then .armed else s.fs.mark := by
  have hfree : (s.freeSlot k).freeSlots = (s.onFs fun b => { b with slots := b.slots.del k }).freeSlots := by
    unfold State.freeSlot State.freeSlots
    dsimp only
    split <;> rfl
  rw [hfree]
  unfold State.freeSlot
  dsimp only
  split
  · next h => exact (if_pos h).symm
  · next h => exact (if_neg h).symm

theorem State.claim_mark {s : State} (h : s.fs.mark = .armed) (hfree : s.freeSlots - 1 ≤ 128) (x : Slot) (k : Nat) :
    (s.claimed x k).fs.mark = .spent ∧ (s.claimed x k).raised .storeLow = bump (s.raised .storeLow) := by
  have hraise : s.lowWater (s.freeSlots - 1) = (s.onFs fun b => { b with mark := .spent }).raise .storeLow := if_pos ⟨h, hfree⟩
  have hraised := (s.onFs fun b => { b with mark := .spent }).raised_raise_same .storeLow
  unfold State.claimed
  rw [hraise]
  exact ⟨rfl, hraised⟩

theorem State.claim_quiet {s : State} (h : s.fs.mark = .spent ∨ 128 < s.freeSlots - 1) (x : Slot) (k : Nat) :
    (s.claimed x k).fs.mark = s.fs.mark ∧ (s.claimed x k).me = s.me := by
  unfold State.claimed
  rw [State.lowWater_eq_self h]
  exact ⟨rfl, rfl⟩

/-! ### The mark in the answer of QUERY_CABINET -/

theorem grantBytes_length (g : Option Grant) : (grantBytes g).length = 14 := by
  cases g <;> simp [grantBytes, beBytes_length]

theorem timeBytes_length (t : Timer) : (timeBytes t).length = 4 := by
  cases t <;> simp [timeBytes, beBytes_length]

theorem State.shareItems_length (s : State) : s.shareItems.length = 40 := by
  unfold State.shareItems
  dsimp only
  split <;> simp [grantBytes_length, timeBytes_length, beBytes_length]

theorem State.listItems_length (s : State) : s.listItems.length = 10 := by
  simp [State.listItems, timeBytes_length, beBytes_length]

/-- The mark stands behind the 40 bytes of R98, the 10 of R116 and the free count. -/
theorem State.cabinetAnswer_mark (s : State) : byteAt s.cabinetAnswer 52 = if s.fs.mark = .armed then 0 else 1 := by
  unfold State.cabinetAnswer
  simp only [List.append_assoc]
  rw [byteAt_append_of_le (by rw [State.shareItems_length]; decide), byteAt_append_of_le
    (by rw [State.shareItems_length, State.listItems_length]; decide), State.shareItems_length, State.listItems_length, State.storeItems,
    List.append_assoc, byteAt_append_of_le (by rw [beBytes_length]), beBytes_length]
  rfl

theorem State.cabinetAnswer_pushResponse (t : State) (r : Response) : (t.pushResponse r).cabinetAnswer = t.cabinetAnswer := rfl

end Sys2Proof.Machine

namespace Sys2Proof.Proofs

open Sys2Proof.Machine

/-- Settles O22, operation by operation; QUERY_CABINET through the byte that gives the mark. -/
theorem controlMessagesAndLowWater : Obligations.ControlMessagesAndLowWater := by
  unfold Obligations.ControlMessagesAndLowWater
  refine ⟨fun s port m => ⟨fun hclosed => ?_, fun hopen hidle => ?_, fun hopen hbusy => ?_⟩, fun s reserve origin reset frame => ⟨fun hle =>
    State.claim_of_le hle _ _ _, fun hlt => ⟨_, _, State.claim_of_lt hlt _ _ _, fun harmed hfree => State.claim_mark harmed hfree _ _,
      fun h => State.claim_quiet h _ _⟩⟩, fun s k => ?_, ⟨fun s => ?_, fun s hline => ?_, fun u hdue => ?_⟩, fun s h ht hmark => ?_,
    fun s t hst => ?_⟩
  · unfold State.sendControl
    rw [hclosed]
    rfl
  · unfold State.sendControl
    rw [hopen, hidle]
    rfl
  · have hwaits : s.sendControl port m = s.onQueue port fun q => { q with waiting := q.waiting ++ [m] } := by
      unfold State.sendControl
      rw [hopen, hbusy]
      rfl
    refine ⟨?_, ?_, fun q hq => s.sendControl_queue_of_ne m hq⟩ <;> rw [hwaits]
    · rw [State.onQueue, State.queue_setQueue_self]
    · simp [State.onQueue]
  · have hmark := s.freeSlot_mark k
    refine ⟨?_, by simp, fun harmed => ?_, fun hspent hfree => ?_, fun hspent hfree => ?_⟩
    · rw [State.freeSlot_slots, Table.get_del, if_pos rfl]
    · rw [hmark, if_neg (by rw [harmed]; simp), harmed]
    · rw [hmark, if_pos ⟨hspent, hfree⟩]
    · rw [hmark, if_neg (by omega), hspent]
  · obtain ⟨t, hexec, ⟨_, _, _, _, hfs, _⟩, _⟩ := resetsGiveResetValues.1 s
    exact ⟨t, hexec, by rw [hfs]⟩
  · obtain ⟨t, hexec, ⟨_, _, _, _, hfs, _⟩, _⟩ := resetsGiveResetValues.2.1 s hline
    exact ⟨t, hexec, by rw [hfs]⟩
  · obtain ⟨⟨_, _, _, _, hfs, _⟩, _⟩ := resetsGiveResetValues.2.2 u hdue
    rw [hfs]
  · obtain ⟨t, ht', hserved⟩ := served_answered (q := .queryCabinet) ht rfl rfl rfl
    obtain ⟨v, rfl, hv, hanswers⟩ := hserved t .ok t.cabinetAnswer rfl ht'.responses nofun
    have hkept := State.Carried.mark ht' (hmark.imp id fun h => by omega)
    exact ⟨_, hv, hanswers, hkept⟩
  · have hbyte := congrArg (byteAt · 52) hst
    rw [s.cabinetAnswer_mark, t.cabinetAnswer_mark] at hbyte
    cases hs : s.fs.mark <;> cases ht : t.fs.mark <;> rw [hs, ht] at hbyte <;> simp at hbyte ⊢

end Sys2Proof.Proofs
end

section
/-! SUPPORT. Parked frames that leave for the gateway queue (R36, R91, R95). -/

namespace Sys2Proof.Machine

/-- Frames that have left a parked list: `joined` have entered the queue of a backbone port, `refused` have been dropped. No other block
of the part changes but the Client Table and the Share Accounting Unit. -/
structure State.Sends (s t : State) (side : Side) (joined refused : List Nat) : Prop where
  entries : (t.queue (.backbone side)).entries = (s.queue (.backbone side)).entries ++ joined.map fun k => ({ slot := k } : Entry)
  queues : ∀ q, q ≠ .backbone side → t.queue q = s.queue q
  refs : ∀ k, t.refsOf k = s.refsOf k - refused.count k
  slots : refused = [] → t.fs.slots = s.fs.slots
  frames : ∀ k, refused.count k < s.refsOf k → t.slotFrame k = s.slotFrame k
  mc : t.mc = s.mc
  el : t.el = s.el
  spb : t.spb = s.spb
  clb : t.clb = s.clb
  cu : t.cu = s.cu
  me : t.me = s.me
  sl : t.sl = s.sl
  memory : t.memory = s.memory
  pending : t.pending = s.pending
  resetLine : t.resetLine = s.resetLine
  responses : t.ev.responses = s.ev.responses
  marks : t.ev.levels = s.ev.levels ∧ t.ev.thresholds = s.ev.thresholds

namespace State.Sends

variable {s t u : State} {side : Side} {joined refused joined' refused' : List Nat}

theorem refl (s : State) (side : Side) : s.Sends s side [] [] where
  entries := by simp
  queues _ _ := rfl
  refs k := by simp
  slots _ := rfl
  frames _ _ := rfl
  mc := rfl
  el := rfl
  spb := rfl
  clb := rfl
  cu := rfl
  me := rfl
  sl := rfl
  memory := rfl
  pending := rfl
  resetLine := rfl
  responses := rfl
  marks := ⟨rfl, rfl⟩

theorem trans (h : s.Sends t side joined refused) (h' : t.Sends u side joined' refused') :
    s.Sends u side (joined ++ joined') (refused ++ refused') where
  entries := by rw [h'.entries, h.entries, List.append_assoc, List.map_append]
  queues q hq := (h'.queues q hq).trans (h.queues q hq)
  refs k := by rw [h'.refs, h.refs, List.count_append]; omega
  slots hnil := by
    obtain ⟨hr, hr'⟩ := List.append_eq_nil_iff.1 hnil
    exact (h'.slots hr').trans (h.slots hr)
  frames k hk := by
    rw [List.count_append] at hk
    have hleft := h.refs k
    exact (h'.frames k (by omega)).trans (h.frames k (by omega))
  mc := h'.mc.trans h.mc
  el := h'.el.trans h.el
  spb := h'.spb.trans h.spb
  clb := h'.clb.trans h.clb
  cu := h'.cu.trans h.cu
  me := h'.me.trans h.me
  sl := h'.sl.trans h.sl
  memory := h'.memory.trans h.memory
  pending := h'.pending.trans h.pending
  resetLine := h'.resetLine.trans h.resetLine
  responses := h'.responses.trans h.responses
  marks := ⟨h'.marks.1.trans h.marks.1, h'.marks.2.trans h.marks.2⟩

/-- What the Share Accounting Unit counts and charges on the way. -/
theorem onSau (h : s.Sends t side joined refused) (f : ShareUnit → ShareUnit) : s.Sends (t.onSau f) side joined refused :=
  { h with
    entries := (congrArg Egress.entries (congrFun (State.queue_eq_of_fs rfl) _)).trans h.entries
    queues := fun q hq => (congrFun (State.queue_eq_of_fs rfl) q).trans (h.queues q hq)
    refs := fun k => (congrFun (State.refsOf_eq_of_slots rfl) k).trans (h.refs k)
    frames := fun k hk => (congrFun (State.slotFrame_eq_of_slots rfl) k).trans (h.frames k hk) }

/-- What becomes of the records on the way. -/
theorem onCt (h : s.Sends t side joined refused) (f : ClientTable → ClientTable) : s.Sends (t.onCt f) side joined refused :=
  { h with
    entries := (congrArg Egress.entries (congrFun (State.queue_eq_of_fs rfl) _)).trans h.entries
    queues := fun q hq => (congrFun (State.queue_eq_of_fs rfl) q).trans (h.queues q hq)
    refs := fun k => (congrFun (State.refsOf_eq_of_slots rfl) k).trans (h.refs k)
    frames := fun k hk => (congrFun (State.slotFrame_eq_of_slots rfl) k).trans (h.frames k hk) }

theorem refsOf_le (h : s.Sends t side joined refused) (k : Nat) : t.refsOf k ≤ s.refsOf k := by
  rw [h.refs]; omega

theorem onlyChanges (h : s.Sends t side joined refused) : s.onlyChanges t [.ct, .sau, .fs] :=
  State.onlyChanges_iff.2 ⟨fun hb => absurd (by simp) hb, fun _ => h.mc, fun hb => absurd (by simp) hb, fun _ => h.el,
    fun hb => absurd (by simp) hb, fun _ => h.spb, fun _ => h.clb, fun _ => h.cu, fun _ => h.me, fun _ => h.sl, fun _ => h.memory,
    h.pending, h.resetLine⟩

/-- Each frame that has joined has taken one place of the room there was. -/
theorem room (h : s.Sends t side joined refused) : t.backboneRoom side = s.backboneRoom side - joined.length := by
  unfold State.backboneRoom
  rw [State.coupled_eq_of_cu h.cu, h.entries]
  split
  · rw [List.length_append, List.length_map, Nat.sub_add_eq]
  · simp

end State.Sends

/-- A slot that keeps a reference keeps its frame. -/
theorem State.slotFrame_dropRef (s : State) {k j : Nat} (h : (if k = j then 1 else 0) < s.refsOf j) :
    (s.dropRef k).slotFrame j = s.slotFrame j := by
  cases hx : s.fs.slots.get k with
  | none =>
    have hsame : s.dropRef k = s := by simp [State.dropRef, hx]
    rw [hsame]
  | some x =>
    have hslots := s.dropRef_slots hx
    have hrefs := State.refsOf_of_get hx
    have hget : ∀ t : State, t.fs.slots.get j = s.fs.slots.get j → t.slotFrame j = s.slotFrame j := fun t ht => by
      unfold State.slotFrame
      rw [ht]
    by_cases hj : k = j
    · subst hj
      rw [if_pos rfl, hrefs] at h
      rw [if_neg (by omega)] at hslots
      unfold State.slotFrame
      rw [hslots, Table.get_put_self, hx]
    · refine hget _ ?_
      rw [hslots]
      split
      · rw [Table.get_del, if_neg (Ne.symm hj)]
      · rw [Table.get_put, if_neg (Ne.symm hj)]

section MoveParked

variable {s : State} {g : Grant}

/-- A frame that finds room joins the gateway queue (R91). -/
theorem State.moveParked_joins (h : s.backboneRoom g.gateway ≠ 0) (k : Nat) :
    (s.moveParked g k).2 = true ∧ s.Sends (s.moveParked g k).1 g.gateway [k] [] ∧ (s.moveParked g k).1.sau = s.sau
      ∧ (s.moveParked g k).1.ct = s.ct := by
  have htest := (s.appendTest_backbone g.gateway).2 h
  have hmoved : s.moveParked g k = ((s.onQueue (.backbone g.gateway) fun q =>
      { q with entries := q.entries ++ [{ slot := k }] }).beginTransmission (.backbone g.gateway), true) := by
    unfold State.moveParked State.offer
    rw [htest]
    rfl
  rw [hmoved]
  dsimp only
  have hslots := (State.beginTransmission_slots (s.onQueue (.backbone g.gateway) fun q =>
    { q with entries := q.entries ++ [{ slot := k }] }) (.backbone g.gateway)).trans (s.setQueue_slots _ _)
  refine ⟨rfl, ?_, by simp, by simp⟩
  exact {
    entries := by rw [(State.beginTransmission_queue_self _ _).1, State.onQueue, State.queue_setQueue_self]; rfl
    queues := fun q hq => by rw [State.beginTransmission_queue_of_ne _ hq, State.onQueue, State.queue_setQueue_of_ne _ _ hq]
    refs := fun j => by rw [State.refsOf_eq_of_slots hslots, List.count_nil, Nat.sub_zero]
    slots := fun _ => hslots
    frames := fun j _ => congrFun (State.slotFrame_eq_of_slots hslots) j
    mc := by simp
    el := by simp
    spb := by simp
    clb := by simp
    cu := by simp
    me := by simp
    sl := by simp
    memory := by simp
    pending := by simp
    resetLine := by simp
    responses := by simp
    marks := by simp }

/-- A frame that finds no room is dropped and counted (R36, R91). -/
theorem State.moveParked_refused (h : s.backboneRoom g.gateway = 0) (k : Nat) :
    (s.moveParked g k).2 = false ∧ s.Sends (s.moveParked g k).1 g.gateway [] [k]
      ∧ (s.moveParked g k).1.sau = { s.sau with
          counts := { s.sau.counts with gatewayFullDrops := bump s.sau.counts.gatewayFullDrops } }
      ∧ (s.moveParked g k).1.ct = s.ct := by
  obtain ⟨why, hwhy⟩ := Option.ne_none_iff_exists'.1 fun hn => (s.appendTest_backbone g.gateway).1 hn h
  have hmoved : s.moveParked g k = (((s.countPort (.backbone g.gateway) fun c => why.count c).dropRef k).countSau fun c =>
      { c with gatewayFullDrops := bump c.gatewayFullDrops }, false) := by
    unfold State.moveParked State.offer
    rw [hwhy]
    rfl
  obtain ⟨_, _, hresponses, hlevels, hthresholds⟩ := (s.countPort (.backbone g.gateway) fun c => why.count c).dropRef_composed k
  have hqueue : ((s.countPort (.backbone g.gateway) fun c => why.count c).dropRef k).queue
      = (s.countPort (.backbone g.gateway) fun c => why.count c).queue := State.dropRef_queue _ k
  have hsent : s.Sends ((s.countPort (.backbone g.gateway) fun c => why.count c).dropRef k) g.gateway [] [k] := {
    entries := by rw [hqueue, State.countPort, State.onQueue, State.queue_setQueue_self]; simp
    queues := fun q hq => by rw [hqueue, State.countPort, State.onQueue, State.queue_setQueue_of_ne _ _ hq]
    refs := fun j => by
      have hcounted : (s.countPort (.backbone g.gateway) fun c => why.count c).refsOf = s.refsOf :=
        State.refsOf_eq_of_slots (s.setQueue_slots _ _)
      rw [State.refsOf_dropRef, hcounted, List.count_singleton]
      simp
    slots := nofun
    frames := fun j hj => by
      have hcounted : (s.countPort (.backbone g.gateway) fun c => why.count c).slotFrame = s.slotFrame :=
        State.slotFrame_eq_of_slots (s.setQueue_slots _ _)
      have hcountedRefs : (s.countPort (.backbone g.gateway) fun c => why.count c).refsOf = s.refsOf :=
        State.refsOf_eq_of_slots (s.setQueue_slots _ _)
      rw [State.slotFrame_dropRef _ (by rw [hcountedRefs]; simpa [List.count_singleton] using hj), hcounted]
    mc := by simp
    el := by simp
    spb := by simp
    clb := by simp
    cu := by simp
    me := by simp
    sl := by simp
    memory := by simp
    pending := by simp
    resetLine := by simp
    responses := hresponses
    marks := ⟨hlevels, hthresholds⟩ }
  rw [hmoved]
  have hcounted := hsent.onSau fun b => { b with counts := { b.counts with gatewayFullDrops := bump b.counts.gatewayFullDrops } }
  exact ⟨rfl, hcounted, by simp, by simp⟩

end MoveParked

/-! ### A record that becomes SERVICE -/

section ServiceRelease

variable {s : State} {g : Grant}

/-- The frames that a record which becomes SERVICE sends, oldest first (R95). -/
def State.sendParked (s : State) (g : Grant) (parked : List Nat) : State :=
  parked.foldl
    (fun t k =>
      let o := t.moveParked g k
      if o.2 then o.1.countSau fun c => { c with framesUncharged := bump c.framesUncharged } else o.1) s

/-- The frames join the queue as far as there is room; the others are dropped and counted. -/
theorem State.sendParked_sends (s : State) (g : Grant) (parked : List Nat) :
    s.Sends (s.sendParked g parked) g.gateway (parked.take (s.backboneRoom g.gateway)) (parked.drop (s.backboneRoom g.gateway))
    ∧ (s.sendParked g parked).sau = { s.sau with counts := { s.sau.counts with
        framesUncharged := bumpBy s.sau.counts.framesUncharged (parked.take (s.backboneRoom g.gateway)).length
        gatewayFullDrops := bumpBy s.sau.counts.gatewayFullDrops (parked.drop (s.backboneRoom g.gateway)).length } }
    ∧ (s.sendParked g parked).ct = s.ct := by
  unfold State.sendParked
  induction parked generalizing s with
  | nil => exact ⟨by simpa using State.Sends.refl s g.gateway, by simp [bumpBy_zero], rfl⟩
  | cons k rest ih =>
    rw [List.foldl_cons]
    dsimp only
    rcases hroom : s.backboneRoom g.gateway with _ | m
    · obtain ⟨hrefused, hsends, hsau, hct⟩ := s.moveParked_refused hroom k
      obtain ⟨hrest, hrestSau, hrestCt⟩ := ih (s.moveParked g k).1
      rw [hrefused, if_neg Bool.false_ne_true]
      rw [hsends.room, hroom, List.length_nil, Nat.sub_self] at hrest hrestSau
      refine ⟨hsends.trans hrest, ?_, hrestCt.trans hct⟩
      rw [hrestSau, hsau]
      simp [bump_eq_bumpBy, bumpBy_bumpBy, bumpBy_zero, Nat.add_comm]
    · obtain ⟨hjoins, hsends, hsau, hct⟩ := s.moveParked_joins (g := g) (by rw [hroom]; exact Nat.succ_ne_zero m) k
      have hcounted : s.Sends ((s.moveParked g k).1.countSau fun c => { c with framesUncharged := bump c.framesUncharged }) g.gateway
          [k] [] := hsends.onSau _
      have hcountedSau : ((s.moveParked g k).1.countSau fun c => { c with framesUncharged := bump c.framesUncharged }).sau
          = { s.sau with counts := { s.sau.counts with framesUncharged := bump s.sau.counts.framesUncharged } } := by
        rw [← hsau]
        rfl
      obtain ⟨hrest, hrestSau, hrestCt⟩ := ih ((s.moveParked g k).1.countSau fun c => { c with framesUncharged := bump c.framesUncharged })
      rw [if_pos hjoins]
      have hleft : State.backboneRoom ((s.moveParked g k).1.countSau fun c => { c with framesUncharged := bump c.framesUncharged })
          g.gateway = m := by
        rw [hcounted.room, hroom]
        rfl
      rw [hleft] at hrest hrestSau
      refine ⟨hcounted.trans hrest, ?_, hrestCt.trans hct⟩
      rw [hrestSau, hcountedSau]
      simp [bump_eq_bumpBy, bumpBy_bumpBy, Nat.add_comm]

end ServiceRelease

end Sys2Proof.Machine
end

section
/-! SUPPORT. The class of a record that a request changes (R24, R94, R95, R104, R105). -/

namespace Sys2Proof.Machine

/-! ### The idle timer after a class change -/

section Idle

variable (s : State) (old new : Class) (st : RecordState)

theorem State.idleAfterChange_service : s.idleAfterChange old .service st = st.withIdle fun _ => none := by
  cases st <;> rfl

theorem State.idleAfterChange_of_ne (h : new ≠ .service) :
    s.idleAfterChange old new st = if old = .service then st.withIdle fun pl => some (s.idleMs pl) else st := by
  cases st <;> simp [State.idleAfterChange, RecordState.withIdle, h]

theorem State.idleMs_congr {s t : State} (hspb : t.spb = s.spb) (hclb : t.clb = s.clb) : t.idleMs = s.idleMs := by
  funext pl
  cases pl <;> simp only [State.idleMs, State.seat_eq_of_spb hspb, State.link_eq_of_clb hclb]

theorem State.idleAfterChange_congr {s t : State} (hspb : t.spb = s.spb) (hclb : t.clb = s.clb) :
    t.idleAfterChange = s.idleAfterChange := by
  funext old new st
  cases st <;> simp only [State.idleAfterChange, State.idleMs_congr hspb hclb]

end Idle

/-! ### A class set -/

section SetClass

variable {s : State} {n : Nat} {r : Record} {new : Class}

/-- A record of another class. -/
def State.reclassed (s : State) (n : Nat) (old new : Class) : State :=
  s.onRecord n fun x => { x with cls := new, st := s.idleAfterChange old new x.st }

theorem State.setClass_same (hr : s.record n = some r) (h : r.cls = new) : s.setClass n new = s := by
  unfold State.setClass
  rw [hr]
  exact if_pos h

theorem State.setClass_plain (hr : s.record n = some r) (h : r.cls ≠ new)
    (hplain : new ≠ .service ∨ r.parked = [] ∨ s.sau.state.grant = none) : s.setClass n new = s.reclassed n r.cls new := by
  unfold State.setClass
  rw [hr]
  dsimp only
  rw [if_neg h]
  by_cases hservice : new = .service ∧ ¬ r.parked.isEmpty
  · rw [if_pos hservice]
    have hgrant : s.sau.state.grant = none := by
      rcases hplain with h | h | h
      · exact absurd hservice.1 h
      · rw [h] at hservice; exact absurd rfl hservice.2
      · exact h
    unfold State.serviceRelease
    have hsau : (s.onRecord n fun x => { x with cls := new, st := s.idleAfterChange r.cls new x.st }).sau = s.sau := by simp
    rw [hsau, hgrant]
    split
    · next hg => cases hg
    · rfl
  · rw [if_neg hservice]
    rfl

/-- A record that becomes SERVICE under a grant has its parked frames sent (R95). -/
theorem State.setClass_service {g : Grant} (hr : s.record n = some r) (h : r.cls ≠ .service) (hparked : r.parked ≠ [])
    (hgrant : s.sau.state.grant = some g) : s.setClass n .service
      = (((s.reclassed n r.cls .service).sendParked g r.parked).onRecord n fun x => { x with parked := [] }).leaveWaiting n := by
  unfold State.setClass
  rw [hr]
  dsimp only
  rw [if_neg h, if_pos ⟨rfl, by simpa using hparked⟩]
  unfold State.serviceRelease
  have hsau : (s.onRecord n fun x => { x with cls := .service, st := s.idleAfterChange r.cls .service x.st }).sau = s.sau := by simp
  have hrecord := (s.onRecord_record n n fun x => { x with cls := .service, st := s.idleAfterChange r.cls .service x.st }).trans
    (if_pos rfl)
  rw [hr] at hrecord
  rw [hsau, hgrant, hrecord]
  rfl

theorem State.reclassed_record (hr : s.record n = some r) (new : Class) (m : Nat) : (s.reclassed n r.cls new).record m
    = if m = n then some { r with cls := new, st := s.idleAfterChange r.cls new r.st } else s.record m := by
  rw [State.reclassed, State.onRecord_record, hr]
  rfl

end SetClass

/-! ### A class that a request sets -/

section Takes

variable {s t : State} {h : ReqHeader} {n : Nat} {r : Record}

/-- The references of a slot in use stand as they were when a request's frame took another one. -/
theorem State.Carried.refsOf {w : State} {side : Side} {whole : Prop} {m : Engine} (hw : s.Carried side whole m w) (hinv : Inv s)
    {k : Nat} (hk : s.fs.slots.get k ≠ none) : w.refsOf k = s.refsOf k := by
  obtain ⟨k', hfree, _, hothers⟩ := hw.slots hinv
  refine State.refsOf_congr (hothers k fun h => ?_)
  rw [h] at hk
  exact hk hfree

/-- Where a request's frame may be in transit: no queue but that of the other backbone port (R44). -/
theorem State.Taken.transit (ht : s.Taken h t) (side : Side) : ∃ transit : List Entry, transit.length ≤ 1
    ∧ (h.dest = .cabinet ∨ side = h.side → transit = [])
    ∧ (t.queue (.backbone side)).entries = (s.queue (.backbone side)).entries ++ transit := by
  by_cases hside : side = h.side
  · refine ⟨[], by simp, fun _ => rfl, ?_⟩
    rw [List.append_nil, Carried.queues ht _ fun he => ?_]
    rw [hside] at he
    exact otherSide_ne h.side (Port.backbone.inj he).symm
  · obtain ⟨es, hlen, hwhole, hes⟩ := Carried.transit ht
    have hother : side = otherSide h.side := by cases side <;> cases hs : h.side <;> simp_all [otherSide]
    rw [hother]
    exact ⟨es, hlen, fun hd => hd.elim hwhole fun he => absurd (hother.trans he) hside, hes⟩

/-- What a record of another class leaves of a part that has taken a request. -/
theorem State.Taken.reclassed (ht : s.Taken h t) (n : Nat) (old new : Class) (f : EntitlementList → EntitlementList) :
    s.requestOnly ((t.onEl f).reclassed n old new) h [.el, .ct] := by
  refine (State.requestOnly.after (t := t) (ht.requestOnly _) ?_ (State.queue_eq_of_fs rfl) rfl)
  simp [State.onlyChanges_iff, State.reclassed]

/-- A record of a part that has taken a request is given a class (R24, R94, R95, R104). -/
theorem State.Taken.takesClass (hinv : Inv s) (ht : s.Taken h t) (hr : s.record n = some r) (new : Class)
    (f : EntitlementList → EntitlementList) :
    let u := (t.onEl f).setClass n new
    s.takesClass u h n r new ∧ (u.record n).map Record.cls = some new ∧ otherRecords s u n
      ∧ s.onlyChanges u [.fs, .me, .el, .ct, .sau] ∧ u.ev.responses = [] ∧ u.el = f t.el := by
  dsimp only
  have hrt : (t.onEl f).record n = some r := by rw [← hr]; exact congrFun (State.record_eq_of_ct (Carried.ct ht)) n
  have hothers : otherRecords s (t.onEl f) n := fun m _ => congrFun (State.record_eq_of_ct (Carried.ct ht)) m
  have hsau : (t.onEl f).sau = s.sau := (Carried.sau ht : t.sau = s.sau)
  have hcu : (t.onEl f).cu = s.cu := (Carried.cu ht : t.cu = s.cu)
  have hresponses : (t.onEl f).ev.responses = [] := (Carried.responses ht : t.ev.responses = [])
  have hidle : (t.onEl f).idleAfterChange = s.idleAfterChange := State.idleAfterChange_congr (Carried.spb ht : t.spb = s.spb)
    (Carried.clb ht : t.clb = s.clb)
  have hqueue : (t.onEl f).queue = t.queue := State.queue_eq_of_fs rfl
  have hrefs : ∀ k, s.fs.slots.get k ≠ none → (t.onEl f).refsOf k = s.refsOf k := fun k hk => (Carried.refsOf ht hinv hk : t.refsOf k = _)
  have hel : (t.onEl f).el = f t.el := rfl
  have hrecord := State.reclassed_record hrt
  have honlyEl : s.requestOnly (t.onEl f) h [.el] := (ht.requestOnly [.el]).after (by simp [State.onlyChanges_iff]) hqueue rfl
  have honly := ht.reclassed n r.cls new f
  by_cases hcls : r.cls = new
  · rw [State.setClass_same hrt hcls]
    exact ⟨⟨fun _ => ⟨hrt, honlyEl⟩, fun hne => absurd hcls hne, fun hne => absurd hcls hne⟩, by rw [hrt, ← hcls]; rfl, hothers,
      honlyEl.1.mono (by simp), hresponses, hel⟩
  · by_cases hplain : new ≠ .service ∨ r.parked = [] ∨ (t.onEl f).sau.state.grant = none
    · rw [State.setClass_plain hrt hcls hplain]
      refine ⟨⟨fun heq => absurd heq hcls, fun _ hne => ⟨honly, ?_⟩, fun _ hservice => ⟨fun hnil => ⟨?_, honly⟩, fun g pend hne hg => ?_⟩⟩,
        ?_, fun m hm => ?_, honly.1.mono (by simp), hresponses, hel⟩
      · rw [hrecord, if_pos rfl, hidle, State.idleAfterChange_of_ne _ _ _ _ hne]
      · rw [hrecord, if_pos rfl, hidle, hservice, State.idleAfterChange_service, hnil]
      · rcases hplain with h | h | h
        · exact absurd hservice h
        · exact absurd h hne
        · rw [hsau, hg] at h; cases h
      · rw [hrecord, if_pos rfl]; rfl
      · rw [hrecord, if_neg hm]; exact hothers m hm
    · obtain ⟨hservice, hparked, hgrant⟩ : new = .service ∧ r.parked ≠ [] ∧ (t.onEl f).sau.state.grant ≠ none := by
        simpa only [not_or, not_not, ne_eq] using hplain
      obtain ⟨g, hg⟩ := Option.ne_none_iff_exists'.1 hgrant
      subst hservice
      rw [State.setClass_service hrt hcls hparked hg]
      obtain ⟨hsends, hsentSau, hsentCt⟩ := State.sendParked_sends ((t.onEl f).reclassed n r.cls .service) g r.parked
      obtain ⟨transit, hlen, hwhole, htransit⟩ := ht.transit g.gateway
      have hw : ((t.onEl f).reclassed n r.cls .service).queue = t.queue := State.queue_eq_of_fs rfl
      have hroom : ((t.onEl f).reclassed n r.cls .service).backboneRoom g.gateway = s.backboneRoom g.gateway - transit.length := by
        unfold State.backboneRoom
        have hcoupled : ((t.onEl f).reclassed n r.cls .service).coupled g.gateway = s.coupled g.gateway :=
          congrFun (State.coupled_eq_of_cu (s := s) hcu) _
        rw [hcoupled, hw, htransit, List.length_append]
        split
        · exact Nat.sub_add_eq _ _ _
        · simp
      have hwsau : ((t.onEl f).reclassed n r.cls .service).sau = s.sau := hsau
      have hwrefs : ∀ k, s.fs.slots.get k ≠ none → ((t.onEl f).reclassed n r.cls .service).refsOf k = s.refsOf k := hrefs
      have hwresponses : ((t.onEl f).reclassed n r.cls .service).ev.responses = [] := hresponses
      have hwel : ((t.onEl f).reclassed n r.cls .service).el = f t.el := rfl
      obtain ⟨hwonly, _, _, _, hwqueues⟩ := honly
      replace hrecord := hrecord .service
      rw [hidle, State.idleAfterChange_service] at hrecord
      rw [hroom] at hsends hsentSau
      generalize (t.onEl f).reclassed n r.cls .service = w at *
      generalize w.sendParked g r.parked = v at *
      have hurecord : ∀ m, ((v.onRecord n fun x => { x with parked := [] }).leaveWaiting n).record m
          = if m = n then some { r with cls := .service, st := r.st.withIdle fun _ => none, parked := [] } else s.record m := by
        intro m
        have hread := (v.onRecord_record n m fun x => { x with parked := [] })
        rw [State.record_eq_of_ct hsentCt, hrecord, hrecord, if_pos rfl] at hread
        refine hread.trans ?_
        split
        · rfl
        · next hm => exact hothers m hm
      have huqueue : ((v.onRecord n fun x => { x with parked := [] }).leaveWaiting n).queue = v.queue := State.queue_eq_of_fs rfl
      refine ⟨⟨fun heq => absurd heq hcls, fun _ hne => absurd rfl hne, fun _ _ => ⟨fun hnil => absurd hnil hparked,
        fun g' pend _ hg' => ?_⟩⟩, ?_, fun m hm => (hurecord m).trans (if_neg hm), ?_, hsends.responses.trans hwresponses,
        hsends.el.trans hwel⟩
      · obtain rfl : g = g' := by
          rw [hsau, hg'] at hg
          exact (Option.some.inj hg).symm
        refine ⟨transit, hlen, hwhole, (hurecord n).trans (if_pos rfl), ?_, fun q hq hother => ?_, ?_, fun k hk => ?_⟩
        · rw [huqueue, hsends.entries, hw, htransit]
        · rw [huqueue, hsends.queues q hq, hwqueues q hother]
        · change { v.sau with waiting := v.sau.waiting.filter fun m => m != n } = _
          rw [hsentSau, hwsau]
        · exact (hsends.refs k).trans (by rw [hwrefs k hk])
      · rw [hurecord, if_pos rfl]; rfl
      · exact (hwonly.mono (by simp)).trans
          (State.onlyChanges.trans (hsends.onlyChanges.mono (by simp)) (by simp [State.onlyChanges_iff]))

end Takes

end Sys2Proof.Machine
end

section
/-! SUPPORT and PROOFS. Records removed; the entitlement requests (O40, O41). -/

namespace Sys2Proof.Machine

/-! ### A record removed -/

/-- Record `n` has been removed. -/
structure State.Removes (s t : State) (n : Nat) : Prop where
  record : t.record n = none
  others : otherRecords s t n
  waiting : n ∉ t.sau.waiting
  only : s.onlyChanges t [.ct, .sau, .mc, .fs, .spb, .clb]
  link : ∀ c, (t.link c).state = (s.link c).state
  responses : t.ev.responses = s.ev.responses

section Remove

variable {s : State} {n : Nat} {r : Record}

/-- R25. -/
theorem State.vacate_removes (hr : s.record n = some r) :
    s.Removes (s.vacate n) n ∧ (s.vacate n).ct.counts = s.ct.counts := by
  obtain ⟨_, _, _, _, _, _, _, _, hcu, hresponses, _⟩ := s.leaveSeat_leaves r.st.place
  obtain ⟨hpending, _, hline, hmemory, hct, hmc, hsau, hel, hclb, hme, hsl⟩ := s.leaveSeat_keeps r.st.place
  unfold State.vacate
  rw [hr]
  dsimp only
  generalize s.leaveSeat r.st.place = v at *
  have hv : v.record n = some r := by rw [State.record_eq_of_ct hct, hr]
  have hct' := State.clearParked_ct hv
  obtain ⟨c, hsau'⟩ := State.clearParked_sau hv
  obtain ⟨hresponses', _⟩ := State.clearParked_log hv
  obtain ⟨hpending', _, hline', hmemory', hmc', hel', hspb', hclb', hcu', hme', hsl'⟩ := v.clearParked_keeps n
  generalize v.clearParked n = w at *
  obtain ⟨hresponses'', _⟩ := w.discardHold_log r.st.hold
  obtain ⟨hpending'', _, hline'', hmemory'', hct'', hsau'', hel'', hspb'', hclb'', hcu'', hme'', hsl''⟩ := w.discardHold_keeps r.st.hold
  generalize w.discardHold r.st.hold = x at *
  have hrecords : x.ct = { s.ct with records := s.ct.records.modify n fun y => { y with parked := [] } } := by
    rw [hct'', hct', hct]
  have hread : ∀ m, (x.delRecord n).record m = if m = n then none else (s.ct.records.modify n fun y => { y with parked := [] }).get m := by
    intro m
    change (x.ct.records.del n).get m = _
    rw [hrecords, Table.get_del]
  refine ⟨?_, (congrArg ClientTable.counts hrecords : x.ct.counts = _)⟩
  exact {
    record := (hread n).trans (if_pos rfl)
    others := fun m hm => by rw [hread, if_neg hm, Table.get_modify, if_neg hm]; rfl
    waiting := by
      change n ∉ x.sau.waiting
      rw [hsau'', hsau']
      exact fun hmem => by simp at hmem
    only := State.onlyChanges_iff.2 ⟨fun h => absurd (by simp) h, fun h => absurd (by simp) h, fun h => absurd (by simp) h,
      fun _ => hel''.trans (hel'.trans hel), fun h => absurd (by simp) h, fun h => absurd (by simp) h, fun h => absurd (by simp) h,
      fun _ => hcu''.trans (hcu'.trans hcu), fun _ => hme''.trans (hme'.trans hme), fun _ => hsl''.trans (hsl'.trans hsl),
      fun _ => hmemory''.trans (hmemory'.trans hmemory), hpending''.trans (hpending'.trans hpending), hline''.trans (hline'.trans hline)⟩
    link := fun c => congrArg Link.state (congrFun (State.link_eq_of_clb (hclb''.trans (hclb'.trans hclb))) c)
    responses := hresponses''.trans (hresponses'.trans hresponses) }

/-- A message to a radio stands beside a removal. -/
theorem State.Removes.sendRadio {t : State} (h : s.Removes t n) (c : LinkNo) (m : RadioOut) : s.Removes (t.sendRadio c m) n where
  record := (congrFun (State.record_eq_of_ct (by simp)) n).trans h.record
  others k hk := (congrFun (State.record_eq_of_ct (by simp)) k).trans (h.others k hk)
  waiting := by simpa using h.waiting
  only := h.only.trans (by simp [State.onlyChanges_iff])
  link d := (t.sendRadio_state c m d).trans (h.link d)
  responses := (t.sendRadio_responses c m).trans h.responses

/-- R26: the removal is counted, and a READY link is told. -/
theorem State.evictRecord_removes (hr : s.record n = some r) :
    let u := s.evictRecord n
    s.Removes u n ∧ u.ct.counts.evictions = bump s.ct.counts.evictions
      ∧ ∀ c a, r.st.place = some (.ceiling c a) → (s.link c).state = .ready → toldRadio u c (.drop a) := by
  obtain ⟨hremoves, hcounts⟩ := State.vacate_removes hr
  have hcounted : ∀ t : State, s.Removes t n → s.Removes (t.countCt fun c => { c with evictions := bump c.evictions }) n := fun t h =>
    { h with only := h.only.trans (by simp [State.onlyChanges_iff]) }
  have hbumped : ∀ t : State, t.ct.counts = s.ct.counts →
      (t.countCt fun c => { c with evictions := bump c.evictions }).ct.counts.evictions = bump s.ct.counts.evictions := fun t h => by
    change bump t.ct.counts.evictions = _
    rw [h]
  dsimp only
  unfold State.evictRecord
  rw [hr]
  dsimp only
  generalize s.vacate n = v at *
  rcases hplace : r.st.place with _ | ⟨p⟩ | ⟨c, a⟩
  · exact ⟨hcounted _ hremoves, hbumped _ hcounts, nofun⟩
  · exact ⟨hcounted _ hremoves, hbumped _ hcounts, nofun⟩
  · refine ⟨hcounted _ (hremoves.sendRadio c (.drop a)), hbumped _ (by simpa using hcounts), fun d b hd hready => ?_⟩
    cases hd
    exact toldRadio_sendRadio ((hremoves.link c).trans hready) (.drop a)

end Remove

/-! ### The Entitlement List -/

theorem State.byAddr_congr {s t : State} (hct : t.ct = s.ct) : t.byAddr = s.byAddr := by
  funext x; unfold State.byAddr State.findRecord; rw [hct]

theorem State.entryOf_congr {s t : State} (hel : t.el = s.el) : t.entryOf = s.entryOf := by
  funext x; unfold State.entryOf; rw [hel]

theorem minutesOf_eq {m : Half} (h : m.toNat ≤ 1440) : minutesOf m = some (if m = 0 then none else some m.toNat) := by
  unfold minutesOf
  rw [if_pos h]
  split <;> rfl

theorem minutesOf_eq_none {m : Half} (h : 1440 < m.toNat) : minutesOf m = none := by
  unfold minutesOf
  rw [if_neg (fun e => by rw [e] at h; exact absurd h (by decide)), if_neg (by omega)]

section Entitle

variable {t : State} {r : Return} {x : Addr} {kind : Byte} {minutes : Half} {k : Kind}

theorem State.doEntitle_bad (h : badClientAddr x = true ∨ kindOf kind = none ∨ 1440 < minutes.toNat) :
    t.doEntitle r x kind minutes = t.refuse .badArgument := by
  unfold State.doEntitle
  split
  · next hk hm =>
    refine if_pos ?_
    rcases h with h | h | h
    · exact h
    · rw [h] at hk; cases hk
    · rw [minutesOf_eq_none h] at hm; cases hm
  · rfl

theorem State.doEntitle_full (hk : kindOf kind = some k) (hm : minutes.toNat ≤ 1440) (hx : badClientAddr x = false)
    (hnone : t.entryOf x = none) (hfull : 256 ≤ t.el.entries.length) :
    t.doEntitle r x kind minutes = (t.countEl fun c => { c with listFull := bump c.listFull }).refuse .listFull := by
  unfold State.doEntitle
  rw [hk, minutesOf_eq hm]
  dsimp only
  rw [hx, hnone, if_neg Bool.false_ne_true]
  exact if_pos (by simp [hfull])

/-- The entry that an ENTITLE writes (R103). -/
def writtenEntry (x : Addr) (k : Kind) (minutes : Half) (station : Addr) : Entitlement :=
  { addr := x, kind := k, minutes := if minutes = 0 then none else some minutes.toNat, station := station }

theorem State.doEntitle_written (hk : kindOf kind = some k) (hm : minutes.toNat ≤ 1440) (hx : badClientAddr x = false)
    (hroom : (t.entryOf x).isSome = true ∨ t.el.entries.length < 256) : t.doEntitle r x kind minutes
      = (t.writeEntitlement (writtenEntry x k minutes r.station)).accept (entitleAnswer (t.entryOf x) (t.byAddr x) k) := by
  unfold State.doEntitle
  rw [hk, minutesOf_eq hm]
  dsimp only
  rw [hx, if_neg Bool.false_ne_true, if_neg]
  · rfl
  · rintro hfull
    obtain ⟨hnone, hlen⟩ := Bool.and_eq_true_iff.1 hfull
    rcases hroom with h | h
    · rw [Option.isNone_iff_eq_none.1 hnone] at h; cases h
    · have := of_decide_eq_true hlen
      omega

/-- What an entry written makes of the list (R103). -/
def EntitlementList.written (b : EntitlementList) (e : Entitlement) (old : Option Entitlement) : EntitlementList :=
  { b with
    entries := putEntitlement e b.entries
    counts := { b.counts with
      added := if old.isSome then b.counts.added else bump b.counts.added
      replaced := if old.isSome then bump b.counts.replaced else b.counts.replaced
      barsLifted := if old.any (fun d => d.kind == .barred) && e.kind != .barred then bump b.counts.barsLifted else b.counts.barsLifted } }

theorem State.writeEntitlement_eq (t : State) (e : Entitlement) :
    t.writeEntitlement e = (t.onEl fun b => b.written e (t.entryOf e.addr)).pushEntitlement e := rfl

/-- The list once an entry has been written: its address has it, every other address what it had. -/
theorem State.entryOf_written {u : State} (t : State) (e : Entitlement) (old : Option Entitlement) (hu : u.el = t.el.written e old)
    (y : Addr) : u.entryOf y = if y = e.addr then some e else t.entryOf y := by
  unfold State.entryOf
  rw [hu]
  change (putEntitlement e t.el.entries).find? (fun d => d.addr == y) = _
  rw [putEntitlement_eq]
  split
  · next hy => rw [hy]; exact find?_putBy_self (key := Entitlement.addr) e _
  · next hy => exact find?_putBy_of_ne (key := Entitlement.addr) e hy _

end Entitle

/-- What an ENTITLE that is carried out leaves of the part (R103, R104, R26). -/
theorem State.Taken.entitled {s t : State} {h : ReqHeader} (hinv : Inv s) (ht : s.Taken h t) (e : Entitlement) :
    let u := t.writeEntitlement e
    u.ev.responses = [] ∧ u.el = t.el.written e (t.entryOf e.addr)
      ∧ (∀ n r, s.owns e.addr n r → e.kind = .barred → u.record n = none ∧ otherRecords s u n ∧ n ∉ u.sau.waiting
        ∧ u.ct.counts.evictions = bump s.ct.counts.evictions
        ∧ ∀ c a, r.st.place = some (.ceiling c a) → (s.link c).state = .ready → toldRadio u c (.drop a))
      ∧ (∀ n r, s.owns e.addr n r → e.kind ≠ .barred → (u.record n).map Record.cls = some e.kind.cls ∧ otherRecords s u n
        ∧ s.takesClass u h n r e.kind.cls ∧ s.onlyChanges u [.fs, .me, .el, .ct, .sau])
      ∧ (s.byAddr e.addr = none → u.ct = s.ct) := by
  dsimp only
  have hresponses : t.ev.responses = [] := Carried.responses ht
  have hct : t.ct = s.ct := Carried.ct ht
  have hlink := State.link_eq_of_clb (Carried.clb ht : t.clb = s.clb)
  rw [State.writeEntitlement_eq]
  unfold State.pushEntitlement
  have hby : (t.onEl fun b => b.written e (t.entryOf e.addr)).byAddr = s.byAddr := State.byAddr_congr hct
  rw [hby]
  cases hx : s.byAddr e.addr with
  | none =>
    exact ⟨hresponses, rfl, fun n r hn => (nomatch hx.symm.trans hn), fun n r hn => (nomatch hx.symm.trans hn), fun _ => hct⟩
  | some own =>
    obtain ⟨n, r⟩ := own
    dsimp only
    have hr : s.record n = some r := (State.findRecord_some hinv.records.1 hx).1
    have howns : ∀ m q, s.owns e.addr m q → m = n ∧ q = r := fun m q hm => by
      have := Option.some.inj (hm.symm.trans hx)
      exact ⟨congrArg Prod.fst this, congrArg Prod.snd this⟩
    by_cases hbarred : e.kind = .barred
    · rw [if_pos hbarred]
      have hrt : (t.onEl fun b => b.written e (t.entryOf e.addr)).record n = some r :=
        (congrFun (State.record_eq_of_ct hct) n).trans hr
      obtain ⟨hremoves, hcount, htold⟩ := State.evictRecord_removes hrt
      obtain ⟨_, _, _, _, hel, _⟩ := (t.onEl fun b => b.written e (t.entryOf e.addr)).evictRecord_keeps n
      refine ⟨hremoves.responses.trans hresponses, hel, fun m q hm _ => ?_, fun _ _ _ hne => absurd hbarred hne, nofun⟩
      obtain ⟨rfl, rfl⟩ := howns m q hm
      refine ⟨hremoves.record, fun k hk => (hremoves.others k hk).trans (congrFun (State.record_eq_of_ct hct) k), hremoves.waiting, ?_,
        fun c a hplace hready => htold c a hplace ?_⟩
      · rw [hcount]
        exact congrArg (fun b : ClientTable => bump b.counts.evictions) hct
      · exact (congrArg Link.state (congrFun hlink c)).trans hready
    · rw [if_neg hbarred]
      obtain ⟨htakes, hcls, hothers, honly, hnone, hel⟩ :=
        ht.takesClass hinv hr e.kind.cls fun b => b.written e (t.entryOf e.addr)
      refine ⟨hnone, hel, fun _ _ _ hb => absurd hb hbarred, fun m q hm _ => ?_, nofun⟩
      obtain ⟨rfl, rfl⟩ := howns m q hm
      exact ⟨hcls, hothers, htakes, honly⟩

end Sys2Proof.Machine

namespace Sys2Proof.Proofs

open Sys2Proof.Machine

/-- Settles O40: a request is refused by its fields or by a full list, and an entry that is written claims the record of its address. -/
theorem entitleWritesTheList : Obligations.EntitleWritesTheList := by
  intro s h x kind minutes hinv hs hrole
  refine ⟨fun hbad => ?_, fun k hk hm hx => ⟨fun hroom => ?_, fun hnone hfull => ?_⟩⟩
  · exact served_refused (q := .entitle x kind minutes) hs rfl hrole rfl (fun t _ => State.doEntitle_bad hbad) nofun
  · obtain ⟨t, ht, hserved⟩ := served_answered (q := .entitle x kind minutes) hs rfl hrole rfl
    have hel : t.el = s.el := ht.el
    have hentry : t.entryOf = s.entryOf := State.entryOf_congr hel
    have hby : t.byAddr = s.byAddr := State.byAddr_congr (State.Carried.ct ht)
    have hperform : t.perform (returnOf h (.entitle x kind minutes)) (.entitle x kind minutes)
        = (t.writeEntitlement (writtenEntry x k minutes h.station)).accept (entitleAnswer (s.entryOf x) (s.byAddr x) k) :=
      (State.doEntitle_written hk hm hx (by rw [hentry, hel]; exact hroom)).trans (by rw [hentry, hby]; rfl)
    obtain ⟨hresponses, hwritten, hbarred, hclass, hnone⟩ := ht.entitled hinv (writtenEntry x k minutes h.station)
    obtain ⟨v, rfl, hv, hanswers⟩ := hserved _ .ok _ hperform hresponses nofun
    have hread := State.entryOf_written (u := t.writeEntitlement (writtenEntry x k minutes h.station)) t _ _ hwritten
    refine ⟨_, hv, hanswers, (hread x).trans (if_pos rfl), fun y hy => (hread y).trans ((if_neg hy).trans (congrFun hentry y)),
      fun n r hn hk => hbarred n r hn hk, fun n r hn hk => hclass n r hn hk, hnone, ?_⟩
    exact (congrArg EntitlementList.minute hwritten).trans (congrArg EntitlementList.minute hel : t.el.minute = _)
  · obtain ⟨t, ht, hserved⟩ := served_answered (q := .entitle x kind minutes) hs rfl hrole rfl
    have hel : t.el = s.el := ht.el
    have hperform : t.perform (returnOf h (.entitle x kind minutes)) (.entitle x kind minutes)
        = ((t.countEl fun c => { c with listFull := bump c.listFull }), some (.listFull, [])) :=
      State.doEntitle_full hk hm hx (by rw [State.entryOf_congr hel, hnone]) (by rw [hel]; exact hfull)
    obtain ⟨v, rfl, hv, hanswers⟩ := hserved _ .listFull _ hperform (by exact ht.responses) nofun
    refine ⟨_, hv, hanswers, ?_, ((ht.requestOnly [.el]).after (by simp [State.onlyChanges_iff]) (by rfl) (by rfl)).respond _ _ _ _⟩
    rw [← hel]
    rfl

end Sys2Proof.Proofs
end

section
/-! SUPPORT and PROOFS. Entries that go, and the classes that go with them (O41). -/

namespace Sys2Proof.Machine

/-! ### Records that lose an entitlement -/

/-- The addresses of the records. -/
def State.addrs (s : State) : Table Addr := s.ct.records.mapValues Record.addr

theorem State.byAddr_number (s : State) (x : Addr) : (s.byAddr x).map Prod.fst = (s.addrs.find? fun e => e.2 == x).map Prod.fst := by
  unfold State.byAddr State.findRecord State.addrs Table.mapValues
  rw [List.find?_map, Option.map_map]
  rfl

/-- Records may have become BASIC: the addresses stand, and so do the entries of the Entitlement List. -/
structure State.Lowers (s u : State) : Prop where
  addrs : u.addrs = s.addrs
  basics : ∀ n, (s.record n).map Record.cls = some .basic → (u.record n).map Record.cls = some .basic
  entries : u.el.entries = s.el.entries
  responses : u.ev.responses = s.ev.responses

namespace State.Lowers

variable {s t u : State}

theorem of_eq (hct : u.ct = s.ct) (hentries : u.el.entries = s.el.entries) (hresponses : u.ev.responses = s.ev.responses) :
    s.Lowers u where
  addrs := by unfold State.addrs; rw [hct]
  basics n h := by rw [State.record_eq_of_ct hct]; exact h
  entries := hentries
  responses := hresponses

theorem trans (h : s.Lowers t) (h' : t.Lowers u) : s.Lowers u where
  addrs := h'.addrs.trans h.addrs
  basics n hn := h'.basics n (h.basics n hn)
  entries := h'.entries.trans h.entries
  responses := h'.responses.trans h.responses

theorem wf (h : s.Lowers t) (hw : s.ct.records.wf = true) : t.ct.records.wf = true := by
  rw [← hw, ← Table.mapValues_wf (h := Record.addr) (t := t.ct.records), ← Table.mapValues_wf (h := Record.addr) (t := s.ct.records)]
  exact congrArg Table.wf h.addrs

/-- The record of an address is the same one. -/
theorem byAddr (h : s.Lowers t) (x : Addr) : (t.byAddr x).map Prod.fst = (s.byAddr x).map Prod.fst := by
  rw [State.byAddr_number, State.byAddr_number, h.addrs]

end State.Lowers

section SetBasic

variable {s : State} {n : Nat} {r : Record}

/-- R105: a record becomes BASIC. -/
theorem State.setClass_basic (hw : s.ct.records.wf = true) (hr : s.record n = some r) :
    s.Lowers (s.setClass n .basic) ∧ ((s.setClass n .basic).record n).map Record.cls = some .basic
      ∧ otherRecords s (s.setClass n .basic) n ∧ (s.setClass n .basic).el = s.el := by
  by_cases hcls : r.cls = .basic
  · rw [State.setClass_same hr hcls]
    exact ⟨.of_eq rfl rfl rfl, by rw [hr, ← hcls]; rfl, fun _ _ => rfl, rfl⟩
  · rw [State.setClass_plain hr hcls (Or.inl nofun)]
    have hread := State.reclassed_record hr .basic
    refine ⟨⟨?_, fun m hm => ?_, rfl, rfl⟩, by rw [hread, if_pos rfl]; rfl, fun m hm => (hread m).trans (if_neg hm), rfl⟩
    · unfold State.addrs
      change (s.ct.records.modify n _).mapValues Record.addr = _
      rw [Table.modify_mapValues (h := Record.addr) (t := s.ct.records) (k := n)
        (f := fun x => { x with cls := .basic, st := s.idleAfterChange r.cls .basic x.st }) (g := id) fun _ _ => rfl]
      exact Table.modify_eq_self (by rwa [Table.mapValues_wf]) fun _ _ => rfl
    · rw [hread]
      split
      · rfl
      · exact hm

/-- The record of an address whose entry has gone becomes BASIC (R105). -/
theorem State.setClassOf_basic (hw : s.ct.records.wf = true) (x : Addr) :
    s.Lowers (s.setClassOf x .basic) ∧ (∀ n r, s.owns x n r → ((s.setClassOf x .basic).record n).map Record.cls = some .basic
      ∧ otherRecords s (s.setClassOf x .basic) n) ∧ (s.setClassOf x .basic).el = s.el := by
  unfold State.setClassOf
  cases hx : s.byAddr x with
  | none => exact ⟨.of_eq rfl rfl rfl, fun n r hn => (nomatch hx.symm.trans hn), rfl⟩
  | some own =>
    obtain ⟨n, r⟩ := own
    obtain ⟨hlowers, hcls, hothers, hel⟩ := State.setClass_basic hw (State.findRecord_some hw hx).1
    refine ⟨hlowers, fun m q hm => ?_, hel⟩
    obtain rfl : n = m := congrArg Prod.fst (Option.some.inj (hx.symm.trans hm))
    exact ⟨hcls, hothers⟩

end SetBasic

/-! ### Entries that go -/

section Gone

variable {s : State} {count : ElCounters → ElCounters}

theorem State.entryGone_lowers (hw : s.ct.records.wf = true) (e : Entitlement) : s.Lowers (s.entryGone e)
    ∧ ∀ n r, s.owns e.addr n r → e.kind ≠ .barred → ((s.entryGone e).record n).map Record.cls = some .basic := by
  unfold State.entryGone
  split
  · next hb => exact ⟨.of_eq rfl rfl rfl, fun _ _ _ hne => absurd hb hne⟩
  · obtain ⟨hlowers, hcls, _⟩ := State.setClassOf_basic hw e.addr
    exact ⟨hlowers, fun n r hn _ => (hcls n r hn).1⟩

/-- What the removal of entries brings, one entry after the other. -/
theorem State.foldl_entryGone (hw : s.ct.records.wf = true) (gone : List Entitlement) :
    s.Lowers (gone.foldl (fun t e => (t.countEl count).entryGone e) s)
    ∧ ∀ e ∈ gone, e.kind ≠ .barred → ∀ n r, s.owns e.addr n r →
      ((gone.foldl (fun t e => (t.countEl count).entryGone e) s).record n).map Record.cls = some .basic := by
  induction gone generalizing s with
  | nil => exact ⟨.of_eq rfl rfl rfl, nofun⟩
  | cons d rest ih =>
    rw [List.foldl_cons]
    have hcounted : s.Lowers (s.countEl count) := .of_eq rfl rfl rfl
    obtain ⟨hlowers, hcls⟩ := State.entryGone_lowers (s := s.countEl count) hw d
    have hfirst := hcounted.trans hlowers
    obtain ⟨hrest, hrestCls⟩ := ih (hfirst.wf hw)
    refine ⟨hfirst.trans hrest, fun e he hb n r hn => ?_⟩
    rcases List.mem_cons.1 he with rfl | he
    · exact hrest.basics n (hcls n r hn hb)
    · have hnumber := hfirst.byAddr e.addr
      rw [show s.byAddr e.addr = some (n, r) from hn] at hnumber
      obtain ⟨⟨m, q⟩, hq, hm⟩ := Option.map_eq_some_iff.1 hnumber
      obtain rfl : m = n := hm
      exact hrestCls e he hb m q hq

end Gone

/-- The entries of one address, in a list that strictly rises, are the one that is found. -/
theorem filter_eq_of_find? {l : List Entitlement} (hl : rising (l.map Entitlement.addr)) {x : Addr} {e : Entitlement}
    (h : l.find? (fun d => d.addr == x) = some e) : l.filter (fun d => d.addr == x) = [e] := by
  induction l with
  | nil => cases h
  | cons d rest ih =>
    obtain ⟨hlt, hrest⟩ := hl
    rw [List.find?_cons] at h
    rw [List.filter_cons]
    split at h
    · next hd =>
      obtain rfl := Option.some.inj h
      have hnone : rest.filter (fun f => f.addr == x) = [] := by
        refine List.filter_eq_nil_iff.2 fun f hf hfx => ?_
        have := hlt f.addr (List.mem_map_of_mem hf)
        rw [show f.addr = d.addr from (by simpa using hfx : f.addr = x).trans (by simpa using hd : d.addr = x).symm] at this
        exact Nat.lt_irrefl _ this
      rw [if_pos hd, hnone]
    · next hd => rw [if_neg (by rw [hd]; exact Bool.false_ne_true), ih hrest h]

end Sys2Proof.Machine

namespace Sys2Proof.Proofs

open Sys2Proof.Machine

/-- Settles O41: the entries that go are removed first, and then each brings its record down; an eviction is `evictRecord_removes`. -/
theorem revokeJourneyEndAndEvict : Obligations.RevokeJourneyEndAndEvict := by
  intro s h hinv hs
  have hwf := hinv.records.1
  have hpermits : ∀ x, (s.rolesHeld h.station).entitle = true ∨ (s.rolesHeld h.station).cabinet = true →
      s.permits h.station (.evict x) = true := fun x hrole => Bool.or_eq_true_iff.2 hrole
  refine ⟨fun x e hrole he => ?_, fun x hrole hnone => ?_, fun hrole => ?_, fun x n r hrole hx => ?_, fun x hrole hx => ?_⟩
  · obtain ⟨t, ht, hserved⟩ := served_answered (q := .revoke x) hs rfl hrole rfl
    have hct : t.ct = s.ct := State.Carried.ct ht
    have hel : t.el = s.el := ht.el
    have hresponses : t.ev.responses = [] := State.Carried.responses ht
    have hgone : t.el.entries.filter (fun d => d.addr == x) = [e] := by
      rw [hel]
      exact filter_eq_of_find? hinv.entries.1 he
    have haddr : e.addr = x := by simpa using List.find?_some he
    have hentry : t.entryOf x = some e := (congrFun (State.entryOf_congr hel) x).trans he
    have hperform : t.perform (returnOf h (.revoke x)) (.revoke x)
        = (((t.onEl fun b => { b with entries := b.entries.filter fun d => !(d.addr == x) }).countEl fun c =>
            { c with revoked := bump c.revoked }).entryGone e).accept e.bytes := by
      change t.doRevoke x = _
      unfold State.doRevoke
      rw [hentry]
      dsimp only
      unfold State.removeEntitlements
      rw [hgone]
      rfl
    have hby := State.byAddr_congr hct
    obtain ⟨g, hg, hgct, hgel, hgev⟩ : ∃ g : State, g = ((t.onEl fun b => { b with entries := b.entries.filter fun d => !(d.addr == x) }).countEl
        fun c => { c with revoked := bump c.revoked }) ∧ g.ct = s.ct
        ∧ g.el = { s.el with
            entries := s.el.entries.filter fun d => !(d.addr == x)
            counts := { s.el.counts with revoked := bump s.el.counts.revoked } } ∧ g.ev.responses = [] :=
      ⟨_, rfl, hct, by rw [← hel]; rfl, hresponses⟩
    rw [← hg] at hperform
    clear hg
    by_cases hb : e.kind = .barred
    · have hgoneEq : g.entryGone e = g.countEl fun c => { c with barsLifted := bump c.barsLifted } := if_pos hb
      rw [hgoneEq] at hperform
      obtain ⟨v, rfl, hv, hanswers⟩ := hserved _ .ok _ hperform hgev nofun
      refine ⟨_, hv, hanswers, ?_, ?_, fun _ _ _ hne => absurd hb hne, fun _ => ⟨hgct, ?_⟩⟩
      · exact congrArg EntitlementList.entries hgel
      · exact congrArg (fun b : EntitlementList => b.counts.revoked) hgel
      · have hlifted := congrArg (fun b : EntitlementList => bump b.counts.barsLifted) hgel
        exact hlifted
    · have hgoneEq : g.entryGone e = g.setClassOf x .basic := by rw [← haddr]; exact if_neg hb
      rw [hgoneEq] at hperform
      obtain ⟨hlowers, hcls, hlist⟩ := State.setClassOf_basic (s := g) (by rw [hgct]; exact hwf) x
      obtain ⟨v, rfl, hv, hanswers⟩ := hserved _ .ok _ hperform (hlowers.responses.trans hgev) nofun
      refine ⟨_, hv, hanswers, ?_, ?_, fun n r hn _ => ?_, fun hbarred => absurd hbarred hb⟩
      · exact congrArg EntitlementList.entries (hlist.trans hgel)
      · exact congrArg (fun b : EntitlementList => b.counts.revoked) (hlist.trans hgel)
      · obtain ⟨hbasic, hothers⟩ := hcls n r ((congrFun (State.byAddr_congr hgct) x).trans hn)
        exact ⟨hbasic, fun m hm => (hothers m hm).trans (congrFun (State.record_eq_of_ct hgct) m)⟩
  · refine served_refused (q := .revoke x) hs rfl hrole rfl (fun t ht => ?_) (by simp)
    have hentry : t.entryOf x = none := (congrFun (State.entryOf_congr (by exact ht.el)) x).trans hnone
    change t.doRevoke x = _
    unfold State.doRevoke
    rw [hentry]
  · obtain ⟨t, ht, hserved⟩ := served_answered (q := .journeyEnd) hs rfl hrole rfl
    have hct : t.ct = s.ct := State.Carried.ct ht
    have hel : t.el = s.el := ht.el
    have hresponses : t.ev.responses = [] := State.Carried.responses ht
    obtain ⟨hlowers, hcls⟩ := State.foldl_entryGone (s := t.onEl fun b => { b with entries := b.entries.filter fun e => !(e.kind != .service) })
      (count := fun c => { c with journeyEnd := bump c.journeyEnd }) (by change t.ct.records.wf = true; rw [hct]; exact hwf)
      (t.el.entries.filter fun e => e.kind != .service)
    have hperform : t.perform (returnOf h .journeyEnd) .journeyEnd = (t.removeEntitlements (fun e => e.kind != .service)
        fun c => { c with journeyEnd := bump c.journeyEnd }).accept (beBytes 2 (s.el.entries.countP fun e => e.kind != .service)) := by
      rw [← hel]
      rfl
    obtain ⟨v, rfl, hv, hanswers⟩ := hserved _ .ok _ hperform (hlowers.responses.trans hresponses) nofun
    refine ⟨_, hv, hanswers, ?_, fun e n r he hkind hn => ?_⟩
    · refine hlowers.entries.trans ?_
      change t.el.entries.filter _ = _
      rw [hel]
      exact List.filter_congr fun e _ => by cases e.kind <;> rfl
    · refine hcls e (List.mem_filter.2 ⟨by rw [hel]; exact he, ?_⟩) ?_ n r ((congrFun (State.byAddr_congr hct) e.addr).trans hn)
      · rcases hkind with hk | hk <;> rw [hk] <;> rfl
      · rcases hkind with hk | hk <;> rw [hk] <;> nofun
  · obtain ⟨t, ht, hserved⟩ := served_answered (q := .evict x) hs rfl (hpermits x hrole) rfl
    have hct : t.ct = s.ct := State.Carried.ct ht
    have hresponses : t.ev.responses = [] := State.Carried.responses ht
    have hr := (State.findRecord_some hwf hx).1
    obtain ⟨hremoves, hcount, htold⟩ := State.evictRecord_removes ((congrFun (State.record_eq_of_ct hct) n).trans hr)
    have hperform : t.perform (returnOf h (.evict x)) (.evict x) = (t.evictRecord n).accept [] := by
      change t.doEvict x = _
      unfold State.doEvict
      rw [State.byAddr_congr hct, show s.byAddr x = some (n, r) from hx]
    obtain ⟨v, rfl, hv, hanswers⟩ := hserved _ .ok _ hperform (hremoves.responses.trans hresponses) nofun
    refine ⟨_, hv, hanswers, hremoves.record, fun k hk => (hremoves.others k hk).trans (congrFun (State.record_eq_of_ct hct) k),
      hremoves.waiting, ?_, fun c a hplace hready => ?_, ?_⟩
    · exact hcount.trans (congrArg (fun b : ClientTable => bump b.counts.evictions) hct)
    · exact htold c a hplace ((congrArg Link.state (congrFun (State.link_eq_of_clb (ht.clb : t.clb = s.clb)) c)).trans hready)
    · obtain ⟨honly, _⟩ := ht.requestOnly []
      exact (honly.mono (by simp)).trans ((hremoves.only.mono (by simp)).trans (State.respond_keeps _ _ _ _ _ _))
  · refine served_refused (q := .evict x) hs rfl (hpermits x hrole) rfl (fun t ht => ?_) (by simp)
    have hnone : t.byAddr x = none := (congrFun (State.byAddr_congr (by exact ht.ct)) x).trans hx
    change t.doEvict x = _
    unfold State.doEvict
    rw [hnone]

end Sys2Proof.Proofs
end

section
/-! SUPPORT and PROOFS. The release pass (R90, R91) and the refill (O38). -/

namespace Sys2Proof.Machine

/-! ### One record's turn -/

theorem State.slotLength_eq (s : State) (k : Nat) : s.slotLength k = (s.slotFrame k).length := by
  unfold State.slotLength State.slotFrame
  cases s.fs.slots.get k <;> rfl

/-- What a turn makes of a record but for what stays parked. -/
def Record.charges (r : Record) (cost : Nat → Nat) (o : Turn) : Record :=
  { r with credit := o.credit, charged := bumpBy r.charged (o.released.map cost).sum }

/-- The frames of one record released in its turn (R90, R91), on a part `t` that came from `s` by sending `joined` and dropping
`refused`; the frames in hand are still in their slots. -/
theorem State.releaseFrames_turn {s t : State} {g : Grant} {n : Nat} {r : Record} {joined refused : List Nat} (l : List Nat)
    (hsends : s.Sends t g.gateway joined refused) (hr : t.record n = some r)
    (hlive : ∀ k ∈ l, refused.count k + l.count k ≤ s.refsOf k) :
    let cost := fun k => frameCost (s.slotLength k)
    let o := turn cost (t.backboneRoom g.gateway) r.credit t.sau.pool l
    let u := (t.releaseFrames g n l).1
    (t.releaseFrames g n l).2 = o.kept ∧ s.Sends u g.gateway (joined ++ o.released) (refused ++ o.refused)
      ∧ (∀ m, u.record m = if m = n then some (r.charges cost o) else t.record m)
      ∧ u.sau = { t.sau with
          pool := o.pool
          counts := { t.sau.counts with
            framesReleased := bumpBy t.sau.counts.framesReleased o.released.length
            gatewayFullDrops := bumpBy t.sau.counts.gatewayFullDrops o.refused.length } } := by
  dsimp only
  induction l generalizing t r joined refused with
  | nil =>
    refine ⟨rfl, by simpa [State.releaseFrames, turn] using hsends, fun m => ?_, ?_⟩
    · split
      · next hm => rw [hm]; simpa [State.releaseFrames, turn, Record.charges, bumpBy_zero] using hr
      · rfl
    · simp [State.releaseFrames, turn, bumpBy_zero]
  | cons k rest ih =>
    have hk := hlive k List.mem_cons_self
    rw [List.count_cons_self] at hk
    have hcost : frameCost (t.slotLength k) = frameCost (s.slotLength k) := by
      rw [State.slotLength_eq, State.slotLength_eq, hsends.frames k (by omega)]
    have hcredit : ((t.record n).map Record.credit).getD 0 = r.credit := by rw [hr]; rfl
    unfold State.releaseFrames turn
    dsimp only
    rw [hcost, hcredit]
    by_cases hpays : frameCost (s.slotLength k) ≤ r.credit ∧ frameCost (s.slotLength k) ≤ t.sau.pool
    · have hstays : ¬ (r.credit < frameCost (s.slotLength k) ∨ t.sau.pool < frameCost (s.slotLength k)) := by omega
      rw [if_pos hpays, if_neg hstays]
      rcases hroom : t.backboneRoom g.gateway with _ | m
      · obtain ⟨hrefused, hmoved, hsau, hct⟩ := t.moveParked_refused hroom k
        rw [hrefused, if_neg Bool.false_ne_true]
        dsimp only
        obtain ⟨hkept, hrest, hrecord, hrestSau⟩ := ih (hsends.trans hmoved)
          ((congrFun (State.record_eq_of_ct hct) n).trans hr) fun j hj => by
            have hjl := hlive j (List.mem_cons_of_mem _ hj)
            rw [List.count_cons] at hjl
            rw [List.count_append, List.count_singleton]
            omega
        rw [hmoved.room, hroom, List.length_nil, Nat.sub_self, hsau] at hkept hrest hrecord hrestSau
        refine ⟨hkept, ?_, fun m => ?_, ?_⟩
        · simpa using hrest
        · rw [hrecord, State.record_eq_of_ct hct]
          rfl
        · rw [hrestSau]
          simp [bump_eq_bumpBy, bumpBy_bumpBy, Nat.add_comm]
      · obtain ⟨hjoins, hmoved, hsau, hct⟩ := t.moveParked_joins (g := g) (by rw [hroom]; exact Nat.succ_ne_zero m) k
        rw [if_pos hjoins]
        obtain ⟨v, hv⟩ : ∃ v, v = (((t.moveParked g k).1.onRecord n fun x =>
            { x with credit := x.credit - frameCost (s.slotLength k), charged := bumpBy x.charged (frameCost (s.slotLength k)) }).onSau
              fun b => { b with pool := b.pool - frameCost (s.slotLength k) }).countSau fun c =>
                { c with framesReleased := bump c.framesReleased } := ⟨_, rfl⟩
        have hvsends : t.Sends v g.gateway [k] [] := by rw [hv]; exact ((hmoved.onCt _).onSau _).onSau _
        have hvsau : v.sau = { t.sau with
            pool := t.sau.pool - frameCost (s.slotLength k)
            counts := { t.sau.counts with framesReleased := bump t.sau.counts.framesReleased } } := by
          rw [hv, ← hsau]
          rfl
        have hvrecord : ∀ j, v.record j = if j = n then some { r with
            credit := r.credit - frameCost (s.slotLength k), charged := bumpBy r.charged (frameCost (s.slotLength k)) }
            else t.record j := by
          intro j
          rw [hv]
          refine ((t.moveParked g k).1.onRecord_record n j _).trans ?_
          rw [State.record_eq_of_ct hct, hr]
          rfl
        rw [← hv]
        clear hv
        obtain ⟨hkept, hrest, hrecord, hrestSau⟩ := ih (hsends.trans hvsends) ((hvrecord n).trans (if_pos rfl)) fun j hj => by
          have hjl := hlive j (List.mem_cons_of_mem _ hj)
          rw [List.count_cons] at hjl
          rw [List.append_nil]
          omega
        rw [hvsends.room, hroom, List.length_singleton, Nat.add_sub_cancel, hvsau] at hkept hrest hrecord hrestSau
        refine ⟨hkept, ?_, fun j => ?_, ?_⟩
        · simpa using hrest
        · rw [hrecord, hvrecord]
          split
          · simp [Record.charges, bumpBy_bumpBy]
          · rfl
        · rw [hrestSau]
          simp [bump_eq_bumpBy, bumpBy_bumpBy, Nat.add_comm]
    · have hstops : r.credit < frameCost (s.slotLength k) ∨ t.sau.pool < frameCost (s.slotLength k) := by omega
      rw [if_neg hpays, if_pos hstops]
      refine ⟨rfl, by simpa using hsends, fun m => ?_, by simp [bumpBy_zero]⟩
      split
      · next hm => rw [hm, hr]; simp [Record.charges, bumpBy_zero]
      · rfl

/-- A turn drops frames that were parked, each at most once. -/
theorem turn_refused_count {cost : Nat → Nat} (room credit pool : Nat) (l : List Nat) (k : Nat) :
    (turn cost room credit pool l).refused.count k ≤ l.count k := by
  induction l generalizing room credit pool with
  | nil => simp [turn]
  | cons j rest ih =>
    unfold turn
    split
    · simp
    · split
      · dsimp only
        rw [List.count_cons, List.count_cons]
        exact Nat.add_le_add_right (ih _ _ _) _
      · dsimp only
        rw [List.count_cons]
        exact (ih _ _ _).trans (Nat.le_add_right _ _)

/-! ### The turns, one after the other -/

/-- A record's turn, whatever its class. -/
def State.takeTurn (s : State) (g : Grant) (n : Nat) : State :=
  match s.record n with
  | none => s
  | some r => s.releaseRecord g r.cls n

/-- What a turn leaves of a part. -/
theorem State.takeTurn_turn {s t : State} {g : Grant} {n : Nat} {r : Record} {joined refused : List Nat}
    (hsends : s.Sends t g.gateway joined refused) (hr : t.record n = some r)
    (hlive : ∀ k ∈ r.parked, refused.count k + r.parked.count k ≤ s.refsOf k) :
    let cost := fun k => frameCost (s.slotLength k)
    let o := turn cost (t.backboneRoom g.gateway) r.credit t.sau.pool r.parked
    let u := t.takeTurn g n
    s.Sends u g.gateway (joined ++ o.released) (refused ++ o.refused)
      ∧ (∀ m, u.record m = if m = n then some { r.charges cost o with parked := o.kept } else t.record m)
      ∧ u.sau = { t.sau with
          pool := o.pool
          waiting := t.sau.waiting.filter (fun m => !(n == m && o.kept.isEmpty))
          counts := { t.sau.counts with
            framesReleased := bumpBy t.sau.counts.framesReleased o.released.length
            gatewayFullDrops := bumpBy t.sau.counts.gatewayFullDrops o.refused.length } } := by
  dsimp only
  obtain ⟨hkept, hsent, hrecord, hsau⟩ := State.releaseFrames_turn r.parked hsends hr hlive
  unfold State.takeTurn State.releaseRecord
  rw [hr]
  dsimp only
  rw [if_pos rfl]
  generalize t.releaseFrames g n r.parked = o at *
  generalize turn (fun k => frameCost (s.slotLength k)) (t.backboneRoom g.gateway) r.credit t.sau.pool r.parked = T at *
  obtain ⟨v, left⟩ := o
  dsimp only at *
  subst hkept
  have hread : ∀ m, (v.onRecord n fun x => { x with parked := T.kept }).record m = if m = n then
      some { r.charges (fun k => frameCost (s.slotLength k)) T with parked := T.kept } else t.record m := by
    intro m
    rw [State.onRecord_record, hrecord, hrecord, if_pos rfl]
    split
    · rfl
    · rfl
  have hon := hsent.onCt fun b => { b with records := b.records.modify n fun x => { x with parked := T.kept } }
  cases hempty : T.kept.isEmpty with
  | true =>
    rw [if_pos rfl]
    refine ⟨hon.onSau _, hread, ?_⟩
    change { v.sau with waiting := v.sau.waiting.filter fun m => m != n } = _
    rw [hsau]
    simp [bne, Bool.beq_comm]
  | false =>
    rw [if_neg Bool.false_ne_true]
    refine ⟨hon, hread, ?_⟩
    change v.sau = _
    rw [hsau]
    simp

/-- The turns of records one after the other (R90): the room and the pool that one leaves are what the next one finds. -/
theorem State.takeTurns_turns {s t : State} {g : Grant} {credit : Nat → Nat} {parked : Nat → List Nat} {joined refused : List Nat}
    (ns : List Nat) (hnodup : ns.Nodup) (hsends : s.Sends t g.gateway joined refused)
    (hrecords : ∀ n ∈ ns, ∃ r, t.record n = some r ∧ r.credit = credit n ∧ r.parked = parked n)
    (hlive : ∀ k, refused.count k + (ns.flatMap parked).count k ≤ s.refsOf k) :
    let cost := fun k => frameCost (s.slotLength k)
    let ts := turns cost credit parked (t.backboneRoom g.gateway) t.sau.pool ns
    let u := ns.foldl (fun v n => v.takeTurn g n) t
    s.Sends u g.gateway (joined ++ ts.flatMap fun e => e.2.released) (refused ++ ts.flatMap fun e => e.2.refused)
      ∧ (∀ m, m ∉ ns → u.record m = t.record m)
      ∧ (∀ e ∈ ts, ∀ r, t.record e.1 = some r → u.record e.1 = some { r.charges cost e.2 with parked := e.2.kept })
      ∧ u.sau = { t.sau with
          pool := (ts.getLast?.map fun e => e.2.pool).getD t.sau.pool
          waiting := t.sau.waiting.filter (fun m => !ts.any fun e => e.1 == m && e.2.kept.isEmpty)
          counts := { t.sau.counts with
            framesReleased := bumpBy t.sau.counts.framesReleased (ts.map fun e => e.2.released.length).sum
            gatewayFullDrops := bumpBy t.sau.counts.gatewayFullDrops (ts.map fun e => e.2.refused.length).sum } }
      ∧ ts.map Prod.fst = ns := by
  dsimp only
  induction ns generalizing t joined refused with
  | nil =>
    refine ⟨by simpa [turns] using hsends, fun _ _ => rfl, nofun, ?_, rfl⟩
    simp [turns, bumpBy_zero]
  | cons n rest ih =>
    obtain ⟨hnew, hrestNodup⟩ := List.nodup_cons.1 hnodup
    obtain ⟨r, hr, hrcredit, hrparked⟩ := hrecords n List.mem_cons_self
    simp only [List.flatMap_cons, List.count_append] at hlive
    obtain ⟨hsent, hrecord, hsau⟩ := State.takeTurn_turn hsends hr fun k _ => by
      have := hlive k
      rw [hrparked]
      omega
    rw [hrcredit, hrparked] at hsent hrecord hsau
    rw [List.foldl_cons]
    unfold turns
    dsimp only
    have hroom : (t.takeTurn g n).backboneRoom g.gateway
        = t.backboneRoom g.gateway - (turn (fun k => frameCost (s.slotLength k)) (t.backboneRoom g.gateway) (credit n) t.sau.pool
          (parked n)).released.length := by
      rw [hsent.room, hsends.room, List.length_append, Nat.sub_add_eq]
    have hrefused := turn_refused_count (cost := fun k => frameCost (s.slotLength k)) (t.backboneRoom g.gateway) (credit n) t.sau.pool
      (parked n)
    generalize turn (fun k => frameCost (s.slotLength k)) (t.backboneRoom g.gateway) (credit n) t.sau.pool (parked n) = T at *
    generalize t.takeTurn g n = v at *
    obtain ⟨hrest, hout, hin, hrestSau, hmap⟩ := ih hrestNodup hsent (fun m hm => by
      obtain ⟨q, hq, hqcredit, hqparked⟩ := hrecords m (List.mem_cons_of_mem _ hm)
      exact ⟨q, (hrecord m).trans ((if_neg (fun h : m = n => hnew (h ▸ hm))).trans hq), hqcredit, hqparked⟩) fun k => by
        have h1 := hlive k
        have h2 := hrefused k
        rw [List.count_append]
        omega
    have hvpool : v.sau.pool = T.pool := by rw [hsau]
    rw [hroom, hvpool] at hrest hin hrestSau hmap
    generalize turns (fun k => frameCost (s.slotLength k)) credit parked (t.backboneRoom g.gateway - T.released.length) T.pool rest
      = ts at *
    refine ⟨?_, fun m hm => ?_, fun e he q hq => ?_, ?_, ?_⟩
    · simpa [List.append_assoc] using hrest
    · rw [hout m fun h => hm (List.mem_cons_of_mem _ h), hrecord, if_neg (fun h : m = n => hm (h ▸ List.mem_cons_self))]
    · rcases List.mem_cons.1 he with rfl | he
      · obtain rfl : r = q := Option.some.inj (hr.symm.trans hq)
        rw [hout n hnew, hrecord, if_pos rfl]
      · have hmem : e.1 ∈ rest := by rw [← hmap]; exact List.mem_map_of_mem he
        exact hin e he q ((hrecord e.1).trans ((if_neg (fun h : e.1 = n => hnew (h ▸ hmem))).trans hq))
    · rw [hrestSau, hsau]
      have hlast : (((n, T) :: ts).getLast?.map fun e : Nat × Turn => e.2.pool).getD t.sau.pool
          = (ts.getLast?.map fun e => e.2.pool).getD T.pool := by
        cases ts with
        | nil => rfl
        | cons e rest => rw [List.getLast?_cons_cons, List.getLast?_eq_some_getLast (List.cons_ne_nil _ _)]; rfl
      simp [hlast, bumpBy_bumpBy, List.filter_filter, Bool.and_comm]
    · rw [List.map_cons, hmap]

/-! ### The order of the turns -/

/-- Record `n` is in use, of a class. -/
def State.isOf (s : State) (cls : Class) (n : Nat) : Bool := (s.record n).any fun r => r.cls == cls

theorem State.isOf_of_classes {s t : State} {n : Nat} (h : (t.record n).map Record.cls = (s.record n).map Record.cls) (cls : Class) :
    t.isOf cls n = s.isOf cls n := by
  have hmap : ∀ u : State, u.isOf cls n = ((u.record n).map Record.cls).any fun c => c == cls := fun u => by
    unfold State.isOf
    cases u.record n <;> rfl
  rw [hmap, hmap, h]

theorem State.moveParked_ct (s : State) (g : Grant) (k : Nat) :
    (s.moveParked g k).1.ct = s.ct ∧ (s.moveParked g k).1.sau.waiting = s.sau.waiting := by
  by_cases h : s.backboneRoom g.gateway = 0
  · obtain ⟨_, _, hsau, hct⟩ := s.moveParked_refused h k
    exact ⟨hct, by rw [hsau]⟩
  · obtain ⟨_, _, hsau, hct⟩ := s.moveParked_joins h k
    exact ⟨hct, by rw [hsau]⟩

/-- Releasing frames changes no class and keeps the Waiting List. -/
theorem State.releaseFrames_classes (g : Grant) (n : Nat) (l : List Nat) (s : State) :
    (∀ m, ((s.releaseFrames g n l).1.record m).map Record.cls = (s.record m).map Record.cls)
      ∧ (s.releaseFrames g n l).1.sau.waiting = s.sau.waiting := by
  induction l generalizing s with
  | nil => exact ⟨fun _ => rfl, rfl⟩
  | cons k rest ih =>
    obtain ⟨hct, hwaiting⟩ := s.moveParked_ct g k
    have hrecord := State.record_eq_of_ct hct
    unfold State.releaseFrames
    dsimp only
    split
    · split
      · obtain ⟨hclasses, hlist⟩ := ih ((((s.moveParked g k).1.onRecord n fun x =>
          { x with credit := x.credit - frameCost (s.slotLength k), charged := bumpBy x.charged (frameCost (s.slotLength k)) }).onSau
            fun b => { b with pool := b.pool - frameCost (s.slotLength k) }).countSau fun c =>
              { c with framesReleased := bump c.framesReleased })
        refine ⟨fun m => (hclasses m).trans ?_, hlist.trans hwaiting⟩
        have hread := (s.moveParked g k).1.onRecord_record n m fun x =>
          { x with credit := x.credit - frameCost (s.slotLength k), charged := bumpBy x.charged (frameCost (s.slotLength k)) }
        refine (congrArg (Option.map Record.cls) hread).trans ?_
        rw [hrecord]
        split
        · next hm => rw [hm]; cases s.record n <;> rfl
        · rfl
      · obtain ⟨hclasses, hlist⟩ := ih (s.moveParked g k).1
        exact ⟨fun m => (hclasses m).trans (by rw [hrecord]), hlist.trans hwaiting⟩
    · exact ⟨fun _ => rfl, rfl⟩

/-- A turn changes no class, and only its record may leave the Waiting List. -/
structure State.TurnTaken (s t : State) (ns : List Nat) : Prop where
  classes : ∀ m, (t.record m).map Record.cls = (s.record m).map Record.cls
  waiting : ∃ p : Nat → Bool, t.sau.waiting = s.sau.waiting.filter p ∧ ∀ m, m ∉ ns → p m = true

theorem State.TurnTaken.trans {s t u : State} {ns ms : List Nat} (h : s.TurnTaken t ns) (h' : t.TurnTaken u ms) :
    s.TurnTaken u (ns ++ ms) where
  classes m := (h'.classes m).trans (h.classes m)
  waiting := by
    obtain ⟨p, hp, hns⟩ := h.waiting
    obtain ⟨q, hq, hms⟩ := h'.waiting
    refine ⟨fun m => p m && q m, by rw [hq, hp, List.filter_filter]; simp [Bool.and_comm], fun m hm => ?_⟩
    rw [List.mem_append, not_or] at hm
    simp [hns m hm.1, hms m hm.2]

theorem State.TurnTaken.refl (s : State) (ns : List Nat) : s.TurnTaken s ns where
  classes _ := rfl
  waiting := ⟨fun _ => true, by simp, fun _ _ => rfl⟩

theorem State.releaseRecord_taken (s : State) (g : Grant) (cls : Class) (n : Nat) : s.TurnTaken (s.releaseRecord g cls n) [n] := by
  unfold State.releaseRecord
  split
  · exact .refl s _
  · next r hr =>
    split
    · obtain ⟨hclasses, hwaiting⟩ := State.releaseFrames_classes g n r.parked s
      dsimp only
      generalize s.releaseFrames g n r.parked = o at *
      have hread : ∀ m, ((o.1.onRecord n fun x => { x with parked := o.2 }).record m).map Record.cls = (s.record m).map Record.cls := by
        intro m
        rw [← hclasses, State.onRecord_record]
        split
        · next hm => rw [hm]; cases o.1.record n <;> rfl
        · rfl
      split
      · refine ⟨hread, fun m => m != n, ?_, fun m hm => by simpa using hm⟩
        change o.1.sau.waiting.filter _ = _
        rw [hwaiting]
      · exact ⟨hread, fun _ => true, hwaiting.trans (by simp), fun _ _ => rfl⟩
    · exact .refl s _

theorem State.takeTurn_taken (s : State) (g : Grant) (n : Nat) : s.TurnTaken (s.takeTurn g n) [n] := by
  unfold State.takeTurn
  split
  · exact .refl s _
  · exact s.releaseRecord_taken g _ n

theorem State.takeTurns_taken (g : Grant) (ns : List Nat) (s : State) : s.TurnTaken (ns.foldl (fun u n => u.takeTurn g n) s) ns := by
  induction ns generalizing s with
  | nil => exact .refl s []
  | cons n rest ih => exact (s.takeTurn_taken g n).trans (ih _)

/-- A sweep over the Waiting List is the turns of the records of its class. -/
theorem State.sweep_eq (g : Grant) (cls : Class) (ws : List Nat) (s : State) :
    ws.foldl (fun u n => u.releaseRecord g cls n) s = (ws.filter (s.isOf cls)).foldl (fun u n => u.takeTurn g n) s := by
  induction ws generalizing s with
  | nil => rfl
  | cons n rest ih =>
    have hclasses := (s.releaseRecord_taken g cls n).classes
    rw [List.foldl_cons, ih, List.filter_cons,
      List.filter_congr fun m _ => State.isOf_of_classes (s := s) (hclasses m) cls]
    cases hof : s.isOf cls n with
    | true =>
      obtain ⟨r, hr, hcls⟩ : ∃ r, s.record n = some r ∧ (r.cls == cls) = true := by
        unfold State.isOf at hof
        cases hr : s.record n with
        | none => rw [hr] at hof; cases hof
        | some r => exact ⟨r, rfl, by rwa [hr] at hof⟩
      have hturn : s.takeTurn g n = s.releaseRecord g cls n := by
        unfold State.takeTurn
        rw [hr]
        dsimp only
        rw [beq_iff_eq.1 hcls]
      rw [if_pos rfl, List.foldl_cons, hturn]
    | false =>
      have hskip : s.releaseRecord g cls n = s := by
        unfold State.releaseRecord
        cases hr : s.record n with
        | none => rfl
        | some r =>
          refine if_neg fun hcls => ?_
          unfold State.isOf at hof
          rw [hr, Option.any_some, hcls] at hof
          simp at hof
      rw [if_neg Bool.false_ne_true, hskip]

/-- The sweeps, one class after the other. -/
theorem State.sweeps_eq (s : State) (g : Grant) (cs : List Class) (hcs : cs.Nodup) :
    cs.foldl (fun t cls => t.sau.waiting.foldl (fun u n => u.releaseRecord g cls n) t) s
      = (cs.flatMap fun cls => s.sau.waiting.filter (s.isOf cls)).foldl (fun u n => u.takeTurn g n) s := by
  induction cs generalizing s with
  | nil => rfl
  | cons c rest ih =>
    obtain ⟨hnew, hrest⟩ := List.nodup_cons.1 hcs
    rw [List.foldl_cons, State.sweep_eq, ih _ hrest, List.flatMap_cons, List.foldl_append]
    obtain ⟨hclasses, p, hp, hothers⟩ := State.takeTurns_taken g (s.sau.waiting.filter (s.isOf c)) s
    generalize (s.sau.waiting.filter (s.isOf c)).foldl (fun u n => u.takeTurn g n) s = t at *
    congr 1
    refine List.flatMap_congr fun cls hcls => ?_
    rw [hp, List.filter_filter]
    refine List.filter_congr fun m _ => ?_
    rw [State.isOf_of_classes (hclasses m)]
    cases hof : s.isOf cls m with
    | false => rfl
    | true =>
      rw [hothers m fun hm => ?_]
      · rfl
      · have hc := (List.mem_filter.1 hm).2
        unfold State.isOf at hof hc
        cases hr : s.record m with
        | none => rw [hr] at hc; cases hc
        | some r =>
          rw [hr, Option.any_some, beq_iff_eq] at hof hc
          exact hnew (hc ▸ hof ▸ hcls)

/-- The release pass is the turns in the order of the Waiting List, class by class (R90). -/
theorem State.releasePass_eq (s : State) (g : Grant) :
    s.releasePass g = s.turnOrder.foldl (fun u n => u.takeTurn g n) s :=
  s.sweeps_eq g _ (by decide)

end Sys2Proof.Machine
end

section
/-! PROOFS. The refill (O38). -/

namespace Sys2Proof.Machine

/-- The sum of a measure over some of the records of a table is at most the sum over all. -/
theorem Table.sum_le_total {α : Type} (f : α → Nat) {t : Table α} (hw : t.wf = true) {ns : List Nat} (hnodup : ns.Nodup) :
    (ns.map fun n => ((t.get n).map f).getD 0).sum ≤ t.total f := by
  induction ns generalizing t with
  | nil => simp
  | cons n rest ih =>
    obtain ⟨hnew, hrest⟩ := List.nodup_cons.1 hnodup
    rw [List.map_cons, List.sum_cons]
    cases hn : t.get n with
    | none =>
      have := ih hw hrest
      simpa using this
    | some v =>
      have hdel := Table.total_del f hw hn
      have hsame : (rest.map fun m => (((t.del n).get m).map f).getD 0) = rest.map fun m => ((t.get m).map f).getD 0 :=
        List.map_congr_left fun m hm => by
          rw [Table.get_del, if_neg (fun h : m = n => hnew (h ▸ hm))]
      have hle := ih (Table.del_wf t n hw) hrest
      rw [hsame] at hle
      simp only [Option.map_some, Option.getD_some]
      omega

section Refill

/-- A part whose refill begins: the grant in force, the pool filled and every credit set (R89). -/
def State.refilling (s : State) (g : Grant) : State :=
  (s.onSau fun b => { b with state := .granted g none, pool := g.pool }).setCredits g.allowance

/-- A part whose refill ends, after the release pass (R89). -/
def State.refilled (s : State) (g : Grant) (pend : Option Grant) : State :=
  ((if s.sau.overShareMark then s.raise .overShare else s).onSau fun b => { b with overShareMark := false, refill := some g.period }).countSau
    fun c => { c with refills := bump c.refills, pendingTaken := if pend.isSome then bump c.pendingTaken else c.pendingTaken }

theorem State.doRefill_eq (s : State) (inForce : Grant) (pend : Option Grant) : s.doRefill inForce pend
    = ((s.refilling (pend.getD inForce)).releasePass (pend.getD inForce)).refilled (pend.getD inForce) pend := rfl

variable {s : State} {g : Grant}

theorem State.refilling_record (s : State) (g : Grant) (n : Nat) :
    (s.refilling g).record n = (s.record n).map fun r => { r with credit := g.allowance r.cls } :=
  (s.onSau fun b => { b with state := .granted g none, pool := g.pool }).setCredits_record g.allowance n

/-- What the end of a refill leaves of the part after the pass. -/
theorem State.refilled_ends (v : State) (g : Grant) (pend : Option Grant) :
    let u := v.refilled g pend
    u.sau = { v.sau with
        overShareMark := false
        refill := some g.period
        counts := { v.sau.counts with
          refills := bump v.sau.counts.refills
          pendingTaken := if pend.isSome then bump v.sau.counts.pendingTaken else v.sau.counts.pendingTaken } }
      ∧ u.raised .overShare = (if v.sau.overShareMark then bump (v.raised .overShare) else v.raised .overShare)
      ∧ u.ct = v.ct ∧ u.fs = v.fs ∧ v.onlyChanges u [.sau, .me] := by
  dsimp only
  unfold State.refilled
  split
  · exact ⟨rfl, v.raised_raise_same _, rfl, rfl, by simp [State.onlyChanges_iff]⟩
  · exact ⟨rfl, rfl, rfl, rfl, by simp [State.onlyChanges_iff]⟩

/-- The order of the turns is read of the Waiting List and the classes of its records. -/
theorem State.turnOrder_congr {s t : State} (hwaiting : t.sau.waiting = s.sau.waiting)
    (hclasses : ∀ n, (t.record n).map Record.cls = (s.record n).map Record.cls) : t.turnOrder = s.turnOrder := by
  unfold State.turnOrder
  rw [hwaiting]
  refine List.flatMap_congr fun cls _ => List.filter_congr fun n _ => ?_
  exact State.isOf_of_classes (hclasses n) cls

theorem State.refilling_turnOrder (s : State) (g : Grant) : (s.refilling g).turnOrder = s.turnOrder :=
  State.turnOrder_congr rfl fun n => by
    rw [State.refilling_record, Option.map_map]
    rfl

/-- The frames of the records whose turns come are still in their slots (R30). -/
theorem State.turnOrder_live {s : State} (hw : s.ct.records.wf = true) (hrefs : RefInv s) (hnodup : s.turnOrder.Nodup) (k : Nat) :
    (s.turnOrder.flatMap fun n => ((s.record n).map Record.parked).getD []).count k ≤ s.refsOf k := by
  obtain ⟨hbalance, _⟩ := hrefs
  have hsum := Table.sum_le_total (fun r : Record => r.st.hold.count k + r.parked.count k) hw hnodup
  have htotal : s.ct.records.total (fun r : Record => r.st.hold.count k + r.parked.count k) ≤ s.references k :=
    Nat.le_add_left _ _
  rw [hbalance k]
  refine le_trans ?_ (hsum.trans htotal)
  rw [List.count_flatMap]
  refine List.sum_le_sum fun n _ => ?_
  change ((s.record n).map Record.parked |>.getD []).count k ≤ ((s.record n).map fun r => r.st.hold.count k + r.parked.count k).getD 0
  cases s.record n with
  | none => simp
  | some r => simp

/-- No record has two turns. -/
theorem State.turnOrder_nodup {s : State} (h : s.sau.waiting.Nodup) : s.turnOrder.Nodup := by
  unfold State.turnOrder
  refine List.nodup_flatMap.2 ⟨fun cls _ => h.filter _, ?_⟩
  have hapart : ∀ c d : Class, c ≠ d → List.Disjoint (s.sau.waiting.filter (s.isOf c)) (s.sau.waiting.filter (s.isOf d)) := by
    intro c d hcd n hc hd
    have hc' := (List.mem_filter.1 hc).2
    have hd' := (List.mem_filter.1 hd).2
    unfold State.isOf at hc' hd'
    cases hr : s.record n with
    | none => rw [hr] at hc'; cases hc'
    | some r =>
      rw [hr, Option.any_some, beq_iff_eq] at hc' hd'
      exact hcd (hc'.symm.trans hd')
  exact List.Pairwise.imp (fun {c d} => hapart c d) (by decide : [Class.premium, .standard, .basic].Pairwise (· ≠ ·))

theorem State.turnOrder_record {s : State} {n : Nat} (h : n ∈ s.turnOrder) : ∃ r, s.record n = some r := by
  obtain ⟨cls, _, hn⟩ := List.mem_flatMap.1 h
  have hany := (List.mem_filter.1 hn).2
  cases hr : s.record n with
  | none => rw [hr] at hany; cases hany
  | some r => exact ⟨r, rfl⟩

end Refill

end Sys2Proof.Machine

namespace Sys2Proof.Proofs

open Sys2Proof.Machine

/-- Settles O38: the pass is the turns in their order, `takeTurns_turns`, and the rest of the refill is read off `refilled_ends`. -/
theorem refillGivesAllowances : Obligations.RefillGivesAllowances := by
  intro s inForce pend hline hgranted hdue
  dsimp only
  generalize hg : pend.getD inForce = g
  have hreaches : ∀ v, (s.beginEvent.refilling g).releasePass g = v → reaches .refill s (v.refilled g pend) := by
    rintro v rfl
    refine reaches_eventWhen rfl hline (by rw [hdue]; rfl) ?_
    have hexpiry : s.beginEvent.refillExpiry = s.beginEvent.doRefill inForce pend := by
      unfold State.refillExpiry
      rw [show s.beginEvent.sau.state = _ from hgranted]
    rw [hexpiry, State.doRefill_eq, hg]
  have hbrecord := s.beginEvent.refilling_record g
  have hbsau : (s.beginEvent.refilling g).sau = { s.sau with state := .granted g none, pool := g.pool } := rfl
  have hbonly : s.onlyChanges (s.beginEvent.refilling g) [.ct, .sau] := by simp [State.onlyChanges_iff, State.refilling]
  have hbfs : (s.beginEvent.refilling g).fs = s.fs := rfl
  have hbme : (s.beginEvent.refilling g).me = s.me := rfl
  have hbroom : (s.beginEvent.refilling g).backboneRoom g.gateway = s.backboneRoom g.gateway :=
    State.backboneRoom_congr rfl (by rw [State.queue_eq_of_fs hbfs])
  have hborder : (s.beginEvent.refilling g).turnOrder = s.turnOrder := s.beginEvent.refilling_turnOrder g
  have hbcost : (s.beginEvent.refilling g).slotLength = s.slotLength := rfl
  have hpass := (s.beginEvent.refilling g).releasePass_eq g
  rw [hborder] at hpass
  generalize s.beginEvent.refilling g = b at *
  have hfinish : ∀ v : State, v.me = b.me → (∃ w c1 c2 p, v.sau = { b.sau with
      waiting := w, pool := p, counts := { b.sau.counts with framesReleased := c1, gatewayFullDrops := c2 } }) →
      (v.refilled g pend).sau.state = .granted g none ∧ (v.refilled g pend).sau.refill = some g.period
      ∧ (v.refilled g pend).sau.overShareMark = false
      ∧ (v.refilled g pend).raised .overShare = (if s.sau.overShareMark then bump (s.raised .overShare) else s.raised .overShare)
      ∧ (v.refilled g pend).sau.counts.refills = bump s.sau.counts.refills
      ∧ (v.refilled g pend).sau.counts.pendingTaken
          = (if pend.isSome then bump s.sau.counts.pendingTaken else s.sau.counts.pendingTaken) := by
    rintro v hme ⟨w, c1, c2, p, hsau⟩
    obtain ⟨hend, hraised, _⟩ := v.refilled_ends g pend
    rw [State.raised_eq_of_me (hme.trans hbme), hsau, hbsau] at hraised
    rw [hend, hsau, hbsau]
    exact ⟨rfl, rfl, rfl, hraised, rfl, rfl⟩
  refine ⟨fun hnone => ?_, fun hinv hwaits hrefs => ?_, fun n r k hwaiting hr hparked hcls hcredit hpool happend => ?_⟩
  · have horder : s.turnOrder = [] := by simp [State.turnOrder, hnone]
    rw [horder] at hpass
    obtain ⟨hend, _, hct, hfs, honly⟩ := b.refilled_ends g pend
    refine ⟨_, hreaches b hpass, hfinish b rfl ⟨b.sau.waiting, _, _, _, rfl⟩, ?_, fun m => ?_, ?_⟩
    · rw [hend, hbsau]
    · rw [State.record_eq_of_ct hct]
      exact hbrecord m
    · exact (hbonly.mono (by simp)).trans (honly.mono (by simp))
  · obtain ⟨hnodup, _⟩ := hwaits
    have horderNodup := State.turnOrder_nodup hnodup
    obtain ⟨hsends, hout, hin, hsau, hmap⟩ := State.takeTurns_turns (s := b) (t := b) (g := g) (joined := []) (refused := [])
      (credit := fun n => ((s.record n).map fun r => g.allowance r.cls).getD 0)
      (parked := fun n => ((s.record n).map Record.parked).getD []) s.turnOrder horderNodup (State.Sends.refl b g.gateway)
      (fun n hn => by
        obtain ⟨r, hr⟩ := State.turnOrder_record hn
        refine ⟨{ r with credit := g.allowance r.cls }, ?_, ?_, ?_⟩
        · rw [hbrecord, show s.beginEvent.record n = some r from hr]
          rfl
        · rw [hr]; rfl
        · rw [hr]; rfl)
      (fun k => by
        have hlive := State.turnOrder_live hinv.records.1 hrefs horderNodup k
        rw [State.refsOf_eq_of_slots (s := s) (by rw [hbfs]), List.count_nil]
        omega)
    have hts : turns (fun k => frameCost (b.slotLength k)) (fun n => ((s.record n).map fun r => g.allowance r.cls).getD 0)
        (fun n => ((s.record n).map Record.parked).getD []) (b.backboneRoom g.gateway) b.sau.pool s.turnOrder = s.refillTurns g := by
      rw [hbcost, hbroom, hbsau]
      rfl
    rw [hts] at hsends hin hsau hmap
    rw [← hpass] at hsends hout hin hsau
    generalize b.releasePass g = v at *
    generalize s.refillTurns g = ts at *
    obtain ⟨hend, _, hct, hfs, honly⟩ := v.refilled_ends g pend
    have hqueue := State.queue_eq_of_fs hfs
    have hbqueue : b.queue = s.queue := State.queue_eq_of_fs hbfs
    refine ⟨_, hreaches v rfl, hfinish v hsends.me ⟨_, _, _, _, hsau⟩, ?_, fun e r he hr => ?_, fun m hm => ?_, ?_, ?_,
      fun q hq => ?_, ?_, ?_, fun k => ?_, ?_⟩
    · rw [hend, hsau, hbsau]
    · have hrb : b.record e.1 = some { r with credit := g.allowance r.cls } := by
        rw [hbrecord, show s.beginEvent.record e.1 = some r from hr]
        rfl
      rw [State.record_eq_of_ct hct, hin e he _ hrb, hbcost]
      rfl
    · rw [hmap] at hm
      rw [State.record_eq_of_ct hct, hout m hm]
      exact hbrecord m
    · rw [hend, hsau, hbsau]
    · rw [hqueue, hsends.entries, hbqueue, List.nil_append]
    · rw [hqueue, hsends.queues q hq, hbqueue]
    · rw [hend, hsau, hbsau]
    · rw [hend, hsau, hbsau]
    · rw [State.refsOf_eq_of_slots (s := v) (by rw [hfs]), hsends.refs, State.refsOf_eq_of_slots (s := s) (by rw [hbfs]),
        List.nil_append, List.count_flatMap]
      rfl
    · refine (hbonly.mono (by simp)).trans (State.onlyChanges.trans ?_ (honly.mono (by simp)))
      exact hsends.onlyChanges.mono (by simp)
  · have horder : s.turnOrder = [n] := by
      unfold State.turnOrder
      rw [hwaiting]
      cases hc : r.cls with
      | service => exact absurd hc hcls
      | _ => simp [hr, hc]
    have hrb : b.record n = some { r with credit := g.allowance r.cls } := by
      rw [hbrecord, show s.beginEvent.record n = some r from hr]
      rfl
    have hfits : frameCost (b.slotLength k) ≤ g.allowance r.cls ∧ frameCost (b.slotLength k) ≤ b.sau.pool := by
      rw [hbcost, hbsau]
      exact ⟨hcredit, hpool⟩
    obtain ⟨hjoins, hsends, hsau, hct⟩ := b.moveParked_joins (g := g) (by rw [hbroom]; exact (s.appendTest_backbone _).1 happend) k
    obtain ⟨w, hw⟩ : ∃ w, w = (((b.moveParked g k).1.onRecord n fun x => { x with
        credit := x.credit - frameCost (b.slotLength k), charged := bumpBy x.charged (frameCost (b.slotLength k)) }).onSau fun c =>
        { c with pool := c.pool - frameCost (b.slotLength k) }).countSau fun c =>
        { c with framesReleased := bump c.framesReleased } := ⟨_, rfl⟩
    have hframes : b.releaseFrames g n [k] = (w, []) := by
      unfold State.releaseFrames
      rw [hrb]
      dsimp only [Option.map_some, Option.getD_some]
      rw [if_pos hfits, if_pos hjoins, hw]
      rfl
    have hpassed : b.releasePass g = (w.onRecord n fun x => { x with parked := [] }).leaveWaiting n := by
      rw [hpass, horder, List.foldl_cons, List.foldl_nil]
      unfold State.takeTurn State.releaseRecord
      rw [hrb]
      dsimp only
      rw [if_pos rfl, hparked, hframes]
      rfl
    have hwsends : b.Sends w g.gateway [k] [] := by rw [hw]; exact ((hsends.onCt _).onSau _).onSau _
    have hwsau : w.sau = { b.sau with
        pool := b.sau.pool - frameCost (b.slotLength k)
        counts := { b.sau.counts with framesReleased := bump b.sau.counts.framesReleased } } := by
      rw [hw, ← hsau]
      rfl
    have hwrecord : w.record n = some { r with
        credit := g.allowance r.cls - frameCost (b.slotLength k), charged := bumpBy r.charged (frameCost (b.slotLength k)) } := by
      rw [hw]
      refine ((b.moveParked g k).1.onRecord_record n n _).trans ?_
      rw [if_pos rfl, State.record_eq_of_ct hct, hrb]
      rfl
    obtain ⟨v, hv⟩ : ∃ v, v = (w.onRecord n fun x => { x with parked := [] }).leaveWaiting n := ⟨_, rfl⟩
    have hvsends : b.Sends v g.gateway [k] [] := by rw [hv]; exact (hwsends.onCt _).onSau _
    have hvsau : v.sau = { b.sau with
        waiting := []
        pool := b.sau.pool - frameCost (b.slotLength k)
        counts := { b.sau.counts with framesReleased := bump b.sau.counts.framesReleased } } := by
      rw [hv]
      change { w.sau with waiting := w.sau.waiting.filter fun m => m != n } = _
      rw [hwsau, hbsau, hwaiting]
      simp
    have hvrecord : v.record n = some { r with
        credit := g.allowance r.cls - frameCost (b.slotLength k), parked := []
        charged := bumpBy r.charged (frameCost (b.slotLength k)) } := by
      rw [hv]
      refine (w.onRecord_record n n _).trans ?_
      rw [if_pos rfl, hwrecord]
      rfl
    rw [← hv] at hpassed
    rw [hbcost] at hvsau hvrecord
    clear hv hw hframes
    obtain ⟨hend, _, hctEnd, hfs, honly⟩ := v.refilled_ends g pend
    have hqueue := State.queue_eq_of_fs hfs
    have hbqueue : b.queue = s.queue := State.queue_eq_of_fs hbfs
    refine ⟨_, hreaches v hpassed, hfinish v hvsends.me ⟨_, _, b.sau.counts.gatewayFullDrops, _, hvsau⟩, ?_, ?_, ?_,
      ⟨?_, fun q hq => ?_⟩, ?_, ?_, ?_⟩
    · rw [hend, hvsau]
    · rw [hend, hvsau, hbsau]
    · rw [State.record_eq_of_ct hctEnd, hvrecord]
    · rw [hqueue, hvsends.entries, hbqueue]
      rfl
    · rw [hqueue, hvsends.queues q hq, hbqueue]
    · rw [hfs, hvsends.slots rfl, hbfs]
    · rw [hend, hvsau, hbsau]
    · refine (hbonly.mono (by simp)).trans (State.onlyChanges.trans ?_ (honly.mono (by simp)))
      exact hvsends.onlyChanges.mono (by simp)

end Sys2Proof.Proofs
end

section
/-! PROOFS. The lamp settings (O52). -/

namespace Sys2Proof.Machine

/-! ### What the sweep leaves of the settings -/

/-- What stands for the seats but for the lamps that are resolved and commanded. -/
def Seat.unlamped (x : Seat) : Seat := { x.uncommanded with resolved := {} }

/-- The sweep resolves and commands lamps and leaves everything else of the Seat Port block, and the Coupling Unit. -/
theorem State.sweepLamp_settings (s : State) (p : SeatNo) : (s.sweepLamp p).spb.rules = s.spb.rules
    ∧ (s.sweepLamp p).spb.brightness = s.spb.brightness ∧ (s.sweepLamp p).cu = s.cu
    ∧ ∀ q, ((s.sweepLamp p).seat q).unlamped = (s.seat q).unlamped := by
  obtain ⟨_, _, _, _, hrules, hbright, _⟩ := s.lampResolved_keeps p
  have hcu : (s.lampResolved p).cu = s.cu := by
    unfold State.lampResolved
    split <;> rfl
  have hseat : ∀ q, ((s.lampResolved p).seat q).unlamped = (s.seat q).unlamped := fun q => by
    rw [State.lampResolved_seat]
    split
    · next hq => rw [hq]; rfl
    · rfl
  rw [State.sweepLamp_eq]
  split
  · have htold : (s.lampResolved p).Told ((s.lampResolved p).sendControl (.seat p) (.lamp (s.resolveLamp p))) (.seat p) :=
      .sendControl _ _ _
    refine ⟨htold.lamps.1.trans hrules, htold.lamps.2.1.trans hbright, (htold.cu (by simp)).trans hcu, fun q => ?_⟩
    rw [← hseat q]
    exact congrArg (fun x : Seat => { x with resolved := {} }) (htold.seat q)
  · exact ⟨hrules, hbright, hcu, hseat⟩

theorem State.sweepLamps_settings (s : State) : s.sweepLamps.spb.rules = s.spb.rules
    ∧ s.sweepLamps.spb.brightness = s.spb.brightness ∧ s.sweepLamps.cu = s.cu
    ∧ ∀ q, (s.sweepLamps.seat q).unlamped = (s.seat q).unlamped := by
  have h := foldl_keeps (fun t : State => (t.spb.rules, t.spb.brightness, t.cu, fun q => (t.seat q).unlamped))
    (f := fun (t : State) p => t.sweepLamp p) (fun t p => by
      obtain ⟨hrules, hbright, hcu, hseat⟩ := t.sweepLamp_settings p
      simp only [Prod.mk.injEq]
      exact ⟨hrules, hbright, hcu, funext hseat⟩) allSeats (b := s) rfl
  have hsweep : s.sweepLamps = (allSeats.foldl (fun t p => t.sweepLamp p) s).onEv fun e => { e with relamp := [] } := rfl
  rw [hsweep]
  generalize allSeats.foldl (fun t p => t.sweepLamp p) s = v at h
  simp only [Prod.mk.injEq] at h
  obtain ⟨hrules, hbright, hcu, hseat⟩ := h
  exact ⟨hrules, hbright, hcu, congrFun hseat⟩

/-! ### The parts applied -/

/-- The forces of a request, each on its own seat (R136). -/
theorem State.setForces_seat (forces : List (SeatNo × Force)) (hnodup : (forces.map Prod.fst).Nodup) (s : State) (p : SeatNo) :
    (forces.foldl (fun t e => t.onSeat e.1 fun x => { x with force := e.2 }) s).seat p
      = { s.seat p with force := ((forces.find? fun e => e.1 == p).map Prod.snd).getD (s.seat p).force } := by
  induction forces generalizing s with
  | nil => rfl
  | cons e rest ih =>
    rw [List.map_cons] at hnodup
    obtain ⟨hnew, hrest⟩ := List.nodup_cons.1 hnodup
    rw [List.foldl_cons, ih hrest, State.seat_onSeat, List.find?_cons]
    by_cases hp : p = e.1
    · have hnone : rest.find? (fun d => d.1 == p) = none := by
        refine List.find?_eq_none.2 fun d hd hdp => hnew ?_
        rw [← hp, ← beq_iff_eq.1 hdp]
        exact List.mem_map_of_mem hd
      rw [if_pos hp, hnone, hp, beq_self_eq_true]
      rfl
    · rw [if_neg hp, beq_eq_false_iff_ne.2 (Ne.symm hp)]

theorem State.applyLamp_keeps (s : State) (rules : Option LampRules) (brightness : Option Nat) (forces : List (SeatNo × Force)) :
    (s.applyLamp rules brightness forces).spb.rules = rules.getD s.spb.rules
    ∧ (s.applyLamp rules brightness forces).spb.brightness = brightness.getD s.spb.brightness
    ∧ (s.applyLamp rules brightness forces).trunk = s.trunk ∧ (s.applyLamp rules brightness forces).cu = s.cu
    ∧ (s.applyLamp rules brightness forces).ct = s.ct ∧ (s.applyLamp rules brightness forces).ev = s.ev
    ∧ s.onlyChanges (s.applyLamp rules brightness forces) [.spb] := by
  have h := foldl_keeps
    (fun t : State => (t.spb.rules, t.spb.brightness, t.trunk, t.cu, t.ct, t.ev, t.mc, t.sau, t.el, t.fs, t.clb, t.me, t.sl))
    (f := fun (t : State) (e : SeatNo × Force) => t.onSeat e.1 fun x => { x with force := e.2 }) (fun _ _ => rfl) forces
    (b := s.onSpb fun b => { b with rules := rules.getD b.rules, brightness := brightness.getD b.brightness }) rfl
  have hrest := foldl_keeps (fun t : State => (t.memory, t.pending, t.resetLine))
    (f := fun (t : State) (e : SeatNo × Force) => t.onSeat e.1 fun x => { x with force := e.2 }) (fun _ _ => rfl) forces
    (b := s.onSpb fun b => { b with rules := rules.getD b.rules, brightness := brightness.getD b.brightness }) rfl
  simp only [Prod.mk.injEq] at h hrest
  obtain ⟨hrules, hbright, htrunk, hcu, hct, hev, hmc, hsau, hel, hfs, hclb, hme, hsl⟩ := h
  obtain ⟨hmemory, hpending, hline⟩ := hrest
  exact ⟨hrules, hbright, htrunk, hcu, hct, hev, State.onlyChanges_iff.2 ⟨fun _ => hct, fun _ => hmc, fun _ => hsau, fun _ => hel,
    fun _ => hfs, fun hb => absurd (by simp) hb, fun _ => hclb, fun _ => hcu, fun _ => hme, fun _ => hsl, fun _ => hmemory, hpending,
    hline⟩⟩

theorem State.applyLamp_seat {s : State} {forces : List (SeatNo × Force)} (hnodup : (forces.map Prod.fst).Nodup)
    (rules : Option LampRules) (brightness : Option Nat) (p : SeatNo) : (s.applyLamp rules brightness forces).seat p
      = { s.seat p with force := ((forces.find? fun e => e.1 == p).map Prod.snd).getD (s.seat p).force } :=
  State.setForces_seat forces hnodup _ p

/-- The parts of a SET_LAMP carried out (R136): what they make of the lamps, and the commands that follow. -/
theorem State.applyLamp_sweeps {t : State} {r : Option LampRules} {b : Option Nat} {f : List (SeatNo × Force)}
    (hnodup : (f.map Prod.fst).Nodup) (hrelamp : t.ev.relamp = []) :
    let u := (t.applyLamp r b f).sweepLamps
    let changed := fun (p : SeatNo) => (t.trunk (trunkOf p)).state == .present && u.resolveLamp p != (t.seat p).resolved
    (t.applyLamp r b f).lampsDue = allSeats.countP changed ∧ (∀ p, changed p = true → lampMade u p (u.resolveLamp p))
      ∧ u.spb.rules = r.getD t.spb.rules ∧ u.spb.brightness = b.getD t.spb.brightness
      ∧ (∀ p, (u.seat p).force = ((f.find? fun e => e.1 == p).map Prod.snd).getD (t.seat p).force)
      ∧ (∀ p, (u.seat p).resolved = u.resolveLamp p) ∧ (∀ p, (u.seat p).up = (t.seat p).up)
      ∧ t.onlyChanges u [.spb, .fs] ∧ u.ev.responses = t.ev.responses := by
  dsimp only
  obtain ⟨hrules, hbright, htrunk, hcu, hct, hev, honly⟩ := t.applyLamp_keeps r b f
  have hseat := State.applyLamp_seat (s := t) hnodup r b
  generalize t.applyLamp r b f = w at *
  obtain ⟨hrulesU, hbrightU, hcuU, hseatU⟩ := w.sweepLamps_settings
  have hswept := State.foldl_sweepLamp allSeats (numbers_nodup 64) w
  have hsweep : w.sweepLamps = (allSeats.foldl (fun t p => t.sweepLamp p) w).onEv fun e => { e with relamp := [] } := rfl
  obtain ⟨hpending, _, hline, hmemory, hctU, hmc, hsau, hel, hclb, hme, hsl⟩ := w.sweepLamps_keeps
  have honlyU : w.onlyChanges w.sweepLamps [.spb, .fs] := State.onlyChanges_iff.2 ⟨fun _ => hctU, fun _ => hmc, fun _ => hsau,
    fun _ => hel, fun hb => absurd (by simp) hb, fun hb => absurd (by simp) hb, fun _ => hclb, fun _ => hcuU, fun _ => hme,
    fun _ => hsl, fun _ => hmemory, hpending, hline⟩
  rw [hsweep] at hrulesU hbrightU hseatU honlyU ⊢
  clear hsweep hcuU hpending hline hmemory hctU hmc hsau hel hclb hme hsl
  generalize allSeats.foldl (fun t p => t.sweepLamp p) w = v at *
  have hresolve : ∀ p, (v.onEv fun e => { e with relamp := [] }).resolveLamp p = w.resolveLamp p := hswept.resolve
  have hdue : ∀ p, w.lampDue p = ((t.trunk (trunkOf p)).state == .present
      && (v.onEv fun e => { e with relamp := [] }).resolveLamp p != (t.seat p).resolved) := by
    intro p
    rw [State.lampDue, htrunk, hev, hrelamp, hresolve, hseat p]
    simp
  refine ⟨List.countP_congr fun p _ => by rw [hdue p], fun p hp => ?_, hrulesU.trans hrules, hbrightU.trans hbright, fun p => ?_,
    fun p => ?_, fun p => ?_, (honly.mono (by simp)).trans honlyU, ?_⟩
  · rw [hresolve]
    exact hswept.made p (mem_numbers p) ((hdue p).trans hp)
  · have hforce := congrArg Seat.force (hseatU p)
    have hforceW := congrArg Seat.force (hseat p)
    exact hforce.trans hforceW
  · rw [hresolve]
    exact hswept.resolved p (mem_numbers p)
  · have hup := congrArg Seat.up (hseatU p)
    have hupW := congrArg Seat.up (hseat p)
    exact hup.trans hupW
  · rw [← hev]
    have hlog := congrArg EventLog.responses hswept.spoken.log
    exact hlog

/-! ### The request -/

theorem readPart_isNone {α β : Type} {f : α → Option β} {a : Option α} {b : Option β} (h : readPart f a = some b) :
    b.isNone = a.isNone := by
  cases a with
  | none => rw [← Option.some.inj (h : some none = some b)]; rfl
  | some a =>
    unfold readPart at h
    obtain ⟨c, _, rfl⟩ := Option.map_eq_some_iff.1 h
    rfl

section SetLamp

variable {t : State} {rules : Option RawRules} {brightness : Option Byte} {forces : Option (List (Byte × Byte))}

theorem State.doSetLamp_accepted {r : Option LampRules} {b : Option Nat} {f : Option (List (SeatNo × Force))}
    (hr : readPart rulesOf rules = some r) (hb : readPart brightnessOf brightness = some b) (hf : readPart forcesOf forces = some f)
    (hsome : r.isSome ∨ b.isSome ∨ f.isSome) (hne : f ≠ some []) (hnodup : ((f.getD []).map Prod.fst).Nodup) :
    t.doSetLamp 0 rules brightness forces
      = (t.applyLamp r b (f.getD [])).sweepLamps.accept [natByte (t.applyLamp r b (f.getD [])).lampsDue] := by
  unfold State.doSetLamp
  rw [hr, hb, hf]
  dsimp only
  rw [if_neg]
  rintro (h | ⟨h1, h2, h3⟩ | h | h)
  · exact h rfl
  · rw [Option.isNone_iff_eq_none] at h1 h2 h3
    subst h1 h2 h3
    simp at hsome
  · exact hne h
  · exact h hnodup

theorem State.doSetLamp_refused
    (h : readPart rulesOf rules = none ∨ readPart brightnessOf brightness = none ∨ readPart forcesOf forces = none
        ∨ forces = some [] ∨ (rules = none ∧ brightness = none ∧ forces = none)
        ∨ (∃ f, readPart forcesOf forces = some (some f) ∧ ¬ (f.map Prod.fst).Nodup)) :
    t.doSetLamp 0 rules brightness forces = t.refuse .badArgument := by
  unfold State.doSetLamp
  split
  · next r b f hr hb hf =>
    refine if_pos ?_
    rcases h with h | h | h | h | ⟨h1, h2, h3⟩ | ⟨f', hf', hdup⟩
    · rw [h] at hr; cases hr
    · rw [h] at hb; cases hb
    · rw [h] at hf; cases hf
    · rw [h] at hf
      exact Or.inr (Or.inr (Or.inl (Option.some.inj hf).symm))
    · exact Or.inr (Or.inl ⟨by rw [readPart_isNone hr, h1]; rfl, by rw [readPart_isNone hb, h2]; rfl, by rw [readPart_isNone hf, h3]; rfl⟩)
    · rw [hf'] at hf
      obtain rfl := Option.some.inj hf
      exact Or.inr (Or.inr (Or.inr hdup))
  · rfl

end SetLamp

end Sys2Proof.Machine

namespace Sys2Proof.Proofs

open Sys2Proof.Machine

/-- Settles O52: the parts are applied, and then the lamps are swept (`applyLamp_sweeps`). -/
theorem lampSettings : Obligations.LampSettings := by
  intro s h rules brightness forces hs hcab hformat
  dsimp only
  refine ⟨fun r b f hr hb hf hsome hne hnodup => ?_, fun hbad => ?_⟩
  · obtain ⟨t, ht, hserved⟩ := served_answered (q := .setLamp 0 rules brightness forces) hs hformat hcab rfl
    have hspb : t.spb = s.spb := State.Carried.spb ht
    have hseat := State.seat_eq_of_spb hspb
    obtain ⟨hdue, hmade, hrules, hbright, hforce, hresolved, hup, honly, hresponses⟩ :=
      State.applyLamp_sweeps (t := t) (r := r) (b := b) hnodup (State.Carried.relamp ht)
    have hperform : t.perform (returnOf h (.setLamp 0 rules brightness forces)) (.setLamp 0 rules brightness forces) = _ :=
      State.doSetLamp_accepted (t := t) hr hb hf hsome hne hnodup
    rw [State.trunk_eq_of_spb hspb, hseat] at hmade hdue
    rw [hdue] at hperform
    clear hdue
    generalize (t.applyLamp r b (f.getD [])).sweepLamps = w at *
    obtain ⟨v, rfl, hv, hanswers⟩ := hserved _ .ok _ hperform (hresponses.trans (by exact ht.responses)) nofun
    rw [hspb] at hrules hbright
    rw [hseat] at hforce hup
    refine ⟨_, hv, hrules, ⟨hanswers, hmade⟩, hbright, hforce, hresolved, hup, ?_⟩
    obtain ⟨hfirst, _⟩ := ht.requestOnly []
    exact (hfirst.mono (by simp)).trans ((honly.mono (by simp)).trans (State.respond_keeps _ _ _ _ _ _))
  · exact served_refused (q := .setLamp 0 rules brightness forces) hs hformat hcab rfl (fun t _ => State.doSetLamp_refused hbad) nofun

end Sys2Proof.Proofs
end

section
/-! SUPPORT. The layouts of the answers (R222, R223). -/

namespace Sys2Proof.Machine

theorem natByte_eq (n : Nat) : BitVec.ofNat 8 n = natByte n := rfl

/-- A field some way into a message, read of what follows. -/
theorem field_of_drop {bs rest : Bytes} {k : Nat} (h : bs.drop k = rest) (j n : Nat) : field bs (k + j) n = field rest j n := by
  rw [← h, field_drop]

theorem byteAt_of_drop {bs rest : Bytes} {k : Nat} (h : bs.drop k = rest) (j : Nat) : byteAt bs (k + j) = byteAt rest j := by
  rw [← h, byteAt_drop]

/-- What follows a part of known length. -/
theorem drop_part {bs a b : Bytes} {k m : Nat} (h : bs.drop k = a ++ b) (ha : a.length = m) : bs.drop (k + m) = b := by
  rw [← List.drop_drop, h, ← ha, List.drop_left]

/-! ### Client records (R222) -/

theorem placeBytes_length (pl : Option Place) : (placeBytes pl).length = 3 := by
  rcases pl with _ | ⟨p⟩ | ⟨c, a⟩ <;> rfl

theorem formerBytes_length (f : Option (LinkNo × AssocNo)) : (formerBytes f).length = 2 := by
  rcases f with _ | ⟨c, a⟩ <;> rfl

theorem recordBytes_length (n : Nat) (r : Record) : (recordBytes n r).length = 33 := by
  simp [recordBytes, beBytes_length, placeBytes_length, timeBytes_length, formerBytes_length]

/-- The fields of a client record, one after the other. -/
theorem recordBytes_fields (n : Nat) (r : Record) : let bs := recordBytes n r
    field bs 0 2 = beBytes 2 n ∧ field bs 2 6 = addrBytes r.addr ∧ byteAt bs 8 = r.st.code ∧ field bs 9 3 = placeBytes r.st.place
      ∧ byteAt bs 12 = r.cls.code ∧ field bs 13 4 = timeBytes r.st.time ∧ field bs 17 2 = formerBytes r.st.former
      ∧ field bs 19 2 = [0, 0] ∧ byteAt bs 21 = natByte r.st.hold.length ∧ field bs 22 2 = beBytes 2 r.credit
      ∧ byteAt bs 24 = natByte r.parked.length ∧ field bs 25 4 = wordBytes r.charged ∧ field bs 29 4 = wordBytes r.overShare := by
  dsimp only
  unfold recordBytes
  simp only [List.append_assoc]
  refine ⟨?_, ?_, ?_, ?_, ?_, ?_, ?_, ?_, ?_, ?_, ?_, ?_, ?_⟩ <;>
    simp [field_append_of_le, field_append_head, byteAt_append_of_le, field_all, beBytes_length, placeBytes_length, timeBytes_length,
      formerBytes_length]

/-! ### LIST_CLIENTS (R27) -/

/-- The records from a start on, and the 32 of them that an answer gives. -/
theorem listClientsBytes_layout (records : Table Record) (start : Nat) : let bs := listClientsBytes records start
    let above := records.filter fun e => decide (start ≤ e.1)
    byteAt bs 0 = natByte (min 32 above.length) ∧ bs.length = 3 + 33 * min 32 above.length
    ∧ (above.length ≤ 32 → field bs 1 2 = [0xFF, 0xFF])
    ∧ (∀ e, 32 < above.length → above[31]? = some e → field bs 1 2 = beBytes 2 (e.1 + 1))
    ∧ ∀ i e, i < 32 → above[i]? = some e → field bs (3 + 33 * i) 33 = recordBytes e.1 e.2 := by
  dsimp only
  unfold listClientsBytes
  dsimp only
  generalize records.filter (fun e => decide (start ≤ e.1)) = above
  have hlength := flatMap_length_const (f := fun e : Nat × Record => recordBytes e.1 e.2) (fun e => recordBytes_length e.1 e.2)
    (above.take 32)
  refine ⟨?_, ?_, fun hle => ?_, fun e hlt he => ?_, fun i e hi he => ?_⟩
  · rw [byteAt_cons_zero, List.length_take]
  · rw [List.length_cons, List.length_append, beBytes_length, hlength, List.length_take]
    omega
  · rw [field_cons_succ, field_append_head (beBytes_length _ _)]
    split
    · rw [if_pos hle]; rfl
    · rfl
  · rw [field_cons_succ, field_append_head (beBytes_length _ _), List.getLast?_take, if_neg (by decide), he]
    rw [Option.some_or]
    dsimp only
    rw [if_neg (by omega)]
  · obtain ⟨hlt, rfl⟩ := List.getElem?_eq_some_iff.1 he
    have hpage : i < (above.take 32).length := by rw [List.length_take]; omega
    rw [show 3 + 33 * i = (2 + 33 * i) + 1 by omega, field_cons_succ,
      field_append_of_le (by rw [beBytes_length]; omega), beBytes_length, Nat.add_sub_cancel_left]
    have hdrop := drop_flatMap_getElem (f := fun e : Nat × Record => recordBytes e.1 e.2) (fun e => recordBytes_length e.1 e.2) hpage
    have hfield := field_of_drop hdrop 0 33
    rw [Nat.add_zero] at hfield
    rw [hfield, field_append_head (recordBytes_length _ _), List.getElem_take]

/-! ### QUERY_CABINET (R206) -/

section Cabinet

variable (s : State)

theorem State.couplingItems_length : s.couplingItems.length = 11 := by simp [State.couplingItems, beBytes_length]
theorem State.storeItems_length : s.storeItems.length = 3 := by simp [State.storeItems, beBytes_length]
theorem State.lampItems_length : s.lampItems.length = 9 := by simp [State.lampItems, LampRules.bytes, beBytes_length]
theorem State.deferralItems_length : s.deferralItems.length = 3 := by simp [State.deferralItems, beBytes_length]
theorem State.loaderItems_length : s.loaderItems.length = 6 := rfl
theorem State.addressingItems_length : s.addressingItems.length = 20 := by simp [State.addressingItems]
theorem Station.bytes_length (st : Station) : st.bytes.length = 13 := by simp [Station.bytes, beBytes_length]

theorem State.stationItems_length : s.stationItems.length = 1 + 13 * s.me.stations.length := by
  rw [State.stationItems, List.length_cons, flatMap_length_const Station.bytes_length]
  omega

/-- Where each block's items stand. -/
theorem State.cabinetAnswer_drop : (∃ rest, s.cabinetAnswer = s.shareItems ++ rest) ∧ (∃ rest, s.cabinetAnswer.drop 40 = s.listItems ++ rest)
    ∧ (∃ rest, s.cabinetAnswer.drop 50 = s.storeItems ++ rest) ∧ (∃ rest, s.cabinetAnswer.drop 53 = s.couplingItems ++ rest)
    ∧ (∃ rest, s.cabinetAnswer.drop 64 = s.lampItems ++ rest) ∧ (∃ rest, s.cabinetAnswer.drop 73 = s.deferralItems ++ rest)
    ∧ (∃ rest, s.cabinetAnswer.drop 76 = s.loaderItems ++ rest) ∧ (∃ rest, s.cabinetAnswer.drop 82 = s.addressingItems ++ rest)
    ∧ (∃ rest, s.cabinetAnswer.drop 102 = s.me.levels.toList.map natByte ++ rest) ∧ s.cabinetAnswer.drop 113 = s.stationItems := by
  have hall : s.cabinetAnswer = s.shareItems ++ (s.listItems ++ (s.storeItems ++ (s.couplingItems ++ (s.lampItems ++ (s.deferralItems
      ++ (s.loaderItems ++ (s.addressingItems ++ (s.me.levels.toList.map natByte ++ s.stationItems)))))))) := by
    simp only [State.cabinetAnswer, List.append_assoc]
  have hlevels : (s.me.levels.toList.map natByte).length = 11 := by simp
  have h40 := drop_part (k := 0) hall s.shareItems_length
  have h50 := drop_part h40 s.listItems_length
  have h53 := drop_part h50 s.storeItems_length
  have h64 := drop_part h53 s.couplingItems_length
  have h73 := drop_part h64 s.lampItems_length
  have h76 := drop_part h73 s.deferralItems_length
  have h82 := drop_part h76 s.loaderItems_length
  have h102 := drop_part h82 s.addressingItems_length
  have h113 := drop_part h102 hlevels
  exact ⟨⟨_, hall⟩, ⟨_, h40⟩, ⟨_, h50⟩, ⟨_, h53⟩, ⟨_, h64⟩, ⟨_, h73⟩, ⟨_, h76⟩, ⟨_, h82⟩, ⟨_, h102⟩, h113⟩

/-- The answer to QUERY_CABINET, item by item (R206, R223). -/
theorem State.cabinetAnswer_layout : let bs := s.cabinetAnswer
    bs.length = 114 + 13 * s.me.stations.length
    ∧ (s.sau.state = .held → field bs 0 29 = List.replicate 29 0)
    ∧ (∀ g pend, s.sau.state = .granted g pend → byteAt bs 0 = 1 ∧ field bs 1 14 = grantBytes (some g)
        ∧ field bs 15 14 = grantBytes pend)
    ∧ field bs 29 4 = beBytes 4 s.sau.pool ∧ field bs 33 4 = timeBytes s.sau.refill
    ∧ byteAt bs 37 = boolByte s.sau.overShareMark ∧ field bs 38 2 = beBytes 2 s.sau.waiting.length := by
  obtain ⟨⟨rest, hall⟩, _, _, _, _, _, _, _, _, h113⟩ := s.cabinetAnswer_drop
  have hlength : s.cabinetAnswer.length = 114 + 13 * s.me.stations.length := by
    have hdrop := congrArg List.length h113
    rw [List.length_drop, State.stationItems_length] at hdrop
    omega
  refine ⟨hlength, ?_⟩
  rw [hall]
  have hitems : ∃ head, s.shareItems = head ++ (beBytes 4 s.sau.pool ++ (timeBytes s.sau.refill ++ ([boolByte s.sau.overShareMark]
        ++ beBytes 2 s.sau.waiting.length))) ∧ head.length = 29
      ∧ (s.sau.state = .held → head = List.replicate 29 0)
      ∧ ∀ g pend, s.sau.state = .granted g pend → head = 1 :: (grantBytes (some g) ++ grantBytes pend) := by
    unfold State.shareItems
    simp only [List.append_assoc]
    refine ⟨_, rfl, ?_, fun hheld => ?_, fun g pend hgranted => ?_⟩
    · split <;> simp [grantBytes_length]
    · rw [hheld]; rfl
    · rw [hgranted]
  obtain ⟨head, hshare, hhead, hheld, hgranted⟩ := hitems
  rw [hshare, List.append_assoc]
  refine ⟨fun h => ?_, fun g pend h => ?_, ?_, ?_, ?_, ?_⟩
  · rw [field_append_head hhead, hheld h]
  · rw [hgranted g pend h]
    simp [field_append_of_le, field_append_head, grantBytes_length]
  · simp [field_append_of_le, field_append_head, hhead, beBytes_length]
  · simp [field_append_of_le, field_append_head, hhead, beBytes_length, timeBytes_length]
  · simp [byteAt_append_of_le, hhead, beBytes_length, timeBytes_length]
  · simp [field_append_of_le, field_append_head, hhead, beBytes_length, timeBytes_length]

theorem State.coupledSetByte_eq : s.coupledSetByte = (if s.coupled .fore then 1 else 0) + (if s.coupled .aft then 2 else 0) := by
  unfold State.coupledSetByte
  cases s.coupled .fore <;> cases s.coupled .aft <;> rfl

/-- The other items of QUERY_CABINET, up to the Station Table. -/
theorem State.cabinetAnswer_items : let bs := s.cabinetAnswer
    field bs 40 2 = beBytes 2 s.el.entries.length ∧ field bs 46 4 = timeBytes s.el.minute
    ∧ field bs 50 2 = beBytes 2 s.freeSlots ∧ byteAt bs 52 = (if s.fs.mark = .armed then 0 else 1)
    ∧ byteAt bs 53 = (if s.coupled .fore then 1 else 0) + (if s.coupled .aft then 2 else 0)
    ∧ field bs 54 2 = halfBytes s.cu.epoch ∧ field bs 56 4 = beBytes 4 s.cu.vehicle
    ∧ field bs 60 4 = beBytes 4 s.cu.vehicleSetting ∧ field bs 64 6 = s.spb.rules.bytes
    ∧ byteAt bs 70 = natByte s.spb.brightness ∧ field bs 71 2 = beBytes 2 s.spb.blink
    ∧ byteAt bs 73 = natByte s.clb.deferrals.length ∧ field bs 74 2 = beBytes 2 s.clb.deferWindow
    ∧ byteAt bs 80 = s.sl.resetCause.code ∧ byteAt bs 81 = natByte s.sl.resetCount
    ∧ field bs 82 6 = addrBytes s.me.addressing.cabinet ∧ field bs 102 11 = s.me.levels.toList.map natByte
    ∧ byteAt bs 113 = natByte s.me.stations.length := by
  dsimp only
  obtain ⟨_, ⟨r40, h40⟩, ⟨r50, h50⟩, ⟨r53, h53⟩, ⟨r64, h64⟩, ⟨r73, h73⟩, ⟨r76, h76⟩, ⟨r82, h82⟩, ⟨r102, h102⟩, h113⟩ :=
    s.cabinetAnswer_drop
  have hrules : s.spb.rules.bytes.length = 6 := rfl
  have hlevels : (s.me.levels.toList.map natByte).length = 11 := by simp
  refine ⟨(field_of_drop h40 0 2).trans ?_, (field_of_drop h40 6 4).trans ?_, (field_of_drop h50 0 2).trans ?_,
    (byteAt_of_drop h50 2).trans ?_, (byteAt_of_drop h53 0).trans s.coupledSetByte_eq, (field_of_drop h53 1 2).trans ?_,
    (field_of_drop h53 3 4).trans ?_, (field_of_drop h53 7 4).trans ?_, (field_of_drop h64 0 6).trans ?_,
    (byteAt_of_drop h64 6).trans rfl, (field_of_drop h64 7 2).trans ?_, byteAt_of_drop h73 0, (field_of_drop h73 1 2).trans ?_,
    (byteAt_of_drop h76 4).trans rfl, (byteAt_of_drop h76 5).trans rfl, (field_of_drop h82 0 6).trans ?_,
    (field_of_drop h102 0 11).trans (field_append_head hlevels), byteAt_of_drop h113 0⟩
  · simp [State.listItems, field_append_head, beBytes_length]
  · simp [State.listItems, field_append_of_le, field_append_head, beBytes_length, timeBytes_length]
  · simp [State.storeItems, field_append_head, beBytes_length]
  · simp [State.storeItems, byteAt_append_of_le, beBytes_length]
  · simp [State.couplingItems, field_append_head]
  · simp [State.couplingItems, field_append_of_le, field_append_head, beBytes_length]
  · simp [State.couplingItems, field_append_of_le, field_append_head, beBytes_length]
  · simp only [State.lampItems, List.append_assoc]
    exact field_append_head hrules
  · simp [State.lampItems, field_append_of_le, field_append_head, hrules, beBytes_length]
  · simp [State.deferralItems, field_append_head, beBytes_length]
  · simp [State.addressingItems, field_append_head]

/-- The Station Table entries of QUERY_CABINET (R192, R223). -/
theorem State.cabinetAnswer_stations (i : Nat) (st : Station) (h : s.me.stations[i]? = some st) : let bs := s.cabinetAnswer
    field bs (114 + 13 * i) 6 = addrBytes st.addr
      ∧ byteAt bs (120 + 13 * i) = sideCode st.side ∧ byteAt bs (121 + 13 * i) = st.roles.code
      ∧ byteAt bs (122 + 13 * i) = natByte st.threshold ∧ field bs (123 + 13 * i) 2 = beBytes 2 (causeSetNat st.pending)
      ∧ field bs (125 + 13 * i) 2 = halfBytes st.epoch := by
  dsimp only
  obtain ⟨_, _, _, _, _, _, _, _, _, h113⟩ := s.cabinetAnswer_drop
  obtain ⟨hlt, rfl⟩ := List.getElem?_eq_some_iff.1 h
  have hdrop : s.cabinetAnswer.drop (114 + 13 * i) = (s.me.stations[i]).bytes ++ (s.me.stations.drop (i + 1)).flatMap Station.bytes := by
    rw [← drop_flatMap_getElem Station.bytes_length hlt, show 114 + 13 * i = 113 + (13 * i + 1) by omega, ← List.drop_drop, h113]
    rfl
  generalize (s.me.stations.drop (i + 1)).flatMap Station.bytes = rest at hdrop
  generalize s.me.stations[i] = st at hdrop
  have hf : ∀ j n, field s.cabinetAnswer (114 + j + 13 * i) n = field (st.bytes ++ rest) j n := fun j n => by
    rw [← field_of_drop hdrop, Nat.add_right_comm]
  have hb : ∀ j, byteAt s.cabinetAnswer (114 + j + 13 * i) = byteAt (st.bytes ++ rest) j := fun j => by
    rw [← byteAt_of_drop hdrop, Nat.add_right_comm]
  refine ⟨(hf 0 6).trans ?_, (hb 6).trans ?_, (hb 7).trans ?_, (hb 8).trans ?_, (hf 9 2).trans ?_, (hf 11 2).trans ?_⟩ <;>
    simp [Station.bytes, field_append_of_le, field_append_head, byteAt_append_of_le, beBytes_length]

end Cabinet

end Sys2Proof.Machine
end

section
/-! SUPPORT and PROOFS. The queries (O55). -/

namespace Sys2Proof.Machine

/-! ### Counter groups -/

section Groups

variable {s t : State} {group port : Byte}

/-- Whether a group exists is told by its number and its port (R207). -/
theorem State.counterGroup_isSome (s t : State) (group port : Byte) :
    (t.counterGroup group port).isSome = (s.counterGroup group port).isSome := by
  simp only [State.counterGroup, apply_ite Option.isSome, Option.isSome_map, Option.isSome_some, Option.isSome_none]

theorem State.counterGroup_engine (s : State) (port : Byte) :
    s.counterGroup 11 port = if port = 0 then some s.me.counts.list else none := rfl

theorem State.seatGroup_congr (hspb : t.spb = s.spb) (hqueue : ∀ p, t.queue (.seat p) = s.queue (.seat p)) : t.seatGroup = s.seatGroup := by
  funext p
  simp only [State.seatGroup, State.trunk_eq_of_spb hspb, State.seat_eq_of_spb hspb, hqueue]

theorem State.linkGroup_congr (hclb : t.clb = s.clb) (hqueue : ∀ c, t.queue (.ceiling c) = s.queue (.ceiling c)) :
    t.linkGroup = s.linkGroup := by
  funext c
  simp only [State.linkGroup, State.link_eq_of_clb hclb, hqueue]

theorem State.backboneGroup_congr (hcu : t.cu = s.cu) (hqueue : ∀ x, t.queue (.backbone x) = s.queue (.backbone x)) :
    t.backboneGroup = s.backboneGroup := by
  funext x
  simp only [State.backboneGroup, State.side_eq_of_cu hcu, hqueue]

/-- A group that a request's own frame does not count in reads as it stood before (R208). -/
theorem State.Taken.counterGroup {h : ReqHeader} (ht : s.Taken h t) (h11 : group ≠ 11)
    (hplain : h.dest = .cabinet ∨ (group ≠ 5 ∧ group ≠ 9)) : t.counterGroup group port = s.counterGroup group port := by
  have hqueues := Carried.queues ht
  have hseats := State.seatGroup_congr (Carried.spb ht) fun p => hqueues (.seat p) nofun
  have hlinks := State.linkGroup_congr (Carried.clb ht) fun c => hqueues (.ceiling c) nofun
  have hsides : group = 9 → t.backboneGroup = s.backboneGroup := fun h9 => by
    rcases hplain with hdest | ⟨_, hne⟩
    · exact State.backboneGroup_congr (Carried.cu ht) fun x => by rw [Carried.whole ht hdest]
    · exact absurd h9 hne
  unfold State.counterGroup
  rw [hseats, hlinks, (Carried.ct ht : t.ct = s.ct), (Carried.mc ht : t.mc = s.mc), (Carried.sau ht : t.sau = s.sau),
    (Carried.el ht : t.el = s.el), (Carried.counts ht : t.fs.counts = s.fs.counts), (Carried.clb ht : t.clb = s.clb),
    (Carried.cu ht : t.cu = s.cu), (Carried.sl ht : t.sl = s.sl)]
  by_cases h9 : group = 9
  · rw [hsides h9]
    simp only [h11, if_false]
  · simp only [h9, h11, if_false]

end Groups

/-! ### Counters cleared -/

theorem mapVector_mapVector {α : Type} {n : Nat} (v : Vector α n) {f : α → α} (hf : ∀ a, f (f a) = f a) :
    mapVector (mapVector v f) f = mapVector v f := by
  refine Vector.ext fun i hi => ?_
  simp [mapVector, hf]

/-- What clearing the counters leaves (R207). -/
theorem State.clearCounters_clears (s : State) : s.clearCounters.clearCounters = s.clearCounters
    ∧ s.clearCounters.clb.links.toList.map Link.profile = s.clb.links.toList.map Link.profile
    ∧ (∀ n, (s.clearCounters.record n).map Record.st = (s.record n).map Record.st) ∧ s.clearCounters.cu.epoch = s.cu.epoch
    ∧ s.clearCounters.sl = { s.sl with counts := {} } := by
  refine ⟨?_, ?_, fun n => ?_, rfl, rfl⟩
  · unfold State.clearCounters
    simp [mapVector_mapVector]
  · simp [State.clearCounters, mapVector]
  · have hread := Table.get_mapValues (fun r : Record => { r with charged := 0, overShare := 0 }) s.ct.records n
    have hrecord : s.clearCounters.record n = (s.record n).map fun r => { r with charged := 0, overShare := 0 } := hread
    rw [hrecord, Option.map_map]
    rfl

/-! ### The owners -/

theorem seatOf_eq_none {b : Byte} (h : 63 < b.toNat) : seatOf b = none := by
  unfold seatOf
  rw [dif_neg (by omega)]

section Owners

variable {t : State}

theorem State.doQueryPort_bad {kind port : Byte} (h : 1 < kind.toNat ∨ (kind = 0 ∧ 63 < port.toNat) ∨ (kind = 1 ∧ 1 < port.toNat)) :
    t.doQueryPort kind port = t.refuse .badArgument := by
  unfold State.doQueryPort
  rcases h with h | ⟨rfl, h⟩ | ⟨rfl, h⟩
  · rw [if_neg (fun e => by rw [e] at h; exact absurd h (by decide)), if_neg (fun e => by rw [e] at h; exact absurd h (by decide))]
  · rw [if_pos rfl, seatOf_eq_none h]
  · rw [if_neg (by decide), if_pos rfl, sideOf_eq_none h]

theorem State.doReadCounters_bad {group port clear : Byte} (h : t.counterGroup group port = none ∨ 1 < clear.toNat) :
    t.doReadCounters group port clear = t.refuse .badArgument := by
  unfold State.doReadCounters
  rcases h with h | h
  · rw [h]
  · rw [boolOf_eq_none h]
    cases t.counterGroup group port <;> rfl

theorem State.doReadCounters_read {group port : Byte} {cs : List Counter} (h : t.counterGroup group port = some cs) :
    t.doReadCounters group port 0 = t.accept (group :: port :: counterBytes cs)
    ∧ t.doReadCounters group port 1 = t.clearCounters.accept (group :: port :: counterBytes cs) := by
  unfold State.doReadCounters
  rw [h]
  exact ⟨rfl, rfl⟩

end Owners

end Sys2Proof.Machine

namespace Sys2Proof.Proofs

open Sys2Proof.Machine

/-- Settles O55: each layout is read part by part, and each query is answered from the part that the request finds. -/
theorem queriesAnswer : Obligations.QueriesAnswer := by
  unfold Obligations.QueriesAnswer
  refine ⟨fun n r => ?_, ⟨rfl, fun _ => rfl, fun cs => ?_⟩, fun s start => listClientsBytes_layout _ _, fun s => ?_, fun s h hs => ?_⟩
  · obtain ⟨hnumber, haddr, hstate, hplace, hcls, htime, hformer, hzero, hhold, hcredit, hparked, hcharged, hover⟩ := recordBytes_fields n r
    refine ⟨recordBytes_length n r, hnumber, haddr, fun pl t hst => ?_, fun pl f g t hold hst => ?_, fun t hst => ?_, fun p hp => ?_,
      fun c a hp => ?_, fun hp => ?_, hcls, hzero, hhold, hcredit, hparked, hcharged, hover⟩
    · rw [hst] at hstate htime hformer
      exact ⟨hstate, htime, hformer⟩
    · rw [hst] at hstate htime hformer
      exact ⟨hstate, htime, hformer⟩
    · rw [hst] at hstate htime hformer
      exact ⟨hstate, htime, hformer⟩
    · rw [hp] at hplace
      exact hplace
    · rw [hp] at hplace
      exact hplace
    · rw [hp] at hplace
      exact hplace
  · rw [counterBytes, flatMap_length_const wordBytes_length]
  · obtain ⟨hlength, hheld, hgranted, hpool, hrefill, hmark, hwaiting⟩ := s.cabinetAnswer_layout
    obtain ⟨h1, h2, h3, h4, h5, h6, h7, h8, h9, h10, h11, h12, h13, h14, h15, h16, h17, h18⟩ := s.cabinetAnswer_items
    exact ⟨hlength, hheld, hgranted, hpool, hrefill, hmark, hwaiting, h1, h2, h3, h4, h5, h6, h7, h8, h9, h10, h11, h12, h13, h14, h15,
      h16, h17, h18, fun i st hi => s.cabinetAnswer_stations i st hi⟩
  · have hrecord : ∀ {t}, s.Taken h t → t.record = s.record := fun ht => State.record_eq_of_ct (State.Carried.ct ht)
    have hby : ∀ {t}, s.Taken h t → t.byAddr = s.byAddr := fun ht => State.byAddr_congr (State.Carried.ct ht)
    have hnumber : ∀ n : Half, 511 < n.toNat → ∀ t : State, t.doQueryClient (.number n) = t.refuse .badArgument := fun n hn t => if_pos hn
    have hgroupSome : ∀ {t : State} {group port : Byte}, (s.counterGroup group port).isSome = true →
        t.counterGroup group port = some ((t.counterGroup group port).getD []) := fun {t group port} hg => by
      rw [State.counterGroup_isSome t] at hg
      obtain ⟨cs, hcs⟩ := Option.isSome_iff_exists.1 hg
      rw [hcs]
      rfl
    have hpermits : ∀ group port clear, clear ≠ 1 ∨ (s.rolesHeld h.station).cabinet = true →
        s.permits h.station (.readCounters group port clear) = true := fun group port clear hc =>
      Bool.or_eq_true_iff.2 (hc.imp (fun hc => bne_iff_ne.2 hc) id)
    refine ⟨?_, fun n r hn hr => ?_, fun n hn hr => ?_, fun n hn => ⟨?_, ?_⟩, fun x n r hx => ?_, fun x hx => ?_, fun n hn => ?_,
      fun port p hp => ?_, fun port side hside => ?_, fun kind port hbad => ?_, fun link c hc => ?_, fun link hc => ?_,
      fun group port clear hg hclear => ?_, fun group port clear hclear => ?_, fun group port cs hg => ?_,
      fun group port cs hg h11 hplain => ?_, fun group port hcab hsome => ?_⟩
    · exact served_told (q := .queryCabinet) (args := State.cabinetAnswer) hs rfl rfl rfl (fun _ _ => rfl)
        fun t r => t.cabinetAnswer_pushResponse r
    · refine served_told (q := .queryClient (.number n)) (args := fun _ => recordBytes n.toNat r) hs rfl rfl rfl (fun t ht => ?_)
        fun _ _ => rfl
      change t.doQueryClient (.number n) = _
      unfold State.doQueryClient
      dsimp only
      rw [if_neg (by omega), hrecord ht, hr]
    · refine served_refused (q := .queryClient (.number n)) hs rfl rfl rfl (fun t ht => ?_) (by simp)
      change t.doQueryClient (.number n) = _
      unfold State.doQueryClient
      dsimp only
      rw [if_neg (by omega), hrecord ht, hr]
    · exact served_refused (q := .queryClient (.number n)) hs rfl rfl rfl (fun t _ => hnumber n hn t) (by simp)
    · exact served_refused (q := .listClients n) hs rfl rfl rfl (fun t _ => if_pos hn) (by simp)
    · refine served_told (q := .queryClient (.address x)) (args := fun _ => recordBytes n r) hs rfl rfl rfl (fun t ht => ?_)
        fun _ _ => rfl
      change t.doQueryClient (.address x) = _
      unfold State.doQueryClient
      dsimp only
      rw [hby ht, show s.byAddr x = some (n, r) from hx]
    · refine served_refused (q := .queryClient (.address x)) hs rfl rfl rfl (fun t ht => ?_) (by simp)
      change t.doQueryClient (.address x) = _
      unfold State.doQueryClient
      dsimp only
      rw [hby ht, hx]
    · refine served_told (q := .listClients n) (args := fun _ => listClientsBytes s.ct.records n.toNat) hs rfl rfl rfl (fun t ht => ?_)
        fun _ _ => rfl
      change t.doListClients n = _
      unfold State.doListClients
      rw [if_neg (by omega), (State.Carried.ct ht : t.ct = s.ct)]
    · refine served_told (q := .queryPort 0 port) (args := fun u => u.seatAnswer p) hs rfl rfl rfl (fun t _ => ?_) fun _ _ => rfl
      change t.doQueryPort 0 port = _
      unfold State.doQueryPort
      rw [if_pos rfl, hp]
    · refine served_told (q := .queryPort 1 port) (args := fun u => u.backboneAnswer side) hs rfl rfl rfl (fun t _ => ?_) fun _ _ => rfl
      change t.doQueryPort 1 port = _
      unfold State.doQueryPort
      rw [if_neg (by decide), if_pos rfl, hside]
    · exact served_refused (q := .queryPort kind port) hs rfl rfl rfl (fun t _ => State.doQueryPort_bad hbad) (by simp)
    · refine served_told (q := .queryLink link) (args := fun u => u.linkAnswer c) hs rfl rfl rfl (fun t _ => ?_) fun _ _ => rfl
      change t.doQueryLink link = _
      unfold State.doQueryLink
      rw [hc]
    · refine served_refused (q := .queryLink link) hs rfl rfl rfl (fun t _ => ?_) (by simp)
      change t.doQueryLink link = _
      unfold State.doQueryLink
      rw [hc]
    · refine served_refused (q := .readCounters group port clear) hs rfl (hpermits _ _ _ hclear) rfl (fun t _ => ?_) (by simp)
      refine State.doReadCounters_bad (Or.inl ?_)
      rw [← Option.not_isSome_iff_eq_none, State.counterGroup_isSome s, hg]
      simp
    · exact served_refused (q := .readCounters group port clear) hs rfl
        (hpermits _ _ _ (Or.inl fun hc => by rw [hc] at hclear; exact absurd hclear (by decide))) rfl
        (fun t _ => State.doReadCounters_bad (Or.inr hclear)) (by simp)
    · exact served_told (q := .readCounters group port 0)
        (args := fun u => group :: port :: counterBytes ((u.counterGroup group port).getD [])) hs rfl
        (hpermits _ _ _ (Or.inl (by decide))) rfl
        (fun t _ => (State.doReadCounters_read (hgroupSome (by rw [hg]; rfl))).1) fun _ _ => rfl
    · exact served_told (q := .readCounters group port 0) (args := fun _ => group :: port :: counterBytes cs) hs rfl
        (hpermits _ _ _ (Or.inl (by decide))) rfl
        (fun t ht => (State.doReadCounters_read ((ht.counterGroup h11 hplain).trans hg)).1) fun _ _ => rfl
    · obtain ⟨t, ht, hserved⟩ := served_answered (q := .readCounters group port 1) hs rfl (hpermits _ _ _ (Or.inr hcab)) rfl
      have hread : ∀ cs, t.counterGroup group port = some cs → ∃ u, served s h (.readCounters group port 1) u
          ∧ u.answers h (.readCounters group port 1) .ok (group :: port :: counterBytes cs)
          ∧ u.clearCounters = u ∧ u.clb.links.toList.map Link.profile = s.clb.links.toList.map Link.profile
          ∧ (∀ n, (u.record n).map Record.st = (s.record n).map Record.st) ∧ u.cu.epoch = s.cu.epoch
          ∧ u.sl = { s.sl with counts := {} } := fun cs hcs => by
        have hperform : t.perform (returnOf h (.readCounters group port 1)) (.readCounters group port 1) = _ :=
          (State.doReadCounters_read hcs).2
        obtain ⟨hagain, hprofiles, hstates, hepoch, hsl⟩ := t.clearCounters_clears
        rw [(State.Carried.clb ht : t.clb = s.clb)] at hprofiles
        rw [hrecord ht] at hstates
        rw [(State.Carried.cu ht : t.cu = s.cu)] at hepoch
        rw [(State.Carried.sl ht : t.sl = s.sl)] at hsl
        have hresponses : t.clearCounters.ev.responses = [] := (State.Carried.responses ht : t.ev.responses = [])
        generalize t.clearCounters = v at *
        obtain ⟨u, rfl, hv, hanswers⟩ := hserved v .ok _ hperform hresponses nofun
        exact ⟨_, hv, hanswers, congrArg (fun w : State => w.respond _ _ _ _) hagain, hprofiles, hstates, hepoch, hsl⟩
      refine ⟨fun cs hcs h11 hplain => hread cs ((ht.counterGroup h11 hplain).trans hcs), fun h11 hmark => hread _ ?_⟩
      have hme : t.me = s.me.noted h.station h.side := by rw [State.Carried.me ht, State.engineAfterClaim_eq hmark]
      have hport : port = 0 := by
        rw [h11] at hsome
        by_contra hne
        rw [State.counterGroup_engine, if_neg hne] at hsome
        cases hsome
      rw [h11, State.counterGroup_engine, if_pos hport, hme]
      rfl

end Sys2Proof.Proofs
end

section
/-! SUPPORT. What the making of settings current writes, owner by owner, and what it leaves (R122, R152, R213, R215). -/

namespace Sys2Proof.Machine

/-! ### What a settings change leaves -/

/-- What stands while settings are given to their owners: clients may linger or complete their moves, queues are discarded, links
leave READY, and their exchanges are answered. -/
structure State.Rests (s t : State) : Prop where
  trunk : t.trunk = s.trunk
  el : t.el = s.el
  cu : t.cu = s.cu
  sl : t.sl = s.sl
  memory : t.memory = s.memory
  pending : t.pending = s.pending
  line : t.resetLine = s.resetLine
  raised : ∀ c, c ≠ .ceilingLinkLoss → t.raised c = s.raised c
  responses : s.ev.responses <+: t.ev.responses

/-- The same, with the current settings as they were. -/
structure State.Steady (s t : State) : Prop extends State.Rests s t where
  settings : t.settings = s.settings

theorem State.Rests.refl (s : State) : s.Rests s where
  trunk := rfl
  el := rfl
  cu := rfl
  sl := rfl
  memory := rfl
  pending := rfl
  line := rfl
  raised _ _ := rfl
  responses := List.prefix_refl _

theorem State.Rests.trans {s t u : State} (h : s.Rests t) (h' : t.Rests u) : s.Rests u where
  trunk := h'.trunk.trans h.trunk
  el := h'.el.trans h.el
  cu := h'.cu.trans h.cu
  sl := h'.sl.trans h.sl
  memory := h'.memory.trans h.memory
  pending := h'.pending.trans h.pending
  line := h'.line.trans h.line
  raised c hc := (h'.raised c hc).trans (h.raised c hc)
  responses := h.responses.trans h'.responses

theorem State.Rests.foldl {α : Type} {f : State → α → State} (h : ∀ (t : State) a, t.Rests (f t a)) (l : List α) (s : State) :
    s.Rests (l.foldl f s) := by
  induction l generalizing s with
  | nil => exact .refl s
  | cons a l ih => exact (h s a).trans (ih (f s a))

theorem State.Steady.refl (s : State) : s.Steady s := ⟨.refl s, rfl⟩

theorem State.Steady.trans {s t u : State} (h : s.Steady t) (h' : t.Steady u) : s.Steady u :=
  ⟨h.toRests.trans h'.toRests, h'.settings.trans h.settings⟩

theorem State.Steady.foldl {α : Type} {f : State → α → State} (h : ∀ (t : State) a, t.Steady (f t a)) (l : List α) (s : State) :
    s.Steady (l.foldl f s) := by
  induction l generalizing s with
  | nil => exact .refl s
  | cons a l ih => exact (h s a).trans (ih (f s a))

/-! ### The settings, part by part -/

/-- The settings are read of these parts (R216). -/
theorem State.settings_of_parts {s t : State} (hvehicle : t.cu.vehicleSetting = s.cu.vehicleSetting)
    (haddressing : t.me.addressing = s.me.addressing) (hlevels : t.me.levels = s.me.levels)
    (hseats : ∀ p, (t.seat p).profile = (s.seat p).profile) (hlinks : ∀ c, (t.link c).profile = (s.link c).profile)
    (hrules : t.spb.rules = s.spb.rules) (hbright : t.spb.brightness = s.spb.brightness)
    (hrelease : t.mc.releaseTimeout = s.mc.releaseTimeout) (hlinger : t.ct.lingerTime = s.ct.lingerTime)
    (hdefer : t.clb.deferWindow = s.clb.deferWindow) : t.settings = s.settings := by
  have hseatList : t.spb.seats.toList.map Seat.profile = s.spb.seats.toList.map Seat.profile :=
    List.ext_getElem (by simp) fun i hi _ => by
      have hp := hseats ⟨i, by simpa using hi⟩
      simpa [State.seat] using hp
  have hlinkList : t.clb.links.toList.map Link.profile = s.clb.links.toList.map Link.profile :=
    List.ext_getElem (by simp) fun i hi _ => by
      have hp := hlinks ⟨i, by simpa using hi⟩
      simpa [State.link] using hp
  simp only [State.settings, hvehicle, haddressing, hlevels, hseatList, hlinkList, hrules, hbright, hrelease, hlinger, hdefer]

theorem State.seat_profile_of_settings {s t : State} (h : t.settings = s.settings) (p : SeatNo) :
    (t.seat p).profile = (s.seat p).profile := by
  have hlist := congrArg (fun x : Settings => x.seats[p.val]?) h
  simpa [State.settings, State.seat] using hlist

theorem State.link_profile_of_settings {s t : State} (h : t.settings = s.settings) (c : LinkNo) :
    (t.link c).profile = (s.link c).profile := by
  have hlist := congrArg (fun x : Settings => x.links[c.val]?) h
  simpa [State.settings, State.link] using hlist

/-! ### Elementary operations -/

/-- An operation that keeps these blocks is steady. -/
theorem State.Steady.of_blocks {s t : State} (hspb : t.spb = s.spb) (hclb : t.clb = s.clb) (hcu : t.cu = s.cu) (hme : t.me = s.me)
    (hel : t.el = s.el) (hsl : t.sl = s.sl) (hmemory : t.memory = s.memory) (hpending : t.pending = s.pending)
    (hline : t.resetLine = s.resetLine) (hresponses : t.ev.responses = s.ev.responses)
    (hrelease : t.mc.releaseTimeout = s.mc.releaseTimeout) (hlinger : t.ct.lingerTime = s.ct.lingerTime) : s.Steady t where
  trunk := State.trunk_eq_of_spb hspb
  el := hel
  cu := hcu
  sl := hsl
  memory := hmemory
  pending := hpending
  line := hline
  raised c _ := congrFun (State.raised_eq_of_me hme) c
  responses := by rw [hresponses]
  settings := State.settings_of_parts (by rw [hcu]) (by rw [hme]) (by rw [hme]) (fun p => by rw [State.seat_eq_of_spb hspb])
    (fun c => by rw [State.link_eq_of_clb hclb]) (by rw [hspb]) (by rw [hspb]) hrelease hlinger (by rw [hclb])

section Elementary

variable (s : State)

theorem State.Steady.onRecord (n : Nat) (f : Record → Record) : s.Steady (s.onRecord n f) :=
  .of_blocks rfl rfl rfl rfl rfl rfl rfl rfl rfl rfl rfl rfl

theorem State.Steady.countMc (f : McCounters → McCounters) : s.Steady (s.countMc f) :=
  .of_blocks rfl rfl rfl rfl rfl rfl rfl rfl rfl rfl rfl rfl

theorem State.Steady.attach (n : Nat) (pl : Place) : s.Steady (s.attach n pl) := State.Steady.onRecord s n _

theorem State.Steady.dropRef (k : Nat) : s.Steady (s.dropRef k) :=
  .of_blocks (by simp) (by simp) (by simp) (by simp) (by simp) (by simp) (by simp) (by simp) (by simp) (s.dropRef_composed k).2.2.1
    (by simp) (by simp)

theorem State.Steady.discardParked (parked : List Nat) : s.Steady (s.discardParked parked) :=
  .of_blocks (by simp) (by simp) (by simp) (by simp) (by simp) (by simp) (by simp) (by simp) (by simp) (s.discardParked_log parked).1
    (by simp) (by simp)

theorem State.Steady.clearParked (n : Nat) : s.Steady (s.clearParked n) := by
  unfold State.clearParked
  split
  · exact .refl s
  · next r _ =>
    exact (State.Steady.discardParked s r.parked).trans
      (.of_blocks rfl rfl rfl rfl rfl rfl rfl rfl rfl rfl rfl rfl)

theorem State.Steady.discardHold (hold : List Nat) : s.Steady (s.discardHold hold) :=
  .of_blocks (by simp) (by simp) (by simp) (by simp) (by simp) (by simp) (by simp) (by simp) (by simp) (s.discardHold_log hold).1
    (by rw [State.discardHold_mc]) (by simp)

/-- The change of a seat that keeps its profile. -/
theorem State.Steady.onSeat (p : SeatNo) {f : Seat → Seat} (hf : ∀ x, (f x).profile = x.profile) : s.Steady (s.onSeat p f) where
  trunk := funext (s.trunk_onSeat p f)
  el := rfl
  cu := rfl
  sl := rfl
  memory := rfl
  pending := rfl
  line := rfl
  raised _ _ := rfl
  responses := List.prefix_refl _
  settings := State.settings_of_parts rfl rfl rfl
    (fun q => by
      rw [State.seat_onSeat]
      split
      · exact hf _
      · rfl)
    (fun _ => rfl) rfl rfl rfl rfl rfl

/-- The change of a link that keeps its profile. -/
theorem State.Steady.onLink (c : LinkNo) {f : Link → Link} (hf : ∀ x, (f x).profile = x.profile) : s.Steady (s.onLink c f) where
  trunk := rfl
  el := rfl
  cu := rfl
  sl := rfl
  memory := rfl
  pending := rfl
  line := rfl
  raised _ _ := rfl
  responses := List.prefix_refl _
  settings := State.settings_of_parts rfl rfl rfl (fun _ => rfl)
    (fun d => by
      rw [State.link_onLink]
      split
      · exact hf _
      · rfl)
    rfl rfl rfl rfl rfl

/-- The discarding of a client-side queue. -/
theorem State.Steady.discardQueue {port : Port} (hport : ∀ x, port ≠ .backbone x) : s.Steady (s.discardQueue port) where
  trunk := (State.Told.discardQueue s port).trunk
  el := by simp
  cu := (State.Told.discardQueue s port).cu hport
  sl := by simp
  memory := by simp
  pending := by simp
  line := by simp
  raised c _ := congrFun (State.raised_eq_of_me (by simp)) c
  responses := by rw [(s.discardQueue_log port).2.2.1]
  settings := by
    have htold := State.Told.discardQueue s port
    refine State.settings_of_parts (by rw [htold.cu hport]) (by simp) (by simp) htold.profile (fun c => ?_) htold.lamps.1 htold.lamps.2.1
      (by simp) (by simp) (by simp)
    rw [State.link_eq_of_clb htold.clb]

theorem State.Steady.leaveSeat (pl : Option Place) : s.Steady (s.leaveSeat pl) := by
  unfold State.leaveSeat
  split
  · exact State.Steady.discardQueue s (by simp)
  · exact .refl s

theorem State.Steady.enterLingering (n : Nat) : s.Steady (s.enterLingering n) := by
  unfold State.enterLingering
  split
  · exact .refl s
  · split
    · exact .refl s
    · exact ((State.Steady.onRecord s n _).trans (State.Steady.leaveSeat _ _)).trans (State.Steady.clearParked _ n)
    · exact ((((State.Steady.onRecord s n _).trans (State.Steady.leaveSeat _ _)).trans (State.Steady.clearParked _ n)).trans
        (State.Steady.discardHold _ _)).trans (State.Steady.countMc _ _)

theorem State.Steady.flush (pl : Place) (hold : List Nat) : s.Steady (s.flush pl hold) := by
  unfold State.flush
  refine State.Steady.foldl (fun t k => ?_) hold s
  have hoffer : t.Steady (t.offer pl.port (pl.entry k) false).1 :=
    .of_blocks (by simp) (by simp) (by simp) (by simp) (by simp) (by simp) (by simp) (by simp) (by simp) (by simp) (by simp) (by simp)
  dsimp only
  split
  · exact hoffer
  · exact (hoffer.trans (State.Steady.dropRef _ k)).trans (State.Steady.countMc _ _)

theorem State.Steady.completeMove (n : Nat) (count : McCounters → McCounters) : s.Steady (s.completeMove n count) := by
  unfold State.completeMove
  split
  · exact .refl s
  · split
    · exact ((State.Steady.flush s _ _).trans (State.Steady.attach _ n _)).trans (State.Steady.countMc _ count)
    · exact .refl s

end Elementary

/-! ### Seats -/

section Seats

variable (s : State) (p : SeatNo)

theorem State.Steady.seatLost : s.Steady (s.seatLost p) := by
  unfold State.seatLost
  split
  · exact .refl s
  · exact State.Steady.enterLingering s _

theorem State.Steady.seatUpdate : s.Steady (s.seatUpdate p) := by
  unfold State.seatUpdate State.seatDown
  (repeat' split)
  · exact .refl s
  · exact State.Steady.onSeat s p fun _ => rfl
  · refine State.Steady.trans (State.Steady.trans ?_ (State.Steady.seatLost _ p)) (State.Steady.discardQueue _ (port := .seat p) (by simp))
    exact State.Steady.onSeat s p fun _ => rfl
  · exact .refl s

/-- The change of one seat. -/
theorem State.Rests.onSeat (f : Seat → Seat) : s.Rests (s.onSeat p f) where
  trunk := funext (s.trunk_onSeat p f)
  el := rfl
  cu := rfl
  sl := rfl
  memory := rfl
  pending := rfl
  line := rfl
  raised _ _ := rfl
  responses := List.prefix_refl _

/-- The settings with the profile of one seat replaced. -/
def Settings.withSeat (x : Settings) (p : SeatNo) (profile : SeatProfile) : Settings := { x with seats := x.seats.set p.val profile }

theorem State.settings_onSeat (f : Seat → Seat) : (s.onSeat p f).settings = s.settings.withSeat p (f (s.seat p)).profile := by
  have hseats : ((s.onSeat p f).spb.seats.toList.map Seat.profile)
      = (s.spb.seats.toList.map Seat.profile).set p.val (f (s.seat p)).profile := by
    rw [← List.map_set, ← Vector.toList_set p.isLt]
    rfl
  unfold State.settings Settings.withSeat
  rw [hseats]
  rfl

theorem Settings.withSeat_withSeat (x : Settings) (a b : SeatProfile) : (x.withSeat p a).withSeat p b = x.withSeat p b := by
  simp [Settings.withSeat]

/-- R122: a seat profile replaced. -/
theorem State.setSeatProfile_gives (profile : SeatProfile) : s.Rests (s.setSeatProfile p profile)
    ∧ (s.setSeatProfile p profile).settings = s.settings.withSeat p profile := by
  unfold State.setSeatProfile
  dsimp only
  generalize hw : ((s.onSeat p fun x => { x with profile := { profile with loopback := (s.seat p).profile.loopback } }).seatUpdate p).onSeat
    p (fun x => { x with profile := profile }) = w
  have hfirst := State.Steady.seatUpdate (s.onSeat p fun x => { x with profile := { profile with loopback := (s.seat p).profile.loopback } }) p
  have hrests : s.Rests w := by
    rw [← hw]
    exact ((State.Rests.onSeat s p _).trans hfirst.toRests).trans (State.Rests.onSeat _ p _)
  have hsettings : w.settings = s.settings.withSeat p profile := by
    rw [← hw, State.settings_onSeat, hfirst.settings, State.settings_onSeat, Settings.withSeat_withSeat]
  have hqueue := State.Steady.discardQueue w (port := .seat p) (by simp)
  split
  · exact ⟨hrests.trans hqueue.toRests, hqueue.settings.trans hsettings⟩
  · exact ⟨hrests, hsettings⟩

end Seats

/-- Writes at distinct places, one after the other: what is read afterwards. -/
theorem foldl_writes {σ ι α : Type} [DecidableEq ι] (view : σ → ι → α) (φ : ι → α → α) {f : σ → ι → σ}
    (hf : ∀ t i j, view (f t i) j = if j = i then φ i (view t i) else view t j) (l : List ι) (hl : l.Nodup) (s : σ) (j : ι) :
    view (l.foldl f s) j = if j ∈ l then φ j (view s j) else view s j := by
  induction l generalizing s with
  | nil => rfl
  | cons i rest ih =>
    obtain ⟨hi, hrest⟩ := List.nodup_cons.1 hl
    rw [List.foldl_cons, ih hrest, hf]
    by_cases hj : j = i
    · rw [hj, if_neg hi, if_pos rfl, if_pos List.mem_cons_self]
    · simp [hj]

/-- R213, R215: the profiles of the 64 seats. -/
theorem State.seatProfiles_given (s : State) (profiles : SeatNo → SeatProfile) :
    let t := allSeats.foldl (fun t p => t.setSeatProfile p (profiles p)) s
    s.Rests t ∧ t.settings = { s.settings with seats := allSeats.map profiles } := by
  dsimp only
  refine ⟨State.Rests.foldl (fun t p => (t.setSeatProfile_gives p (profiles p)).1) allSeats s, ?_⟩
  have hrest := foldl_keeps (fun t : State => { t.settings with seats := [] }) (f := fun (t : State) p => t.setSeatProfile p (profiles p))
    (fun t p => by rw [(t.setSeatProfile_gives p (profiles p)).2]; rfl) allSeats (b := s) rfl
  have hseats := fun p : SeatNo => foldl_writes (fun (t : State) (q : SeatNo) => t.settings.seats[q.val]?)
    (fun q _ => some (profiles q)) (f := fun (t : State) p => t.setSeatProfile p (profiles p))
    (fun t i j => by
      have hlength : t.settings.seats.length = 64 := by simp [State.settings]
      rw [(t.setSeatProfile_gives i (profiles i)).2, Settings.withSeat, List.getElem?_set]
      by_cases hj : j = i
      · rw [if_pos (congrArg Fin.val hj.symm), if_pos hj, if_pos (by omega)]
      · rw [if_neg fun h => hj (Fin.ext h.symm), if_neg hj])
    allSeats (numbers_nodup 64) s p
  generalize allSeats.foldl (fun t p => t.setSeatProfile p (profiles p)) s = t at *
  have hlist : t.settings.seats = allSeats.map profiles := by
    refine List.ext_getElem? fun i => ?_
    by_cases hi : i < 64
    · have hp := hseats ⟨i, hi⟩
      rw [if_pos (show (⟨i, hi⟩ : SeatNo) ∈ allSeats from mem_numbers _)] at hp
      rw [hp, List.getElem?_map, allSeats, numbers, List.getElem?_map, List.getElem?_range hi]
      simp [Fin.ofNat, Nat.mod_eq_of_lt hi]
    · rw [List.getElem?_eq_none (by simp [State.settings]; omega), List.getElem?_eq_none (by simp [allSeats, numbers]; omega)]
  have hall : t.settings = { ({ t.settings with seats := [] } : Settings) with seats := t.settings.seats } := rfl
  rw [hall, hrest, hlist]

/-! ### Links -/

section Links

variable (s : State)

theorem State.Steady.linksLost (cs : List LinkNo) : s.Steady (s.linksLost cs) := by
  unfold State.linksLost
  exact (State.Steady.foldl (fun t n => State.Steady.enterLingering t n) _ s).trans
    (State.Steady.foldl (fun t n => State.Steady.completeMove t n _) _ _)

theorem State.Steady.pushResponse (r : Response) : s.Steady (s.pushResponse r) where
  toRests := { State.Rests.refl s with responses := List.prefix_append _ _ }
  settings := rfl

theorem State.Steady.endRelay (c : LinkNo) (status : Status) (args : Bytes) (count : LinkCounters → LinkCounters) :
    s.Steady (s.endRelay c status args count) := by
  unfold State.endRelay
  split
  · exact .refl s
  · exact (State.Steady.onLink s c (by exact fun _ => rfl)).trans (State.Steady.pushResponse _ _)

theorem State.Steady.raiseLinkLoss : s.Steady (s.raise .ceilingLinkLoss) where
  toRests := { State.Rests.refl s with raised := fun c hc => by rw [State.raised_raise, if_neg hc] }
  settings := rfl

theorem State.Steady.linkClosed (c : LinkNo) : s.Steady (s.linkClosed c) :=
  (((State.Steady.discardQueue s (by simp)).trans (State.Steady.endRelay _ c _ _ _)).trans
    (State.Steady.onLink _ c (by exact fun _ => rfl))).trans (State.Steady.raiseLinkLoss _)

theorem State.Steady.leaveReady (cs : List LinkNo) (new : LinkState) : s.Steady (s.leaveReady cs new) :=
  ((State.Steady.foldl (fun t c => State.Steady.onLink t c (by exact fun _ => rfl)) cs s).trans (State.Steady.linksLost _ cs)).trans
    (State.Steady.foldl (fun t c => State.Steady.linkClosed t c) cs _)

/-- With no link to leave READY nothing happens. -/
theorem State.leaveReady_nil (new : LinkState) : s.leaveReady [] new = s := by
  have hplaced : (s.recordsWhere fun r => r.st.place.any fun pl => ([] : List LinkNo).any fun c => pl.onLink c) = [] := by
    simp [State.recordsWhere]
  have hleaving : (s.recordsWhere fun r => r.st.former.any fun f => ([] : List LinkNo).contains f.1) = [] := by
    simp [State.recordsWhere]
  simp only [State.leaveReady, State.linksLost, List.foldl_nil, hplaced, hleaving]

/-- The state with the profiles of links in force. -/
def State.withLinkProfiles (profiles : LinkNo → CeilingProfile) : State :=
  s.onClb fun b => { b with links := Vector.ofFn fun c => { b.links[c] with profile := profiles c } }

theorem State.withLinkProfiles_link (profiles : LinkNo → CeilingProfile) (c : LinkNo) :
    (s.withLinkProfiles profiles).link c = { s.link c with profile := profiles c } := by
  simp [State.withLinkProfiles, State.link]

/-- The profiles given one after the other are in force together. -/
theorem State.foldl_linkProfiles (profiles : LinkNo → CeilingProfile) :
    (allLinks.map fun c => (c, profiles c)).foldl (fun t e => t.onLink e.1 fun x => { x with profile := e.2 }) s
      = s.withLinkProfiles profiles := by
  rw [List.foldl_map]
  dsimp only
  have hlinks := foldl_writes (fun (t : State) (c : LinkNo) => t.link c) (fun c x => { x with profile := profiles c })
    (f := fun (t : State) c => t.onLink c fun x => { x with profile := profiles c })
    (fun t i j => by
      rw [State.link_onLink]
      split
      · next h => rw [h]
      · rfl)
    allLinks (numbers_nodup 8) s
  have hrest := foldl_keeps (fun t : State => { t with clb := { t.clb with links := s.clb.links } })
    (f := fun (t : State) c => t.onLink c fun x => { x with profile := profiles c }) (fun _ _ => rfl) allLinks (b := s) rfl
  generalize allLinks.foldl (fun t c => t.onLink c fun x => { x with profile := profiles c }) s = t at *
  have hall : t = { ({ t with clb := { t.clb with links := s.clb.links } } : State) with
      clb := { ({ t.clb with links := s.clb.links } : CeilingBlock) with links := t.clb.links } } := rfl
  have hvector : t.clb.links = (s.withLinkProfiles profiles).clb.links := by
    refine Vector.ext fun i hi => ?_
    have hc := hlinks ⟨i, hi⟩
    rw [if_pos (show (⟨i, hi⟩ : LinkNo) ∈ allLinks from mem_numbers _), ← State.withLinkProfiles_link] at hc
    exact hc
  have hclb := congrArg State.clb hrest
  dsimp only at hclb
  rw [hall, hrest, hclb, hvector]
  rfl

/-- The links that a set of profiles disables. -/
def State.disabledBy (profiles : LinkNo → CeilingProfile) : List LinkNo :=
  allLinks.filter fun c => (s.link c).state == .ready && !(profiles c).enabled

/-- R151, R152: the profiles of all links replaced. -/
theorem State.setCeilingProfiles_all (profiles : LinkNo → CeilingProfile) : s.setCeilingProfiles (allLinks.map fun c => (c, profiles c))
    = (s.withLinkProfiles profiles).leaveReady (s.disabledBy profiles) .unready := by
  unfold State.setCeilingProfiles
  dsimp only
  rw [State.foldl_linkProfiles, State.disabledBy, List.filter_map, List.map_map, Function.comp_def, Function.comp_def, List.map_id']

theorem State.Rests.withLinkProfiles (profiles : LinkNo → CeilingProfile) : s.Rests (s.withLinkProfiles profiles) :=
  { State.Rests.refl s with }

theorem State.settings_withLinkProfiles (profiles : LinkNo → CeilingProfile) :
    (s.withLinkProfiles profiles).settings = { s.settings with links := allLinks.map profiles } := by
  have hlinks : (s.withLinkProfiles profiles).clb.links.toList.map Link.profile = allLinks.map profiles := by
    refine List.ext_getElem? fun i => ?_
    by_cases hi : i < 8
    · rw [List.getElem?_map, List.getElem?_map, allLinks, numbers, List.getElem?_map, List.getElem?_range hi]
      simp [State.withLinkProfiles, hi, Fin.ofNat, Nat.mod_eq_of_lt hi]
    · rw [List.getElem?_eq_none (by simp; omega), List.getElem?_eq_none (by simp [allLinks, numbers]; omega)]
  unfold State.settings
  rw [hlinks]
  rfl

end Links

end Sys2Proof.Machine
end

section
/-! PROOFS. The end of the start-up load (O9, O10) and the lamps' effects (O37). -/

namespace Sys2Proof.Machine

/-! ### Settings given to their owners -/

/-- Settings for 64 seats, 8 links and 11 causes (R209). -/
structure Settings.Whole (x : Settings) : Prop where
  seats : x.seats.length = 64
  links : x.links.length = 8
  levels : x.levels.length = 11

theorem Settings.whole_factory : factorySettings.Whole where
  seats := List.length_replicate
  links := List.length_replicate
  levels := rfl

theorem readAll_length {α β : Type} {f : α → Option β} {l : List α} {bs : List β} (h : readAll f l = some bs) :
    bs.length = l.length := by
  simpa using (congrArg List.length (readAll_eq_some_iff.1 h)).symm

theorem Settings.Whole.of_readSettings {bs : Bytes} {x : Settings} (h : readSettings bs = some x) : x.Whole := by
  unfold readSettings at h
  split at h
  · cases h
  · split at h
    · next hseats hlinks _ _ hlevels _ =>
      obtain rfl := Option.some.inj h
      exact ⟨by simpa using readAll_length hseats, by simpa using readAll_length hlinks, by simpa using readAll_length hlevels⟩
    · cases h

theorem Settings.Whole.of_image {m : Image} {x : Settings} (h : m.settings = some x) : x.Whole := by
  unfold Image.settings at h
  split at h
  · exact .of_readSettings h
  · cases h

/-- The elements of a list of a fixed length, read one by one. -/
theorem numbers_map_getD {α : Type} {n : Nat} [NeZero n] {l : List α} (h : l.length = n) (d : α) :
    (numbers n).map (fun i => l.getD i.val d) = l := by
  refine List.ext_getElem (by simp [numbers, h]) fun i hi hi' => ?_
  have hlt : i < n := h ▸ hi'
  simp [numbers, Fin.ofNat, Nat.mod_eq_of_lt hlt, hi']

theorem levelVector_toList {levels : List Nat} (h : levels.length = 11) : (levelVector levels).toList = levels := by
  refine List.ext_getElem (by simp [h]) fun i hi hi' => ?_
  simp [levelVector, hi']

section Giving

variable (s : State) {x : Settings}

/-- What is given after the profiles (R213, R215). -/
def State.withTimings (x : Settings) : State :=
  (((s.onMe fun m => { m with addressing := x.addressing, levels := levelVector x.levels }).onMc fun b =>
    { b with releaseTimeout := x.timing.release }).onCt fun b => { b with lingerTime := x.timing.linger }).onClb fun b =>
    { b with deferWindow := x.timing.defer }

theorem State.withTimings_gives (hx : x.Whole) : s.Rests (s.withTimings x) ∧ (s.withTimings x).settings
    = { s.settings with addressing := x.addressing, levels := x.levels, timing := x.timing } := by
  refine ⟨{ State.Rests.refl s with }, ?_⟩
  have hlevels := levelVector_toList hx.levels
  change { s.settings with
    addressing := x.addressing
    levels := (levelVector x.levels).toList
    timing := { release := x.timing.release, linger := x.timing.linger, defer := x.timing.defer } } = _
  rw [hlevels]

theorem State.withTimings_link (x : Settings) : (s.withTimings x).link = s.link := rfl

/-- The part before its links take their profiles: the seats have theirs, the lamps their rules and brightness. -/
def State.seatsGiven (x : Settings) : State :=
  (allSeats.foldl (fun t p => t.setSeatProfile p (x.seats.getD p.val {})) s).onSpb fun b =>
    { b with rules := x.rules, brightness := x.brightness }

theorem State.seatsGiven_gives (hx : x.Whole) : s.Rests (s.seatsGiven x) ∧ (s.seatsGiven x).settings
    = { s.settings with seats := x.seats, rules := x.rules, brightness := x.brightness } := by
  obtain ⟨hrests, hsettings⟩ := s.seatProfiles_given fun p => x.seats.getD p.val {}
  rw [show allSeats.map (fun p => x.seats.getD p.val {}) = x.seats from numbers_map_getD hx.seats {}] at hsettings
  unfold State.seatsGiven
  generalize allSeats.foldl (fun t p => t.setSeatProfile p (x.seats.getD p.val {})) s = t at *
  refine ⟨hrests.trans { State.Rests.refl t with }, ?_⟩
  change { t.settings with rules := x.rules, brightness := x.brightness } = _
  rw [hsettings]

/-- The profile that settings give to a link. -/
def Settings.linkProfile (x : Settings) (c : LinkNo) : CeilingProfile := x.links.getD c.val {}

theorem State.giveSettings_eq : s.giveSettings x = (((s.seatsGiven x).withLinkProfiles x.linkProfile).leaveReady
    ((s.seatsGiven x).disabledBy x.linkProfile) .unready).withTimings x := by
  rw [← State.setCeilingProfiles_all]
  rfl

/-- R213, R215: what the giving of settings writes of them, and what it leaves. -/
theorem State.giveSettings_gives (hx : x.Whole) : s.Rests (s.giveSettings x)
    ∧ (s.giveSettings x).settings = { x with vehicle := s.cu.vehicleSetting } := by
  obtain ⟨hseats, hfirst⟩ := s.seatsGiven_gives hx
  rw [State.giveSettings_eq]
  have hlinks := State.Rests.withLinkProfiles (s.seatsGiven x) x.linkProfile
  have hsecond := State.settings_withLinkProfiles (s.seatsGiven x) x.linkProfile
  rw [show allLinks.map x.linkProfile = x.links from numbers_map_getD hx.links {}] at hsecond
  generalize (s.seatsGiven x).withLinkProfiles x.linkProfile = t at *
  have hleave := State.Steady.leaveReady t ((s.seatsGiven x).disabledBy x.linkProfile) .unready
  generalize t.leaveReady ((s.seatsGiven x).disabledBy x.linkProfile) .unready = v at *
  obtain ⟨htimings, hthird⟩ := v.withTimings_gives hx
  refine ⟨((hseats.trans hlinks).trans hleave.toRests).trans htimings, ?_⟩
  rw [hthird, hleave.settings, hsecond, hfirst]
  rfl

/-- R185: the vehicle number is the coupling unit's alone. -/
theorem State.giveVehicle_gives (v : Nat) : (s.giveVehicle v).settings = { s.settings with
      vehicle := if s.coupled .fore || s.coupled .aft then s.cu.vehicle else v }
    ∧ (s.giveVehicle v).cu.vehicle = (if s.coupled .fore || s.coupled .aft then s.cu.vehicle else v)
    ∧ (s.giveVehicle v).side = s.side ∧ s.onlyChanges (s.giveVehicle v) [.cu] ∧ (s.giveVehicle v).ev = s.ev := by
  unfold State.giveVehicle
  split
  all_goals
    refine ⟨rfl, rfl, ?_, ⟨?_, rfl, rfl⟩, rfl⟩
    · funext side
      cases side <;> rfl
    · intro b hb
      cases b
      case cu => exact absurd (List.mem_singleton_self _) hb
      all_goals rfl

end Giving

/-! ### The ports released -/

section Release

variable (s : State)

/-- A trunk leaves HELD: its seats take their indications, and nothing else of the settings, the links or the Coupling Unit moves. -/
theorem State.applyIndications_steady (t : TrunkNo) : s.Steady (s.applyIndications t) := by
  unfold State.applyIndications
  refine State.Steady.foldl (fun u i => ?_) _ s
  exact (State.Steady.onSeat u (seatAt t i) (by exact fun _ => rfl)).trans (State.Steady.seatUpdate _ _)

theorem State.applyIndications_clb (t : TrunkNo) : (s.applyIndications t).clb = s.clb := by
  unfold State.applyIndications
  refine foldl_keeps State.clb (fun u i => ?_) _ rfl
  unfold State.seatUpdate State.seatDown
  (repeat' split) <;> simp

/-- What the release of ports leaves; the trunks, the links and the backbone ports apart. -/
structure State.Released (s t : State) : Prop where
  settings : t.settings = s.settings
  sl : t.sl = s.sl
  memory : t.memory = s.memory
  entries : t.el.entries = s.el.entries
  raised : ∀ c, c ≠ .ceilingLinkLoss → t.raised c = s.raised c
  vehicle : t.cu.vehicle = s.cu.vehicle

theorem State.Steady.released {s t : State} (h : s.Steady t) : s.Released t :=
  ⟨h.settings, h.sl, h.memory, by rw [h.el], h.raised, by rw [h.cu]⟩

theorem State.Released.trans {s t u : State} (h : s.Released t) (h' : t.Released u) : s.Released u where
  settings := h'.settings.trans h.settings
  sl := h'.sl.trans h.sl
  memory := h'.memory.trans h.memory
  entries := h'.entries.trans h.entries
  raised c hc := (h'.raised c hc).trans (h.raised c hc)
  vehicle := h'.vehicle.trans h.vehicle

theorem State.Released.foldl {α : Type} {f : State → α → State} (h : ∀ (t : State) a, t.Released (f t a)) (l : List α) (s : State) :
    s.Released (l.foldl f s) := by
  induction l generalizing s with
  | nil => exact (State.Steady.refl s).released
  | cons a l ih => exact (h s a).trans (ih (f s a))

theorem State.Released.onTrunk (t : TrunkNo) (f : Trunk → Trunk) : s.Released (s.onTrunk t f) := ⟨rfl, rfl, rfl, rfl, fun _ _ => rfl, rfl⟩

/-- R117, R213: a trunk at release. -/
theorem State.releaseTrunk_releases (t : TrunkNo) : s.Released (s.releaseTrunk t) ∧ (s.releaseTrunk t).clb = s.clb
    ∧ (s.releaseTrunk t).cu = s.cu ∧ ∀ k, ((s.releaseTrunk t).trunk k).signal = (s.trunk k).signal
      ∧ ((s.releaseTrunk t).trunk k).state
        = if k = t then (if (s.trunk t).signal then .present else .lost) else (s.trunk k).state := by
  unfold State.releaseTrunk State.trunkPresent
  dsimp only
  split
  · next hsignal =>
    have hsteady := (s.onTrunk t fun x => { x with state := .present }).applyIndications_steady t
    have hclb := (s.onTrunk t fun x => { x with state := .present }).applyIndications_clb t
    have htrunk := s.trunk_onTrunk t
    have hreleased := (State.Released.onTrunk s t _).trans hsteady.released
    generalize (s.onTrunk t fun x => { x with state := .present }).applyIndications t = w at *
    refine ⟨⟨hreleased.settings, hreleased.sl, hreleased.memory, hreleased.entries, hreleased.raised, hreleased.vehicle⟩, hclb,
      hsteady.cu, fun k => ?_⟩
    change (w.trunk k).signal = _ ∧ (w.trunk k).state = _
    rw [hsteady.trunk, htrunk]
    split <;> exact ⟨rfl, rfl⟩
  · refine ⟨State.Released.onTrunk s t _, rfl, rfl, fun k => ?_⟩
    rw [State.trunk_onTrunk]
    split <;> exact ⟨rfl, rfl⟩

/-- R141, R213: a link at release. -/
theorem State.releaseLink_releases (c : LinkNo) : s.Released (s.releaseLink c) ∧ (s.releaseLink c).trunk = s.trunk
    ∧ (s.releaseLink c).cu = s.cu ∧ ∀ d, ((s.releaseLink c).link d).statusIn = (s.link d).statusIn
      ∧ ((s.releaseLink c).link d).state = if d = c then (if (s.link c).statusIn then .unready else .down) else (s.link d).state := by
  unfold State.releaseLink
  refine ⟨(State.Steady.onLink s c (by exact fun _ => rfl)).released, rfl, rfl, fun d => ?_⟩
  rw [State.link_onLink]
  split
  · next h => exact ⟨rfl, by rw [h]⟩
  · exact ⟨rfl, rfl⟩

/-- A backbone port as its release leaves it (R169, R170, R176). -/
def Backbone.released (b : Backbone) : Backbone :=
  { b with pagingHeld := false, page := some 100, errorCount := 0, errorWindow := some 100 }

theorem State.releaseBackbone_releases (side : Side) : s.Released (s.releaseBackbone side) ∧ (s.releaseBackbone side).spb = s.spb
    ∧ (s.releaseBackbone side).clb = s.clb
    ∧ ∀ x, (s.releaseBackbone side).side x = if x = side then (s.side side).released else s.side x := by
  refine ⟨⟨?_, rfl, rfl, rfl, fun _ _ => rfl, ?_⟩, rfl, rfl, fun x => ?_⟩
  · cases side <;> rfl
  · cases side <;> rfl
  · cases side <;> cases x <;> rfl

/-- R213, step 3: the ports as they stand when they are released. -/
theorem State.releasePorts_releases : s.Released s.releasePorts
    ∧ (∀ k, (s.releasePorts.trunk k).state = if (s.trunk k).signal then .present else .lost)
    ∧ (∀ c, (s.releasePorts.link c).state = if (s.link c).statusIn then .unready else .down)
    ∧ (∀ side, s.releasePorts.side side = (s.side side).released)
    ∧ s.releasePorts.el.minute = some 60000 ∧ s.releasePorts.spb.blinkRunning = true ∧ s.releasePorts.spb.blink = 0 := by
  unfold State.releasePorts
  dsimp only
  have htrunks : s.Released (allTrunks.foldl (fun t k => t.releaseTrunk k) s) :=
    State.Released.foldl (fun t k => (t.releaseTrunk_releases k).1) _ s
  have htrunk := fun k : TrunkNo => foldl_writes (fun (t : State) (k : TrunkNo) => ((t.trunk k).signal, (t.trunk k).state))
    (fun _ v => (v.1, if v.1 then .present else .lost)) (f := fun (t : State) k => t.releaseTrunk k)
    (fun t i j => by
      obtain ⟨hsignal, hstate⟩ := (t.releaseTrunk_releases i).2.2.2 j
      rw [hsignal, hstate]
      split
      · next h => rw [h]
      · rfl)
    allTrunks (numbers_nodup 8) s k
  have hkept := foldl_keeps (fun t : State => (t.clb, t.cu)) (f := fun (t : State) k => t.releaseTrunk k)
    (fun t k => by
      obtain ⟨_, hclb, hcu, _⟩ := t.releaseTrunk_releases k
      rw [hclb, hcu]) allTrunks (b := s) rfl
  generalize allTrunks.foldl (fun t k => t.releaseTrunk k) s = t1 at *
  obtain ⟨hclb1, hcu1⟩ := Prod.mk.inj hkept
  have hlinks : t1.Released (allLinks.foldl (fun t c => t.releaseLink c) t1) :=
    State.Released.foldl (fun t c => (t.releaseLink_releases c).1) _ t1
  have hlink := fun c : LinkNo => foldl_writes (fun (t : State) (c : LinkNo) => ((t.link c).statusIn, (t.link c).state))
    (fun _ v => (v.1, if v.1 then .unready else .down)) (f := fun (t : State) c => t.releaseLink c)
    (fun t i j => by
      obtain ⟨hstatus, hstate⟩ := (t.releaseLink_releases i).2.2.2 j
      rw [hstatus, hstate]
      split
      · next h => rw [h]
      · rfl)
    allLinks (numbers_nodup 8) t1 c
  have hkept := foldl_keeps (fun t : State => (t.trunk, t.cu)) (f := fun (t : State) c => t.releaseLink c)
    (fun t c => by
      obtain ⟨_, htrunk, hcu, _⟩ := t.releaseLink_releases c
      rw [htrunk, hcu]) allLinks (b := t1) rfl
  generalize allLinks.foldl (fun t c => t.releaseLink c) t1 = t2 at *
  obtain ⟨htrunk2, hcu2⟩ := Prod.mk.inj hkept
  have hsides : t2.Released (allSides.foldl (fun t side => t.releaseBackbone side) t2) :=
    State.Released.foldl (fun t side => (t.releaseBackbone_releases side).1) _ t2
  have hside := fun x : Side => foldl_writes (fun (t : State) (x : Side) => t.side x) (fun _ b => b.released)
    (f := fun (t : State) side => t.releaseBackbone side) (fun t i j => (t.releaseBackbone_releases i).2.2.2 j)
    allSides (by decide) t2 x
  have hkept := foldl_keeps (fun t : State => (t.spb, t.clb)) (f := fun (t : State) side => t.releaseBackbone side)
    (fun t side => by
      obtain ⟨_, hspb, hclb, _⟩ := t.releaseBackbone_releases side
      rw [hspb, hclb]) allSides (b := t2) rfl
  generalize allSides.foldl (fun t side => t.releaseBackbone side) t2 = t3 at *
  obtain ⟨hspb3, hclb3⟩ := Prod.mk.inj hkept
  have hreleased := (htrunks.trans hlinks).trans hsides
  refine ⟨⟨hreleased.settings, hreleased.sl, hreleased.memory, hreleased.entries, hreleased.raised, hreleased.vehicle⟩, fun k => ?_,
    fun c => ?_, fun x => ?_, rfl, rfl, rfl⟩
  · have hk := htrunk k
    rw [if_pos (show k ∈ allTrunks from mem_numbers k)] at hk
    have hstate := congrArg Prod.snd hk
    dsimp only at hstate
    rw [← hstate, ← htrunk2, ← State.trunk_eq_of_spb hspb3]
    rfl
  · have hc := hlink c
    rw [if_pos (show c ∈ allLinks from mem_numbers c), State.link_eq_of_clb hclb1] at hc
    have hstate := congrArg Prod.snd hc
    dsimp only at hstate
    rw [← hstate, ← State.link_eq_of_clb hclb3]
    rfl
  · have hx := hside x
    rw [if_pos (by cases x <;> decide), State.side_eq_of_cu hcu2, State.side_eq_of_cu hcu1] at hx
    rw [← hx]
    rfl

end Release

/-! ### The start-up load -/

section StartUp

variable {s : State} {found : Option Settings} {outcome : LoadOutcome}

/-- The Loader as the start-up load's end leaves it (R213). -/
def Loader.started (b : Loader) (stored : Bool) (outcome : LoadOutcome) : Loader :=
  { b with
    unit := .idle, accessTimer := none, outcome := some outcome, pendingReturn := none
    source := some (if stored then .stored else .factory)
    counts := { b.counts with
      loadsFromImage := if stored then bump b.counts.loadsFromImage else b.counts.loadsFromImage
      loadsDefaulted := if stored then b.counts.loadsDefaulted else bump b.counts.loadsDefaulted } }

/-- The state in which the ports are released: the settings are current and the load is counted (R212, R213). -/
def State.settled (s : State) (found : Option Settings) : State :=
  let x := found.getD factorySettings
  let t := ((s.giveSettings x).giveVehicle x.vehicle).onSl fun b => { b with
    source := some (if found.isSome then .stored else .factory)
    counts := { b.counts with
      loadsFromImage := if found.isSome then bump b.counts.loadsFromImage else b.counts.loadsFromImage
      loadsDefaulted := if found.isSome then b.counts.loadsDefaulted else bump b.counts.loadsDefaulted } }
  if found.isSome then t else t.raise .settingsFault

theorem State.startUpEnd_eq : s.startUpEnd found outcome = (s.settled found).releasePorts.unitIdle outcome := by
  unfold State.startUpEnd State.settled
  dsimp only
  generalize (s.giveSettings (found.getD factorySettings)).giveVehicle (found.getD factorySettings).vehicle = t
  cases found <;> rfl

theorem State.coupled_eq_of_side {s t : State} (h : t.side = s.side) : t.coupled = s.coupled := by
  funext x
  rw [State.coupled, State.coupled, h]

theorem State.giveSettings_uncoupled (hx : (found.getD factorySettings).Whole) (hfore : s.coupled .fore = false)
    (haft : s.coupled .aft = false) :
    (s.settled found).settings = found.getD factorySettings ∧ (s.settled found).cu.vehicle = (found.getD factorySettings).vehicle
    ∧ (s.settled found).side = s.side ∧ (s.settled found).memory = s.memory ∧ (s.settled found).el = s.el
    ∧ (s.settled found).trunk = s.trunk ∧ (s.settled found).clb = (s.giveSettings (found.getD factorySettings)).clb
    ∧ (∀ outcome, { (s.settled found).sl with unit := .idle, accessTimer := none, outcome := some outcome, pendingReturn := none }
      = s.sl.started found.isSome outcome)
    ∧ ∀ c, c ≠ .ceilingLinkLoss →
      (s.settled found).raised c = if found = none ∧ c = .settingsFault then bump (s.raised c) else s.raised c := by
  obtain ⟨hrests, hgiven⟩ := s.giveSettings_gives hx
  unfold State.settled
  dsimp only
  generalize hxdef : found.getD factorySettings = x at *
  generalize s.giveSettings x = t at *
  obtain ⟨hsettings, hvehicle, hside, honly, _⟩ := t.giveVehicle_gives x.vehicle
  have hcoupled : (t.coupled .fore || t.coupled .aft) = false := by
    rw [State.coupled_eq_of_cu hrests.cu, hfore, haft]
    rfl
  obtain ⟨hct, hmc, hsau, hel, hfs, hspb, hclb, _, hme, hsl, hmemory, _⟩ := State.onlyChanges_iff.1 honly
  rw [hcoupled, hgiven] at hsettings
  rw [hcoupled] at hvehicle
  have hsideS : (t.giveVehicle x.vehicle).side = s.side := hside.trans (State.side_eq_of_cu hrests.cu)
  generalize t.giveVehicle x.vehicle = v at *
  have hslv : v.sl = s.sl := (hsl (by simp)).trans hrests.sl
  have hraised : ∀ c, c ≠ .ceilingLinkLoss → v.raised c = s.raised c := fun c hc => by
    rw [State.raised_eq_of_me (hme (by simp)), hrests.raised c hc]
  have hmemoryv := (hmemory (by simp)).trans hrests.memory
  have helv := (hel (by simp)).trans hrests.el
  have htrunkv := (State.trunk_eq_of_spb (hspb (by simp))).trans hrests.trunk
  have hclbv := hclb (by simp)
  cases found with
  | some y =>
    rw [if_pos (show (some y).isSome = true from rfl)]
    refine ⟨hsettings, hvehicle, hsideS, hmemoryv, helv, htrunkv, hclbv, fun o => ?_, fun c hc => ?_⟩
    · rw [← hslv]
      rfl
    · rw [if_neg (show ¬ (some y = none ∧ c = .settingsFault) from fun h => nomatch h.1)]
      exact hraised c hc
  | none =>
    rw [if_neg (by simp)]
    refine ⟨hsettings, hvehicle, hsideS, hmemoryv, helv, htrunkv, hclbv, fun o => ?_, fun c hc => ?_⟩
    · rw [← hslv]
      rfl
    · rw [← hraised c hc]
      simp only [true_and]
      exact State.raised_raise _ _ _

/-- R212, R213: what the end of the start-up load leaves. -/
theorem State.startUpEnd_gives (hx : (found.getD factorySettings).Whole) (hfore : s.coupled .fore = false)
    (haft : s.coupled .aft = false) :
    let u := s.startUpEnd found outcome
    u.settings = found.getD factorySettings ∧ u.cu.vehicle = (found.getD factorySettings).vehicle ∧ u.memory = s.memory
    ∧ u.sl = s.sl.started found.isSome outcome
    ∧ (∀ c, c ≠ .ceilingLinkLoss → u.raised c = if found = none ∧ c = .settingsFault then bump (s.raised c) else s.raised c)
    ∧ (∀ k, (u.trunk k).state = if (s.trunk k).signal then .present else .lost)
    ∧ (∀ c, (u.link c).state = if ((s.giveSettings (found.getD factorySettings)).link c).statusIn then .unready else .down)
    ∧ (∀ side, u.side side = (s.side side).released) ∧ u.el.minute = some 60000 ∧ u.el.entries = s.el.entries
    ∧ u.spb.blinkRunning = true ∧ u.spb.blink = 0 := by
  obtain ⟨hsettings, hvehicle, hside, hmemory, hel, htrunk, hclb, hsl, hraised⟩ := State.giveSettings_uncoupled hx hfore haft
  dsimp only
  rw [State.startUpEnd_eq]
  generalize s.settled found = t at *
  obtain ⟨hreleased, htrunks, hlinks, hsides, hminute, hrunning, hblink⟩ := t.releasePorts_releases
  generalize t.releasePorts = w at *
  refine ⟨hreleased.settings.trans hsettings, hreleased.vehicle.trans hvehicle, hreleased.memory.trans hmemory, ?_, fun c hc => ?_,
    fun k => ?_, fun c => ?_, fun x => ?_, hminute, ?_, hrunning, hblink⟩
  · rw [← hsl outcome, ← hreleased.sl]
    rfl
  · exact (hreleased.raised c hc).trans (hraised c hc)
  · rw [← htrunk]
    exact htrunks k
  · rw [← State.link_eq_of_clb hclb]
    exact hlinks c
  · rw [← hside]
    exact hsides x
  · rw [← hel]
    exact hreleased.entries

end StartUp

/-! ### The read's answer, and the access timer's expiry -/

section LoadEnd

variable {s : State} {access : Nat}

theorem readComplete_of_loadingAtStart (h : loadingAtStart s access) : s.beginEvent.readComplete access
    = s.beginEvent.startUpEnd s.memory.settings (if s.memory.settings.isSome then .ok else .badImage) := by
  obtain ⟨_, hunit, hbegun, haccess, hlast, _⟩ := h
  unfold State.readComplete
  rw [if_pos ⟨hunit, hbegun, haccess.symm⟩]
  exact if_pos hlast

theorem accessExpiry_of_loadingAtStart (h : loadingAtStart s access) :
    s.beginEvent.accessExpiry = s.beginEvent.startUpEnd none .noAnswer := by
  obtain ⟨_, hunit, _, _, hlast, _⟩ := h
  unfold State.accessExpiry
  rw [show s.beginEvent.sl.unit = .loading from hunit]
  exact if_pos hlast

theorem reaches_startUpEnd_of_read (h : loadingAtStart s access) : reaches (.settingsReadComplete access) s
    (s.beginEvent.startUpEnd s.memory.settings (if s.memory.settings.isSome then .ok else .badImage)) :=
  reaches_event rfl h.1 (readComplete_of_loadingAtStart h)

theorem reaches_startUpEnd_of_expiry (h : loadingAtStart s access) (hdue : s.sl.accessTimer = some 0) :
    reaches .accessTimerExpiry s (s.beginEvent.startUpEnd none .noAnswer) :=
  reaches_eventWhen rfl h.1 (by rw [hdue]; rfl) (accessExpiry_of_loadingAtStart h)

end LoadEnd

theorem State.seatUpdate_clb (s : State) (p : SeatNo) : (s.seatUpdate p).clb = s.clb := by
  unfold State.seatUpdate State.seatDown
  (repeat' split) <;> simp

theorem State.setSeatProfile_clb (s : State) (p : SeatNo) (profile : SeatProfile) : (s.setSeatProfile p profile).clb = s.clb := by
  unfold State.setSeatProfile
  dsimp only
  split <;> simp [State.seatUpdate_clb]

theorem State.seatsGiven_clb (s : State) (x : Settings) : (s.seatsGiven x).clb = s.clb := by
  have h := foldl_keeps State.clb (f := fun (t : State) p => t.setSeatProfile p (x.seats.getD p.val {}))
    (fun t p => t.setSeatProfile_clb p _) allSeats (b := s) rfl
  rw [State.seatsGiven, State.onSpb_clb]
  exact h

/-- With every link HELD no link leaves READY, whatever the settings (R141). -/
theorem State.giveSettings_held {s : State} (h : ∀ c, (s.link c).state = .held) (x : Settings) (c : LinkNo) :
    ((s.giveSettings x).link c).statusIn = (s.link c).statusIn := by
  have hlink := State.link_eq_of_clb (s.seatsGiven_clb x)
  have hnone : (s.seatsGiven x).disabledBy x.linkProfile = [] := by
    refine List.filter_eq_nil_iff.2 fun d _ => ?_
    rw [hlink, h d]
    simp
  rw [State.giveSettings_eq, hnone, State.leaveReady_nil]
  rw [State.withTimings_link, State.withLinkProfiles_link, hlink]

end Sys2Proof.Machine

namespace Sys2Proof.Proofs

open Sys2Proof.Machine

/-- Settles O9: the end of the start-up load gives the settings found, or the factory's (`startUpEnd_gives`). -/
theorem startUpLoadEnds : Obligations.StartUpLoadEnds := by
  refine ⟨fun s access x h hx => ?_, fun s access h hx => ?_, fun s access h hdue => ?_⟩
  · have hreaches := reaches_startUpEnd_of_read h
    obtain ⟨_, _, _, _, _, hfore, haft⟩ := h
    rw [hx] at hreaches
    obtain ⟨hsettings, hvehicle, hmemory, hsl, _⟩ := State.startUpEnd_gives (s := s.beginEvent) (found := some x) (outcome := .ok)
      (.of_image hx) hfore haft
    exact ⟨_, hreaches, hsettings, hvehicle, congrArg Loader.unit hsl, congrArg Loader.accessTimer hsl, congrArg Loader.outcome hsl,
      congrArg Loader.source hsl, congrArg (fun b => b.counts.loadsFromImage) hsl, hmemory⟩
  · have hreaches := reaches_startUpEnd_of_read h
    obtain ⟨_, _, _, _, _, hfore, haft⟩ := h
    rw [hx] at hreaches
    obtain ⟨hsettings, hvehicle, hmemory, hsl, hraised, _⟩ := State.startUpEnd_gives (s := s.beginEvent) (found := none)
      (outcome := .badImage) Settings.whole_factory hfore haft
    exact ⟨_, hreaches, hsettings, hvehicle, congrArg Loader.unit hsl, congrArg Loader.accessTimer hsl, congrArg Loader.outcome hsl,
      congrArg Loader.source hsl, hraised .settingsFault nofun, congrArg (fun b => b.counts.loadsDefaulted) hsl, hmemory⟩
  · have hreaches := reaches_startUpEnd_of_expiry h hdue
    obtain ⟨_, _, _, _, _, hfore, haft⟩ := h
    obtain ⟨hsettings, hvehicle, hmemory, hsl, hraised, _⟩ := State.startUpEnd_gives (s := s.beginEvent) (found := none)
      (outcome := .noAnswer) Settings.whole_factory hfore haft
    exact ⟨_, hreaches, hsettings, hvehicle, congrArg Loader.unit hsl, congrArg Loader.accessTimer hsl, congrArg Loader.outcome hsl,
      congrArg Loader.source hsl, hraised .settingsFault nofun, hmemory⟩

/-- Settles O10: whatever was found, the load's end releases the ports (`startUpEnd_gives`). -/
theorem portsReleasedAtLoadEnd : Obligations.PortsReleasedAtLoadEnd := by
  intro s access i h hheld hi
  have hends : ∃ found outcome, (found.getD factorySettings).Whole ∧ reaches i s (s.beginEvent.startUpEnd found outcome) := by
    rcases hi with rfl | ⟨rfl, hdue⟩
    · refine ⟨_, _, ?_, reaches_startUpEnd_of_read h⟩
      cases hx : s.memory.settings with
      | none => exact Settings.whole_factory
      | some x => exact .of_image hx
    · exact ⟨none, _, Settings.whole_factory, reaches_startUpEnd_of_expiry h hdue⟩
  obtain ⟨found, outcome, hx, hreaches⟩ := hends
  obtain ⟨_, _, _, _, _, hfore, haft⟩ := h
  obtain ⟨_, _, _, _, _, htrunks, hlinks, hsides, hminute, hentries, hrunning, hblink⟩ :=
    State.startUpEnd_gives (s := s.beginEvent) (outcome := outcome) hx hfore haft
  refine ⟨_, hreaches, htrunks, fun c => ?_, fun side => ?_, hminute, hentries, hrunning, hblink⟩
  · rw [hlinks c, State.giveSettings_held (s := s.beginEvent) hheld]
    rfl
  · rw [hsides side]
    exact ⟨rfl, rfl, rfl, rfl, rfl⟩

end Sys2Proof.Proofs
end

section
/-! PROOFS. The lamps' effects (O37). -/

namespace Sys2Proof.Machine

/-! ### The strongest effect (R133) -/

theorem Effect.eq_none_of_strength {e : Effect} (h : e.strength = 0) : e = .none := by
  cases e
  case none => rfl
  all_goals cases h

theorem Effect.none_stronger (e : Effect) : Effect.none.stronger e = e := by
  unfold Effect.stronger
  split
  · rfl
  · next h => exact (Effect.eq_none_of_strength (by simpa [Effect.strength] using h)).symm

theorem Effect.stronger_strength (a b : Effect) : (a.stronger b).strength = max a.strength b.strength := by
  unfold Effect.stronger
  split <;> omega

theorem Effect.stronger_eq (a b : Effect) : a.stronger b = a ∨ a.stronger b = b := by
  unfold Effect.stronger
  split
  · exact Or.inr rfl
  · exact Or.inl rfl

/-- The strongest of an effect and of those of a list whose conditions hold. -/
def Effect.strongestOf (e : Effect) (given : List (Effect × Bool)) : Effect := given.foldl (fun a p => a.stronger (p.1.when p.2)) e

theorem Effect.strongestOf_spec (given : List (Effect × Bool)) (e : Effect) :
    (e.strongestOf given = e ∨ e.strongestOf given = .none ∨ (e.strongestOf given, true) ∈ given)
    ∧ e.strength ≤ (e.strongestOf given).strength
    ∧ ∀ d, (d, true) ∈ given → d.strength ≤ (e.strongestOf given).strength := by
  induction given generalizing e with
  | nil => exact ⟨Or.inl rfl, le_refl _, nofun⟩
  | cons p rest ih =>
    obtain ⟨d, holds⟩ := p
    have hcons : e.strongestOf ((d, holds) :: rest) = (e.stronger (d.when holds)).strongestOf rest := rfl
    rw [hcons]
    obtain ⟨hwhich, hle, hall⟩ := ih (e.stronger (d.when holds))
    have hstrength := e.stronger_strength (d.when holds)
    refine ⟨?_, by omega, fun f hf => ?_⟩
    · rcases hwhich with h | h | h
      · rw [h]
        rcases e.stronger_eq (d.when holds) with h' | h'
        · exact Or.inl h'
        · rw [h']
          cases holds with
          | true => exact Or.inr (Or.inr List.mem_cons_self)
          | false => exact Or.inr (Or.inl rfl)
      · exact Or.inr (Or.inl h)
      · exact Or.inr (Or.inr (List.mem_cons_of_mem _ h))
    · rcases List.mem_cons.1 hf with h | h
      · obtain ⟨rfl, rfl⟩ := Prod.mk.inj h
        have hwhen : f.when true = f := rfl
        rw [hwhen] at hstrength hle ⊢
        omega
      · exact hall f h

/-- The conditions of a seat, each with the effect that the rule set gives it (R129, R130). -/
def LampRules.given (r : LampRules) (c : LampConditions) : List (Effect × Bool) :=
  [(r.linkUp, c.linkUp), (r.clientAttached, c.clientAttached), (r.entitled, c.entitled), (r.parked, c.parked), (r.activity, c.activity),
    (r.lampBarred, c.lampBarred)]

theorem strongestEffect_eq (r : LampRules) (c : LampConditions) : strongestEffect r c = Effect.none.strongestOf (r.given c) := by
  have hcons : Effect.none.strongestOf (r.given c)
    = (Effect.none.stronger (r.linkUp.when c.linkUp)).strongestOf (r.given c).tail := rfl
  rw [hcons, Effect.none_stronger]
  rfl

theorem strongestEffect_spec (r : LampRules) (c : LampConditions) :
    (strongestEffect r c = .none ∨ (strongestEffect r c, true) ∈ r.given c)
    ∧ (∀ e, (e, true) ∈ r.given c → e.strength ≤ (strongestEffect r c).strength)
    ∧ ((∀ e, (e, true) ∈ r.given c → e = .none) → strongestEffect r c = .none) := by
  rw [strongestEffect_eq]
  obtain ⟨hwhich, _, hall⟩ := Effect.strongestOf_spec (r.given c) .none
  have hsome : Effect.none.strongestOf (r.given c) = .none
      ∨ (Effect.none.strongestOf (r.given c), true) ∈ r.given c := by
    rcases hwhich with h | h | h
    · exact Or.inl h
    · exact Or.inl h
    · exact Or.inr h
  refine ⟨hsome, hall, fun h => ?_⟩
  rcases hsome with h' | h'
  · exact h'
  · exact h _ h'

/-! ### The resolved output -/

theorem lampOutput_effect (e : Effect) (brightness : Nat) : (lampOutput e brightness).effect = e := by
  unfold lampOutput
  split
  · next h => exact h.symm
  · rfl

theorem lampOutput_duty (e : Effect) (brightness : Nat) :
    (lampOutput e brightness).duty = if (lampOutput e brightness).effect = .none then 0 else brightness := by
  rw [lampOutput_effect]
  unfold lampOutput
  split <;> rfl

theorem State.resolveLamp_effect (s : State) (p : SeatNo) :
    (s.resolveLamp p).effect = (s.seat p).force.effect.getD (strongestEffect s.spb.rules (s.lampConditions p)) := lampOutput_effect _ _

/-- The lamp items of a seat's answer, where R223's widths put them (R138; log entry 21). -/
theorem State.seatAnswer_lamp (s : State) (p : SeatNo) : field (s.seatAnswer p) 17 6 = (s.lampConditions p).bytes
    ∧ byteAt (s.seatAnswer p) 31 = (s.seat p).force.code ∧ field (s.seatAnswer p) 32 2 = (s.seat p).resolved.bytes := by
  have hconditions : (s.lampConditions p).bytes.length = 6 := rfl
  have hresolved : (s.seat p).resolved.bytes.length = 2 := rfl
  unfold State.seatAnswer
  dsimp only
  refine ⟨?_, ?_, ?_⟩ <;>
    simp [field_append_of_le, field_append_head, byteAt_append_of_le, beBytes_length, timeBytes_length, seatProfileBytes_length,
      hconditions, hresolved]

end Sys2Proof.Machine

namespace Sys2Proof.Proofs

open Sys2Proof.Machine

/-- Settles O37: from `strongestEffect_spec`, the answer's layout, and the start-up load's end (`startUpEnd_gives`). -/
theorem lampEffectIsTheStrongest : Obligations.LampEffectIsTheStrongest := by
  refine ⟨fun u p => (lampsResolvedAfterEveryEvent u p).1, by decide, by decide, by decide, strongestEffect_spec, fun s p => ?_,
    fun s access h hx => ?_⟩
  · have heffect := s.resolveLamp_effect p
    obtain ⟨hconditions, hforce, hresolved⟩ := s.seatAnswer_lamp p
    refine ⟨fun h => ?_, fun h => ?_, fun h => ?_, fun h => ?_, fun h => ?_, lampOutput_duty _ _, hconditions, hforce, hresolved⟩ <;>
    · rw [heffect, h]
      rfl
  · have hreaches : reaches (.settingsReadComplete access) s (s.beginEvent.startUpEnd none .badImage) := by
      have hread := reaches_startUpEnd_of_read h
      rw [hx] at hread
      exact hread
    obtain ⟨_, _, _, _, _, hfore, haft⟩ := h
    obtain ⟨hsettings, _⟩ := State.startUpEnd_gives (s := s.beginEvent) (found := none) (outcome := .badImage) Settings.whole_factory
      hfore haft
    generalize s.beginEvent.startUpEnd none .badImage = u at *
    exact ⟨u, hreaches, congrArg Settings.brightness hsettings, congrArg Settings.rules hsettings⟩

end Sys2Proof.Proofs
end

section
/-! SUPPORT and PROOFS. Frames from the backbone: what becomes of the slot, and where the frame goes (O19). -/

namespace Sys2Proof.Machine

/-! ### One slot claimed -/

/-- Slot `k`, free before, holds `x`, and every other slot stands as it did. -/
structure State.Claims (s w : State) (k : Nat) (x : Slot) : Prop where
  free : s.fs.slots.get k = none
  held : w.fs.slots.get k = some x
  others : ∀ j, j ≠ k → w.fs.slots.get j = s.fs.slots.get j

namespace State.Claims

variable {s w u : State} {k : Nat} {x : Slot}

theorem slotTaken (h : s.Claims w k x) : slotTaken s w k x.frame x.refs := by
  refine ⟨h.free, ?_, ?_, h.others⟩
  · rw [State.slotFrame, h.held]
  · rw [State.refsOf, h.held]

/-- Only the slots are read. -/
theorem of_slots (h : s.Claims w k x) (hu : u.fs.slots = w.fs.slots) : s.Claims u k x :=
  ⟨h.free, by rw [hu]; exact h.held, fun j hj => by rw [hu]; exact h.others j hj⟩

theorem claimed (hinv : Inv s) (x : Slot) : s.Claims (s.claimed x (s.fs.slots.firstFree 0)) (s.fs.slots.firstFree 0) x :=
  ⟨Table.get_firstFree hinv.slots.1 0, by rw [State.claimed_slots, Table.get_put_self], fun j hj => by
    rw [State.claimed_slots, Table.get_put_of_ne _ _ _ _ hj]⟩

theorem addRef (h : s.Claims w k x) : s.Claims (w.addRef k) k { x with refs := x.refs + 1 } where
  free := h.free
  held := by
    change (w.fs.slots.modify k _).get k = _
    rw [Table.get_modify_self, h.held]
    rfl
  others j hj := (Table.get_modify_of_ne _ _ hj).trans (h.others j hj)

theorem append (h : s.Claims w k x) {port : Port} {e : Entry} {looped : Bool} (he : e.slot = k)
    (ht : w.appendTest port looped = none) : s.Claims (w.append port e looped).1 k { x with refs := x.refs + 1 } where
  free := h.free
  held := by
    rw [State.append_slots, if_pos ht, he, Table.get_modify_self, h.held]
    rfl
  others j hj := by
    rw [State.append_slots, if_pos ht, he, Table.get_modify_of_ne _ _ hj]
    exact h.others j hj

theorem append_refused (h : s.Claims w k x) {port : Port} {looped : Bool} {why : Refused} (e : Entry)
    (ht : w.appendTest port looped = some why) : s.Claims (w.append port e looped).1 k x :=
  h.of_slots (by rw [State.append_slots, if_neg (by rw [ht]; simp)])

/-- A slot that no entry took is free again (R31). -/
theorem settle (h : s.Claims w k x) (hx : x.refs = 0) (j : Nat) : (w.settle k).fs.slots.get j = s.fs.slots.get j := by
  unfold State.settle
  rw [h.held]
  dsimp only
  rw [if_pos hx, State.freeSlot_slots, Table.get_del]
  split
  · next hj => rw [hj, h.free]
  · next hj => exact h.others j hj

end State.Claims

/-! ### The test of R35 -/

theorem State.appendTest_congr {s t : State} {port : Port} (hspb : t.spb = s.spb) (hclb : t.clb = s.clb) (hcu : t.cu = s.cu)
    (hq : t.queue port = s.queue port) (looped : Bool) : t.appendTest port looped = s.appendTest port looped := by
  have htransmits : t.transmits port = s.transmits port := by
    cases port with
    | seat p => exact congrArg Seat.up (congrFun (State.seat_eq_of_spb hspb) p)
    | ceiling c => exact congrArg (fun l : Link => l.state == .ready) (congrFun (State.link_eq_of_clb hclb) c)
    | backbone x => exact congrFun (State.coupled_eq_of_cu hcu) x
  have hloop : t.inLoopback port = s.inLoopback port := by
    cases port with
    | seat p => exact congrArg (fun x : Seat => x.profile.loopback) (congrFun (State.seat_eq_of_spb hspb) p)
    | ceiling c => rfl
    | backbone x => rfl
  unfold State.appendTest
  rw [htransmits, hloop, hq]

theorem State.coupled_of_appendTest {s : State} {side : Side} (h : s.appendTest (.backbone side) false = none) :
    s.coupled side = true := by
  unfold State.appendTest at h
  cases hc : s.coupled side with
  | true => rfl
  | false =>
    have htransmits : s.transmits (.backbone side) = false := hc
    simp [State.inLoopback, htransmits] at h

/-! ### What an append and a settling leave -/

theorem State.settle_queue (s : State) (k : Nat) : (s.settle k).queue = s.queue := by
  unfold State.settle
  (repeat' split)
  · rfl
  · exact s.freeSlot_queue k
  · rfl

theorem State.append_joins (s : State) {port : Port} {e : Entry} {looped : Bool} (h : s.appendTest port looped = none) :
    joins s (s.append port e looped).1 port [e] :=
  ⟨by rw [State.append_entries, if_pos h], fun _ hq => s.append_queue_of_ne e looped hq⟩

theorem State.append_portCounts (s : State) {port : Port} {looped : Bool} {why : Refused} (e : Entry)
    (h : s.appendTest port looped = some why) : portCounts s (s.append port e looped).1 port fun c => why.count c := by
  rw [State.append_some h]
  exact ⟨s.queue_setQueue_self port _, fun q hq => s.queue_setQueue_of_ne _ hq⟩

theorem State.append_only (s : State) (port : Port) (e : Entry) (looped : Bool) : s.onlyChanges (s.append port e looped).1 [.fs] := by
  simp [State.onlyChanges_iff]

/-- What joins a queue of a state with the same queues. -/
theorem joins_congr {s t u : State} {port : Port} {es : List Entry} (h : joins t u port es) (hq : t.queue = s.queue) :
    joins s u port es := by
  obtain ⟨hself, hothers⟩ := h
  exact ⟨by rw [hself, hq], fun q hne => by rw [hothers q hne, hq]⟩

theorem portCounts_congr {s t u : State} {port : Port} {f : PortCounters → PortCounters} (h : portCounts t u port f)
    (hq : t.queue = s.queue) : portCounts s u port f := by
  obtain ⟨hself, hothers⟩ := h
  exact ⟨by rw [hself, hq], fun q hne => by rw [hothers q hne, hq]⟩

/-! ### A frame in hand -/

section InHand

variable {s : State} {side : Side} {frame : Bytes}

theorem State.inHandOf_only (s : State) (f : Inbound) : s.onlyChanges (s.inHandOf f) [.fs, .me] := by
  have h := s.inHandOf_carried f True
  exact State.onlyChanges_iff.2 ⟨fun _ => h.ct, fun _ => h.mc, fun _ => h.sau, fun _ => h.el, fun hb => absurd (by simp) hb,
    fun _ => h.spb, fun _ => h.clb, fun _ => h.cu, fun hb => absurd (by simp) hb, fun _ => h.sl, fun _ => h.memory, h.pending,
    h.resetLine⟩

theorem State.inHandOf_claims (hinv : Inv s) (f : Inbound) : s.Claims (s.inHandOf f) (s.fs.slots.firstFree 0)
    { frame := f.frame, origin := .backbone f.side, refs := 0, resetResponse := false } :=
  (State.Claims.claimed (s := s) hinv _).of_slots (by
    rw [State.inHandOf_slots, State.claimed_slots])

theorem State.inHandOf_appendTest (s : State) (f : Inbound) (port : Port) (looped : Bool) :
    (s.inHandOf f).appendTest port looped = s.appendTest port looped := by
  have h := s.inHandOf_carried f True
  exact State.appendTest_congr h.spb h.clb h.cu (by rw [State.inHandOf_queue]) looped

theorem State.inHandOf_addressing (s : State) (f : Inbound) : (s.inHandOf f).me.addressing = s.me.addressing :=
  s.engineAfterClaim_addressing

/-- A frame that a port accepts is forwarded (R42). -/
theorem reaches_forward (h : s.acceptsFrame side frame) : reaches (.backboneFrameArrival side frame) s
    ((s.inHandOf (inboundOf side frame)).forward (inboundOf side frame) (s.fs.slots.firstFree 0)) := by
  obtain ⟨hline, hcoupled, hcheck, hmin, hmax, hfree⟩ := h
  refine reaches_event rfl hline ?_
  rw [State.backboneFrame, State.onCoupledPort, if_pos (by exact hcoupled), State.checkFrame, hcheck]
  simp only [Bool.not_true, Bool.false_eq_true, if_false]
  rw [if_neg (by omega), if_neg (by omega), State.acceptFrame_eq hfree]

/-- R43, the last line of its table: a frame whose destination is none of the part's own. -/
theorem State.forward_client {f : Inbound} (h : s.notOwn f.dst) {n : Nat} {r : Record} (hr : s.byAddr f.dst = some (n, r)) (k : Nat) :
    (s.inHandOf f).forward f k = (s.inHandOf f).toClient k n r := by
  obtain ⟨hcabinet, hall, hgroup⟩ := h
  have hbyAddr := congrFun (byAddr_congr (s.inHandOf_carried f True).ct) f.dst
  unfold State.forward
  dsimp only
  rw [s.inHandOf_addressing f, if_neg hcabinet, if_neg hall, if_neg hgroup, hbyAddr, hr]

theorem State.forward_unknown {f : Inbound} (h : s.notOwn f.dst) (hnone : s.byAddr f.dst = none) (k : Nat) : (s.inHandOf f).forward f k
    = if isMulticast f.dst then (s.inHandOf f).offerCopies f.side f.dst k else (s.inHandOf f).unknownUnicast f.side k := by
  obtain ⟨hcabinet, hall, hgroup⟩ := h
  have hbyAddr := congrFun (byAddr_congr (s.inHandOf_carried f True).ct) f.dst
  unfold State.forward
  dsimp only
  rw [s.inHandOf_addressing f, if_neg hcabinet, if_neg hall, if_neg hgroup, hbyAddr, hnone]

end InHand

/-! ### Forwarding to one place -/

section OnePlace

variable {s w : State} {side : Side} {frame : Bytes} {k : Nat} {x : Slot}

/-- What a frame in hand finds: its slot claimed, nothing else of the part touched but the engine's marks. -/
structure State.Finds (s w : State) (k : Nat) (x : Slot) : Prop where
  claims : s.Claims w k x
  refs : x.refs = 0
  queue : w.queue = s.queue
  only : s.onlyChanges w [.fs, .me]
  counts : w.fs.counts = s.fs.counts

theorem State.inHandOf_finds (hinv : Inv s) (f : Inbound) : s.Finds (s.inHandOf f) (s.fs.slots.firstFree 0)
    { frame := f.frame, origin := .backbone f.side, refs := 0, resetResponse := false } where
  claims := State.inHandOf_claims hinv f
  refs := rfl
  queue := s.inHandOf_queue f
  only := s.inHandOf_only f
  counts := (s.inHandOf_carried f True).counts

variable (h : s.Finds w k x)

include h

theorem State.Finds.appendTest (port : Port) (looped : Bool) : w.appendTest port looped = s.appendTest port looped := by
  obtain ⟨_, _, _, _, _, hspb, hclb, hcu, _⟩ := State.onlyChanges_iff.1 h.only
  exact State.appendTest_congr (hspb (by simp)) (hclb (by simp)) (hcu (by simp)) (by rw [h.queue]) looped

/-- A frame that joins one queue (R35). -/
theorem State.Finds.append {port : Port} {e : Entry} (he : e.slot = k) (ht : s.appendTest port false = none) :
    slotTaken s (w.append port e false).1 k x.frame 1 ∧ joins s (w.append port e false).1 port [e]
      ∧ s.onlyChanges (w.append port e false).1 [.fs, .me] := by
  have ht' := (h.appendTest port false).trans ht
  have htaken := (h.claims.append he ht').slotTaken
  dsimp only at htaken
  rw [h.refs] at htaken
  exact ⟨htaken, joins_congr (w.append_joins ht') h.queue, h.only.trans ((w.append_only port e false).mono (by simp))⟩

/-- A frame that a queue refuses (R35). -/
theorem State.Finds.append_refused {port : Port} {why : Refused} (e : Entry) (ht : s.appendTest port false = some why) :
    slotTaken s (w.append port e false).1 k x.frame 0 ∧ portCounts s (w.append port e false).1 port (fun c => why.count c)
      ∧ s.onlyChanges (w.append port e false).1 [.fs, .me] := by
  have ht' := (h.appendTest port false).trans ht
  have htaken := (h.claims.append_refused e ht').slotTaken
  rw [h.refs] at htaken
  exact ⟨htaken, portCounts_congr (w.append_portCounts e ht') h.queue, h.only.trans ((w.append_only port e false).mono (by simp))⟩

/-- A frame that only a counter tells of. -/
theorem State.Finds.countFs (f : FsCounters → FsCounters) : slotTaken s (w.countFs f) k x.frame 0 ∧ queuesSame s (w.countFs f)
    ∧ s.onlyChanges (w.countFs f) [.fs, .me] ∧ (w.countFs f).fs.counts = f s.fs.counts := by
  have htaken := (h.claims.of_slots (u := w.countFs f) rfl).slotTaken
  rw [h.refs] at htaken
  refine ⟨htaken, fun q => ?_, h.only.trans (State.onlyChanges_iff.2 (by simp [State.countFs])), congrArg f h.counts⟩
  rw [← h.queue]
  rcases q with p | c | (_ | _) <;> rfl

/-- R44, R46: on to the other port. -/
theorem State.Finds.transit (ht : s.appendTest (.backbone (otherSide side)) false = none) :
    w.transit side k = (w.append (.backbone (otherSide side)) { slot := k } false).1 := by
  unfold State.transit
  rw [if_pos]
  exact State.coupled_of_appendTest ((h.appendTest _ _).trans ht)

theorem State.Finds.record (n : Nat) : w.record n = s.record n := by
  obtain ⟨hct, _⟩ := State.onlyChanges_iff.1 h.only
  exact congrFun (State.record_eq_of_ct (hct (by simp))) n

theorem State.Finds.coupled (y : Side) : w.coupled y = s.coupled y := by
  obtain ⟨_, _, _, _, _, _, _, hcu, _⟩ := State.onlyChanges_iff.1 h.only
  exact congrFun (State.coupled_eq_of_cu (hcu (by simp))) y

/-- R58: a frame held for a MOVING client. -/
theorem State.Finds.hold {n : Nat} {r : Record} {target : Place} {c : LinkNo} {a : AssocNo} {t : Timer} {hold : List Nat}
    (hr : s.record n = some r) (hst : r.st = .moving target c a t hold) (hroom : hold.length < 32) :
    slotTaken s (w.holdFrame n k) k x.frame 1
      ∧ (w.holdFrame n k).record n = some { r with st := .moving target c a t (hold ++ [k]) }
      ∧ otherRecords s (w.holdFrame n k) n ∧ queuesSame s (w.holdFrame n k) ∧ s.onlyChanges (w.holdFrame n k) [.fs, .me, .ct] := by
  have heq : w.holdFrame n k = (w.addRef k).onRecord n fun y => { y with st := .moving target c a t (hold ++ [k]) } := by
    unfold State.holdFrame
    rw [h.record, hr]
    dsimp only
    rw [hst]
    exact if_pos hroom
  have htaken := (h.claims.addRef.of_slots (u := w.holdFrame n k) (by rw [heq]; rfl)).slotTaken
  dsimp only at htaken
  rw [h.refs] at htaken
  rw [heq] at htaken ⊢
  have hrecord : ∀ m, (w.addRef k).record m = s.record m := h.record
  refine ⟨htaken, ?_, fun m hm => ?_, fun q => ?_, ?_⟩
  · rw [State.onRecord_record, if_pos rfl, hrecord, hr]
    rfl
  · rw [State.onRecord_record, if_neg hm, hrecord]
  · rw [← h.queue, ← State.addRef_queue w k]
    rfl
  · refine (h.only.mono (by simp)).trans (State.onlyChanges_iff.2 ?_)
    simp [State.addRef, State.onRecord]

/-- R58: the hold queue is full, and the frame is dropped. -/
theorem State.Finds.hold_full {n : Nat} {r : Record} {target : Place} {c : LinkNo} {a : AssocNo} {t : Timer} {hold : List Nat}
    (hr : s.record n = some r) (hst : r.st = .moving target c a t hold) (hfull : 32 ≤ hold.length) :
    (w.holdFrame n k).mc.counts.holdQueueDrops = bump s.mc.counts.holdQueueDrops
      ∧ (w.holdFrame n k).mc.releaseTimeout = s.mc.releaseTimeout
      ∧ (∀ j, (w.holdFrame n k).fs.slots.get j = s.fs.slots.get j) ∧ queuesSame s (w.holdFrame n k)
      ∧ s.onlyChanges (w.holdFrame n k) [.fs, .me, .mc] := by
  have heq : w.holdFrame n k = (w.countMc fun c => { c with holdQueueDrops := bump c.holdQueueDrops }).settle k := by
    unfold State.holdFrame
    rw [h.record, hr]
    dsimp only
    rw [hst]
    exact if_neg (by omega)
  obtain ⟨_, hmc, _⟩ := State.onlyChanges_iff.1 h.only
  rw [heq]
  refine ⟨?_, ?_, (h.claims.of_slots (u := w.countMc _) rfl).settle h.refs, fun q => ?_, ?_⟩
  · simp [State.countMc, hmc (by simp)]
  · simp [State.countMc, hmc (by simp)]
  · rw [State.settle_queue, ← h.queue]
    rfl
  · exact (h.only.mono (by simp)).trans (State.onlyChanges_iff.2 (by simp [State.countMc]))

end OnePlace

theorem State.handOverIf_none (s : State) {f : Inbound} (h : f.management = none) (enabled : Bool) : s.handOverIf f enabled = s := by
  unfold State.handOverIf
  rw [h]

theorem State.handOverIf_disabled (s : State) (f : Inbound) : s.handOverIf f false = s := by
  unfold State.handOverIf
  split <;> rfl

/-- R44, R188: a group or all-cabinets frame that is not handed to the engine is in transit only. -/
theorem State.forward_transit {s : State} {f : Inbound} (hne : f.dst ≠ s.me.addressing.cabinet) (hown : ¬ s.notOwn f.dst)
    (hhands : f.management = none ∨ (f.dst = allCabinets ∧ s.me.addressing.allEnable = false)) (k : Nat) :
    (s.inHandOf f).forward f k = (s.inHandOf f).transit f.side k := by
  unfold State.forward
  dsimp only
  rw [s.inHandOf_addressing f, if_neg hne]
  rcases hhands with hnone | ⟨hall, hdisabled⟩
  · split
    · exact State.handOverIf_none _ hnone _
    · next hall =>
      rw [if_pos]
      · exact State.handOverIf_none _ hnone _
      · by_contra hgroup
        exact hown ⟨hne, hall, hgroup⟩
  · rw [if_pos hall, hdisabled]
    exact State.handOverIf_disabled _ f

theorem inboundOf_management_eq_none {side : Side} {frame : Bytes} (h : frameType frame ≠ managementType) :
    (inboundOf side frame).management = none := if_neg h

/-- R188: a frame for all cabinets or for the group that the engine does not read. -/
theorem State.notHanded {s : State} {side : Side} {frame : Bytes} (hne : frameDst frame ≠ s.me.addressing.cabinet)
    (hown : ¬ s.notOwn (frameDst frame)) (hhands : ¬ s.handsOver frame) : (inboundOf side frame).management = none
      ∨ ((inboundOf side frame).dst = allCabinets ∧ s.me.addressing.allEnable = false) := by
  by_cases htype : frameType frame = managementType
  · by_cases hall : frameDst frame = allCabinets
    · refine Or.inr ⟨hall, ?_⟩
      by_contra henable
      exact hhands ⟨htype, Or.inr (Or.inl ⟨hall, by simpa using henable⟩)⟩
    · exact absurd ⟨hne, hall, fun hgroup => hhands ⟨htype, Or.inr (Or.inr ⟨hgroup.1, hgroup.2, hall⟩)⟩⟩ hown
  · exact Or.inl (inboundOf_management_eq_none htype)

/-- R43: a frame to the cabinet address that carries no management message. -/
theorem State.forward_notForCabinet {s : State} {f : Inbound} (hdst : f.dst = s.me.addressing.cabinet) (htype : f.management = none)
    (k : Nat) : (s.inHandOf f).forward f k = (s.inHandOf f).countFs fun c => { c with notForCabinet := bump c.notForCabinet } := by
  unfold State.forward
  dsimp only
  rw [s.inHandOf_addressing f, if_pos hdst, htype]
  rfl

end Sys2Proof.Machine

namespace Sys2Proof.Proofs

open Sys2Proof.Machine

/-- Settles O19: the frame is in hand (`reaches_forward`), R43's table sends it one way, and the place takes it or refuses it. -/
theorem forwardingToOneDestination : Obligations.ForwardingToOneDestination := by
  intro s side frame hinv haccepts
  dsimp only
  have hgo := reaches_forward haccepts
  have hfinds := State.inHandOf_finds hinv (inboundOf side frame)
  have hdst : (inboundOf side frame).dst = frameDst frame := rfl
  have hside : (inboundOf side frame).side = side := rfl
  have hbytes : (inboundOf side frame).frame = frame := rfl
  have hnotHanded := s.notHanded (side := side) (frame := frame)
  have hplain := inboundOf_management_eq_none (side := side) (frame := frame)
  generalize inboundOf side frame = f at *
  subst hbytes
  rw [← hdst, ← hside] at *
  have hclient : ∀ n r, s.notOwn f.dst → s.owns f.dst n r →
      (s.inHandOf f).forward f (s.fs.slots.firstFree 0) = (s.inHandOf f).toClient (s.fs.slots.firstFree 0) n r := fun n r hown howns =>
    State.forward_client hown howns _
  have hunknown : s.notOwn f.dst → s.byAddr f.dst = none → isMulticast f.dst = false →
      (s.inHandOf f).forward f (s.fs.slots.firstFree 0) = (s.inHandOf f).unknownUnicast f.side (s.fs.slots.firstFree 0) :=
    fun hown hnone hcast => by
      rw [State.forward_unknown hown hnone, if_neg (by simp [hcast])]
  have htransit := State.forward_transit (s := s) (f := f) (k := s.fs.slots.firstFree 0)
  have hcabinet := State.forward_notForCabinet (s := s) (f := f) (k := s.fs.slots.firstFree 0)
  have hrecord : ∀ n r, s.owns f.dst n r → s.record n = some r := fun n r howns =>
    (State.findRecord_some hinv.records.1 howns).1
  generalize s.inHandOf f = w at *
  generalize s.fs.slots.firstFree 0 = k at *
  refine ⟨fun n r pl t hown howns hst ht => ?_, fun n r pl t why hown howns hst ht => ?_,
    fun n r target c a t hold hown howns hst hroom => ?_, fun n r target c a t hold hown howns hst hfull => ?_,
    fun n r t hown howns hst => ?_, fun hown hnone hcast ht => ?_, fun hown hnone hcast hnot => ?_, fun hcab htype => ?_,
    fun hne hown hhands ht => ?_⟩
  · rw [hclient n r hown howns, State.toClient, hst] at hgo
    exact ⟨_, k, hgo, hfinds.append (by cases pl <;> rfl) ht⟩
  · rw [hclient n r hown howns, State.toClient, hst] at hgo
    exact ⟨_, k, hgo, hfinds.append_refused _ ht⟩
  · rw [hclient n r hown howns, State.toClient, hst] at hgo
    exact ⟨_, k, hgo, hfinds.hold (hrecord n r howns) hst hroom⟩
  · rw [hclient n r hown howns, State.toClient, hst] at hgo
    exact ⟨_, hgo, hfinds.hold_full (hrecord n r howns) hst hfull⟩
  · rw [hclient n r hown howns, State.toClient, hst] at hgo
    exact ⟨_, k, hgo, hfinds.countFs _⟩
  · have hcoupled := State.coupled_of_appendTest ht
    rw [hunknown hown hnone hcast, State.unknownUnicast, if_pos (by rw [hfinds.coupled]; exact hcoupled),
      hfinds.transit ht] at hgo
    exact ⟨_, k, hgo, hfinds.append rfl ht⟩
  · rw [hunknown hown hnone hcast, State.unknownUnicast, if_neg (by rw [hfinds.coupled, hnot]; simp)] at hgo
    exact ⟨_, k, hgo, hfinds.countFs _⟩
  · rw [hcabinet hcab (hplain htype)] at hgo
    exact ⟨_, k, hgo, hfinds.countFs _⟩
  · rw [htransit hne hown (hnotHanded hne hown hhands), hfinds.transit ht] at hgo
    exact ⟨_, k, hgo, hfinds.append rfl ht⟩

end Sys2Proof.Proofs
end

section
/-! PROOFS. Copies of a broadcast or multicast frame (O20). -/

namespace Sys2Proof.Machine

/-! ### One slot offered to several queues -/

/-- One slot offered to the queues of a list of ports, one after the other (R47). -/
def State.offerTo (s : State) (k : Nat) (ports : List Port) : State :=
  ports.foldl (fun t port => (t.append port { slot := k } false).1) s

/-- A port that an offered copy reaches: it transmits and is not in loopback. -/
def State.open (s : State) (port : Port) : Prop := s.transmits port = true ∧ s.inLoopback port = false

theorem State.appendTest_open {s : State} {port : Port} (h : s.open port) :
    s.appendTest port false = if s.hasRoom port then none else some .full := by
  obtain ⟨htransmits, hloop⟩ := h
  unfold State.appendTest State.hasRoom
  rw [htransmits, hloop]
  by_cases hroom : (s.queue port).entries.length < queueCapacity port
  · simp [hroom]
  · simp [hroom, Nat.le_of_not_lt hroom]

section OfferTo

variable {s w : State} {k : Nat} {x : Slot}

/-- What copies leave of the part: the entries of the queues with room, the counters of those without. -/
structure State.Copied (s u : State) (k : Nat) (ports : List Port) : Prop where
  entries : ∀ port, (u.queue port).entries
    = (s.queue port).entries ++ if port ∈ ports ∧ s.hasRoom port = true then [{ slot := k }] else []
  counts : ∀ port, (u.queue port).counts = if port ∈ ports ∧ s.hasRoom port = false then
      { (s.queue port).counts with egressFull := bump (s.queue port).counts.egressFull } else (s.queue port).counts
  fsCounts : u.fs.counts = s.fs.counts
  only : s.onlyChanges u [.fs]

theorem State.open_congr {t : State} (hspb : t.spb = s.spb) (hclb : t.clb = s.clb) (hcu : t.cu = s.cu) {port : Port}
    (h : s.open port) : t.open port := by
  obtain ⟨htransmits, hloop⟩ := h
  cases port with
  | seat p =>
    have hseat := congrFun (State.seat_eq_of_spb hspb) p
    exact ⟨(congrArg Seat.up hseat).trans htransmits, (congrArg (fun y : Seat => y.profile.loopback) hseat).trans hloop⟩
  | ceiling c => exact ⟨(congrArg (fun l : Link => l.state == .ready) (congrFun (State.link_eq_of_clb hclb) c)).trans htransmits, rfl⟩
  | backbone y => exact ⟨(congrFun (State.coupled_eq_of_cu hcu) y).trans htransmits, rfl⟩

theorem State.append_copied {port : Port} (h : w.open port) : w.Copied (w.append port { slot := k } false).1 k [port] where
  entries q := by
    by_cases hq : q = port
    · subst hq
      rw [State.append_entries, State.appendTest_open h]
      cases w.hasRoom q <;> simp
    · rw [State.append_queue_of_ne _ _ _ hq]
      simp [hq]
  counts q := by
    by_cases hq : q = port
    · subst hq
      rw [State.append_counts, State.appendTest_open h]
      cases w.hasRoom q <;> simp [Refused.count]
    · rw [State.append_queue_of_ne _ _ _ hq]
      simp [hq]
  fsCounts := (w.append_fs _ _ _).2
  only := w.append_only _ _ _

theorem State.Copied.hasRoom {u : State} {ports : List Port} (h : w.Copied u k ports) {port : Port} (hport : port ∉ ports) :
    u.hasRoom port = w.hasRoom port := by
  rw [State.hasRoom, State.hasRoom, h.entries]
  simp [hport]

theorem State.Copied.cons {t u : State} {port : Port} {rest : List Port} (h : w.Copied t k [port]) (h' : t.Copied u k rest)
    (hport : port ∉ rest) : w.Copied u k (port :: rest) where
  entries q := by
    rw [h'.entries, h.entries]
    by_cases hq : q = port
    · subst hq
      simp [hport]
    · rw [h.hasRoom (by simp [hq])]
      simp [hq]
  counts q := by
    rw [h'.counts, h.counts]
    by_cases hq : q = port
    · subst hq
      simp [hport]
    · rw [h.hasRoom (by simp [hq])]
      simp [hq]
  fsCounts := h'.fsCounts.trans h.fsCounts
  only := h.only.trans h'.only

theorem State.offerTo_copied (ports : List Port) (hnodup : ports.Nodup) (w : State) (hopen : ∀ port ∈ ports, w.open port) :
    w.Copied (w.offerTo k ports) k ports
    ∧ ∀ x, s.Claims w k x → s.Claims (w.offerTo k ports) k { x with refs := x.refs + ports.countP w.hasRoom } := by
  induction ports generalizing w with
  | nil => exact ⟨⟨by simp [State.offerTo], by simp [State.offerTo], rfl, State.onlyChanges_iff.2 (by simp [State.offerTo])⟩,
      fun _ h => h⟩
  | cons port rest ih =>
    obtain ⟨hport, hrest⟩ := List.nodup_cons.1 hnodup
    have hfirst : w.open port := hopen port List.mem_cons_self
    have happend : w.Copied (w.append port { slot := k } false).1 k [port] := State.append_copied hfirst
    have hcons : w.offerTo k (port :: rest) = (w.append port { slot := k } false).1.offerTo k rest := rfl
    obtain ⟨hcopied, hclaims⟩ := ih hrest (w.append port { slot := k } false).1 fun q hq =>
      State.open_congr (s := w) (by simp) (by simp) (by simp) (hopen q (List.mem_cons_of_mem _ hq))
    rw [hcons]
    refine ⟨happend.cons hcopied hport, fun x hx => ?_⟩
    have hcount : rest.countP (w.append port { slot := k } false).1.hasRoom = rest.countP w.hasRoom :=
      List.countP_congr fun q hq => by rw [happend.hasRoom (by simpa using fun h : q = port => hport (h ▸ hq))]
    have htest := State.appendTest_open hfirst
    rw [List.countP_cons, ← hcount]
    cases hroom : w.hasRoom port with
    | true =>
      rw [hroom] at htest
      have h := hclaims _ (hx.append (e := { slot := k }) rfl htest)
      dsimp only at h
      rw [show x.refs + 1 + rest.countP (w.append port { slot := k } false).1.hasRoom
        = x.refs + (rest.countP (w.append port { slot := k } false).1.hasRoom + 1) by omega] at h
      exact h
    | false =>
      rw [hroom] at htest
      exact hclaims _ (hx.append_refused (why := .full) { slot := k } htest)

end OfferTo

/-! ### The ports that a copy is offered to -/

section Copies

variable {s : State} {side : Side} {dst : Addr}

/-- The ports of R47, in the order in which they are offered the slot. -/
def State.copyPorts (s : State) (side : Side) (dst : Addr) : List Port :=
  (if s.coupled (otherSide side) then [.backbone (otherSide side)] else []) ++ (allSeats.filter (s.seatOffered dst)).map .seat
    ++ (allLinks.filter (s.linkOffered dst)).map .ceiling

theorem State.mem_copyPorts (port : Port) : port ∈ s.copyPorts side dst ↔ s.offersCopy side dst port = true := by
  cases port with
  | seat p =>
    have hmem : p ∈ allSeats := mem_numbers p
    simp only [State.copyPorts, State.offersCopy]
    split <;> simp [hmem]
  | ceiling c =>
    have hmem : c ∈ allLinks := mem_numbers c
    simp only [State.copyPorts, State.offersCopy]
    split <;> simp [hmem]
  | backbone y =>
    simp only [State.copyPorts, State.offersCopy, List.mem_append, List.mem_map, reduceCtorEq, and_false, exists_false, or_false,
      Bool.and_eq_true, beq_iff_eq]
    split
    · next h => exact ⟨fun hy => by simp at hy; exact ⟨hy, hy ▸ h⟩, fun hy => by simp [hy.1]⟩
    · next h => exact ⟨nofun, fun hy => absurd (hy.1 ▸ hy.2) h⟩

theorem State.copyPorts_nodup : (s.copyPorts side dst).Nodup := by
  have hseats : ((allSeats.filter (s.seatOffered dst)).map Port.seat).Nodup :=
    ((numbers_nodup 64).filter _).map fun _ _ h => Port.seat.inj h
  have hlinks : ((allLinks.filter (s.linkOffered dst)).map Port.ceiling).Nodup :=
    ((numbers_nodup 8).filter _).map fun _ _ h => Port.ceiling.inj h
  unfold State.copyPorts
  refine List.Nodup.append (List.Nodup.append ?_ hseats ?_) hlinks ?_
  · split
    · exact List.nodup_singleton _
    · exact List.nodup_nil
  · split <;> simp [List.disjoint_left]
  · refine List.disjoint_left.2 fun port hmem hlink => ?_
    obtain ⟨c, _, rfl⟩ := List.mem_map.1 hlink
    split at hmem <;> simp at hmem

theorem State.allPorts_countP (p : Port → Bool) : (s.copyPorts side dst).countP p
    = allPorts.countP fun port => s.offersCopy side dst port && p port := by
  have hperm : (s.copyPorts side dst).Perm (allPorts.filter (s.offersCopy side dst)) :=
    (List.perm_ext_iff_of_nodup State.copyPorts_nodup (allPorts_nodup.filter _)).2 fun port => by
      rw [State.mem_copyPorts, List.mem_filter]
      simp [mem_allPorts port]
  rw [hperm.countP_eq, List.countP_filter]
  exact List.countP_congr fun port _ => by rw [Bool.and_comm]

theorem State.copyPorts_open {port : Port} (h : s.offersCopy side dst port = true) : s.open port := by
  cases port with
  | seat p =>
    simp only [State.offersCopy, State.seatOffered, Bool.and_eq_true, Bool.not_eq_true'] at h
    obtain ⟨⟨hup, hloop⟩, _⟩ := h
    exact ⟨hup, hloop⟩
  | ceiling c =>
    simp only [State.offersCopy, State.linkOffered, Bool.and_eq_true] at h
    exact ⟨h.1, rfl⟩
  | backbone y =>
    simp only [State.offersCopy, Bool.and_eq_true] at h
    exact ⟨h.2, rfl⟩

theorem State.offerCopies_eq (k : Nat) : s.offerCopies side dst k
    = if (s.offerTo k (s.copyPorts side dst)).refsOf k = 0 then
        (s.offerTo k (s.copyPorts side dst)).countFs fun c => { c with unplaced := bump c.unplaced }
      else s.offerTo k (s.copyPorts side dst) := by
  have hfold : s.offerTo k (s.copyPorts side dst) = (allLinks.filter (s.linkOffered dst)).foldl
      (fun t c => (t.append (.ceiling c) { slot := k } false).1) ((allSeats.filter (s.seatOffered dst)).foldl
        (fun t p => (t.append (.seat p) { slot := k } false).1) (s.transit side k)) := by
    rw [State.offerTo, State.copyPorts, List.foldl_append, List.foldl_append, List.foldl_map, List.foldl_map, State.transit]
    split <;> rfl
  unfold State.offerCopies
  dsimp only
  rw [← hfold]

end Copies

end Sys2Proof.Machine

namespace Sys2Proof.Proofs

open Sys2Proof.Machine

/-- Settles O20: the frame in hand is offered to each port once (`offerTo_copied`), and the slot's count is that of its takers. -/
theorem copiesToAcceptingPorts : Obligations.CopiesToAcceptingPorts := by
  intro s side frame hinv haccepts hown hnone hcast
  dsimp only
  have hgo := reaches_forward haccepts
  have hfinds := State.inHandOf_finds hinv (inboundOf side frame)
  have hforward := State.forward_unknown (s := s) (f := inboundOf side frame) hown hnone (s.fs.slots.firstFree 0)
  rw [if_pos (show isMulticast (inboundOf side frame).dst = true from hcast)] at hforward
  rw [hforward, State.offerCopies_eq] at hgo
  clear hforward
  have hframe : (inboundOf side frame).frame = frame := rfl
  have hside : (inboundOf side frame).side = side := rfl
  have hdst : (inboundOf side frame).dst = frameDst frame := rfl
  rw [hframe] at hfinds
  rw [hside, hdst] at hgo
  rw [hside] at hfinds
  clear hframe hside hdst
  generalize s.inHandOf (inboundOf side frame) = w at *
  generalize s.fs.slots.firstFree 0 = k at *
  obtain ⟨_, _, _, _, _, hspb, hclb, hcu, _⟩ := State.onlyChanges_iff.1 hfinds.only
  have hoffers : w.offersCopy side (frameDst frame) = s.offersCopy side (frameDst frame) := by
    funext port
    cases port with
    | seat p =>
      simp only [State.offersCopy, State.seatOffered, State.seat_eq_of_spb (hspb (by simp))]
    | ceiling c =>
      simp only [State.offersCopy, State.linkOffered, State.link_eq_of_clb (hclb (by simp))]
    | backbone y =>
      simp only [State.offersCopy, State.coupled_eq_of_cu (hcu (by simp))]
  have hroom : w.hasRoom = s.hasRoom := by
    funext port
    rw [State.hasRoom, State.hasRoom, hfinds.queue]
  obtain ⟨hcopied, hclaims⟩ := State.offerTo_copied (s := s) (k := k) (w.copyPorts side (frameDst frame)) State.copyPorts_nodup w
    fun port hport => State.copyPorts_open (State.mem_copyPorts port |>.1 hport)
  have htaken := (hclaims _ hfinds.claims).slotTaken
  rw [State.allPorts_countP, hoffers, hroom, Nat.zero_add] at htaken
  have hmem : ∀ port, port ∈ w.copyPorts side (frameDst frame) ↔ s.offersCopy side (frameDst frame) port = true := fun port => by
    rw [State.mem_copyPorts, hoffers]
  have hentries := hcopied.entries
  have hcounts := hcopied.counts
  have honly := hfinds.only.trans (hcopied.only.mono (by simp))
  have hfsCounts := hcopied.fsCounts.trans hfinds.counts
  simp only [hmem, hroom, hfinds.queue] at hentries hcounts
  clear hclaims hcopied
  generalize w.offerTo k (w.copyPorts side (frameDst frame)) = v at *
  obtain ⟨hfree, hslot, hrefs, hothers⟩ := htaken
  rw [hrefs] at hgo
  have hcountQueue : (v.countFs fun c => { c with unplaced := bump c.unplaced }).queue = v.queue := by
    funext q
    rcases q with p | c | (_ | _) <;> rfl
  have hboth : ∀ a b : Bool, (a && !b) = true ↔ a = true ∧ b = false := by decide
  split at hgo
  · next hzero =>
    refine ⟨_, k, hgo, ⟨hfree, hslot, hrefs, hothers⟩,
      honly.trans (State.onlyChanges_iff.2 (by simp [State.countFs])), fun port => ?_, fun port => ?_, ?_⟩
    · rw [hcountQueue, hentries]
      simp only [Bool.and_eq_true]
    · rw [hcountQueue, hcounts]
      simp only [hboth]
    · rw [if_pos hzero, ← hfsCounts]
      rfl
  · next hsome =>
    refine ⟨_, k, hgo, ⟨hfree, hslot, hrefs, hothers⟩, honly, fun port => ?_, fun port => ?_, ?_⟩
    · rw [hentries]
      simp only [Bool.and_eq_true]
    · rw [hcounts]
      simp only [hboth]
    · rw [if_neg hsome]
      exact hfsCounts

end Sys2Proof.Proofs
end

section
/-! PROOFS. Frames from a seat before their client is learned (O23). -/

namespace Sys2Proof.Machine

section SeatFrame

variable (s : State) (p : SeatNo) (frame : Bytes)

/-- A change of one seat alone. -/
theorem State.onSeat_only (f : Seat → Seat) : otherSeats s (s.onSeat p f) p ∧ s.onlyChanges (s.onSeat p f) [.spb] :=
  ⟨fun _ hq => s.seat_onSeat_of_ne f hq, State.onlyChanges_iff.2 (by simp)⟩

/-- The seat once a frame from it is counted (R123). -/
def Seat.received (x : Seat) : Seat := { x with counts := { x.counts with received := bump x.counts.received } }

/-- The part once a frame from a seat has passed its port's checks: counted, and the activity timer set (R123, R131). -/
def State.heardSeat : State := s.onSeat p fun x => { x.received with activity := some 100 }

theorem State.heardSeat_seat : (s.heardSeat p).seat p = { (s.seat p).received with activity := some 100 } := s.seat_onSeat_same p _

theorem State.heardSeat_eq : (s.countSeat p fun c => { c with received := bump c.received }).onSeat p
    (fun x => { x with activity := some 100 }) = s.heardSeat p := s.onSeat_onSeat p _ _

variable {s p frame}

theorem State.seatFrame_held (h : (s.trunk (trunkOf p)).state = .held) : s.seatFrame p frame = s := if_pos h

theorem State.seatFrame_notUp (htrunk : (s.trunk (trunkOf p)).state ≠ .held) (hup : (s.seat p).up = false) :
    s.seatFrame p frame = s.onSeat p fun x => { x with counts := { x.counts with notUp := bump x.counts.notUp } } := by
  rw [State.seatFrame, if_neg htrunk, hup]
  rfl

variable (htrunk : (s.trunk (trunkOf p)).state ≠ .held) (hup : (s.seat p).up = true)

include htrunk hup

theorem State.seatFrame_faulty {why : SeatCheck} (h : s.seatFrameFault p frame = some why) :
    s.seatFrame p frame = s.onSeat p fun x => { x with counts := why.count { x.counts with received := bump x.counts.received } } := by
  rw [State.seatFrame, if_neg htrunk, hup, h, if_neg (by simp)]
  exact s.onSeat_onSeat p _ _

/-- A frame that its port's checks pass, and that loopback returns (R127). -/
theorem State.seatFrame_looped (h : s.seatFrameFault p frame = none) (hloop : (s.seat p).profile.loopback = true) :
    s.seatFrame p frame = (s.heardSeat p).loopFrame p frame := by
  rw [State.seatFrame, if_neg htrunk, hup, h, if_neg (by simp), hloop]
  dsimp only
  rw [if_pos rfl, State.heardSeat_eq]

/-- A frame from an address that no client frame may come from (R124). -/
theorem State.seatFrame_refused (h : s.seatFrameFault p frame = none) (hloop : (s.seat p).profile.loopback = false) {why : SeatCheck}
    (hwhy : s.seatSourceFault (frameSrc frame) = some why) : s.seatFrame p frame
      = if why = .barred then ((s.heardSeat p).onSeat p fun x => { x with counts := why.count x.counts }).barredFrame p
        else (s.heardSeat p).onSeat p fun x => { x with counts := why.count x.counts } := by
  rw [State.seatFrame, if_neg htrunk, hup, h, if_neg (by simp), hloop, hwhy]
  dsimp only
  rw [if_neg (by simp), State.heardSeat_eq]
  cases why <;> rfl

/-- A frame whose client is learned (R124). -/
theorem State.seatFrame_learned (h : s.seatFrameFault p frame = none) (hloop : (s.seat p).profile.loopback = false)
    (hsource : s.seatSourceFault (frameSrc frame) = none) : s.seatFrame p frame = (s.heardSeat p).learnAndSubmit p frame := by
  rw [State.seatFrame, if_neg htrunk, hup, h, if_neg (by simp), hloop, hsource]
  dsimp only
  rw [if_neg (by simp), State.heardSeat_eq]

end SeatFrame

section SeatFault

variable {s : State} {p : SeatNo} {frame : Bytes}

theorem State.seatFrameFault_checkError (h : frameCheckOk frame = false) : s.seatFrameFault p frame = some .checkError := by
  rw [State.seatFrameFault, h]
  rfl

theorem State.seatFrameFault_runt (h : frameCheckOk frame = true) (hlen : frame.length < 64) :
    s.seatFrameFault p frame = some .runt := by
  rw [State.seatFrameFault, h]
  exact if_pos hlen

theorem State.seatFrameFault_oversize (h : frameCheckOk frame = true) (hmin : 64 ≤ frame.length)
    (hmax : (s.seat p).profile.maxLength < frame.length) : s.seatFrameFault p frame = some .oversize := by
  rw [State.seatFrameFault, h, if_neg (by simp), if_neg (by omega), if_pos hmax]

theorem State.seatFrameFault_none (h : frameCheckOk frame = true) (hmin : 64 ≤ frame.length)
    (hmax : frame.length ≤ (s.seat p).profile.maxLength) : s.seatFrameFault p frame = none := by
  rw [State.seatFrameFault, h, if_neg (by simp), if_neg (by omega), if_neg (by omega)]

theorem State.seatSourceFault_barred {x : Addr} (h : s.entitlement x = some .barred) : s.seatSourceFault x = some .barred := if_pos h

theorem State.seatSourceFault_badSource {x : Addr} (h : s.entitlement x ≠ some .barred) (hbad : s.badSource x = true) :
    s.seatSourceFault x = some .badSource := by
  rw [State.seatSourceFault, if_neg h, hbad]
  rfl

theorem State.seatSourceFault_none {x : Addr} (h : s.entitlement x ≠ some .barred) (hbad : s.badSource x = false) :
    s.seatSourceFault x = none := by
  rw [State.seatSourceFault, if_neg h, hbad]
  rfl

end SeatFault

/-- R127: a looped frame joins the queue of its seat. -/
theorem State.loopFrame_joins {s t : State} {p : SeatNo} {frame : Bytes} (hinv : Inv s) (hfs : t.fs = s.fs) (hup : (t.seat p).up = true)
    (hfree : 128 < s.freeSlots) (hroom : (s.queue (.seat p)).entries.length < 32) :
    ∃ v k, t.loopFrame p frame = v.countSeat p (fun c => { c with looped := bump c.looped }) ∧ slotTaken s v k frame 1
      ∧ joins s v (.seat p) [{ slot := k }] ∧ t.onlyChanges v [.fs, .me] ∧ v.spb = t.spb := by
  have hqueue := State.queue_eq_of_fs hfs
  have hclaim := State.claim_of_lt (s := t) (reserve := clientReserve)
    (by rw [State.freeSlots, hfs]; exact hfree) (.seat p) false (fun _ => frame)
  have hclaims : s.Claims (t.claimed { frame := frame, origin := .seat p, refs := 0, resetResponse := false } (t.fs.slots.firstFree 0))
      (t.fs.slots.firstFree 0) { frame := frame, origin := .seat p, refs := 0, resetResponse := false } := by
    rw [hfs]
    exact (State.Claims.claimed hinv _).of_slots (by rw [State.claimed_slots, State.claimed_slots, hfs])
  have hwqueue := (t.claimed_queue { frame := frame, origin := .seat p, refs := 0, resetResponse := false } (t.fs.slots.firstFree 0)).trans
    hqueue
  have hwspb : (t.claimed { frame := frame, origin := .seat p, refs := 0, resetResponse := false } (t.fs.slots.firstFree 0)).spb
    = t.spb := by simp
  have honly : t.onlyChanges
      (t.claimed { frame := frame, origin := .seat p, refs := 0, resetResponse := false } (t.fs.slots.firstFree 0)) [.fs, .me] :=
    State.onlyChanges_iff.2 (by simp)
  generalize t.claimed { frame := frame, origin := .seat p, refs := 0, resetResponse := false } (t.fs.slots.firstFree 0) = w at *
  generalize t.fs.slots.firstFree 0 = k at *
  have hopen : w.appendTest (.seat p) true = none := by
    have htransmits : w.transmits (.seat p) = true := by
      change (w.seat p).up = true
      rw [State.seat_eq_of_spb hwspb]
      exact hup
    have hcapacity : ¬ queueCapacity (.seat p) ≤ (s.queue (.seat p)).entries.length := by
      rw [queueCapacity]
      omega
    unfold State.appendTest
    rw [htransmits, hwqueue, if_neg hcapacity]
    simp
  refine ⟨(w.append (.seat p) { slot := k } true).1, k, ?_, (hclaims.append (e := { slot := k }) rfl hopen).slotTaken,
    joins_congr (w.append_joins hopen) hwqueue, honly.trans ((w.append_only _ _ _).mono (by simp)), ?_⟩
  · unfold State.loopFrame
    rw [hclaim]
    dsimp only
    rw [if_pos]
    rw [State.append_none hopen]
  · simpa using hwspb

/-- A client's frame that no slot is left for (R31). -/
theorem State.learnAndSubmit_noSlot {s : State} (h : s.freeSlots ≤ 128) (p : SeatNo) (frame : Bytes) :
    s.learnAndSubmit p frame = s.clientNoSlot := by
  unfold State.learnAndSubmit
  rw [State.claim_of_le (reserve := clientReserve) h]

theorem State.clientNoSlot_leaves (s : State) : s.onlyChanges s.clientNoSlot [.fs] ∧ s.clientNoSlot.queue = s.queue
    ∧ s.clientNoSlot.fs.counts = { s.fs.counts with clientNoSlot := bump s.fs.counts.clientNoSlot } := by
  refine ⟨State.onlyChanges_iff.2 (by simp [State.clientNoSlot, State.countFs]), ?_, rfl⟩
  funext q
  rcases q with p | c | (_ | _) <;> rfl

end Sys2Proof.Machine

namespace Sys2Proof.Proofs

open Sys2Proof.Machine

/-- Settles O23: the checks of R124 in order, each an equation of `seatFrame`. -/
theorem seatFrameChecks : Obligations.SeatFrameChecks := by
  intro s p frame hline
  dsimp only
  have hreaches : ∀ u, s.beginEvent.seatFrame p frame = u → reaches (.seatFrameArrival p frame) s u := fun u hu =>
    reaches_event rfl hline hu
  refine ⟨fun hheld => ⟨_, hreaches _ (State.seatFrame_held (s := s.beginEvent) hheld), State.onlyChanges_iff.2 (by simp)⟩,
    fun htrunk hup => ?_, fun htrunk hup => ?_⟩
  · obtain ⟨hothers, honly⟩ := s.beginEvent.onSeat_only p fun x => { x with counts := { x.counts with notUp := bump x.counts.notUp } }
    exact ⟨_, hreaches _ (State.seatFrame_notUp (s := s.beginEvent) htrunk hup), s.beginEvent.seat_onSeat_same p _, hothers, honly⟩
  have hfaulty : ∀ why : SeatCheck, s.seatFrameFault p frame = some why → ∃ u, reaches (.seatFrameArrival p frame) s u
      ∧ u.seat p = { s.seat p with counts := why.count { (s.seat p).counts with received := bump (s.seat p).counts.received } }
      ∧ otherSeats s u p ∧ s.onlyChanges u [.spb] := fun why hwhy => by
    obtain ⟨hothers, honly⟩ := s.beginEvent.onSeat_only p fun x =>
      { x with counts := why.count { x.counts with received := bump x.counts.received } }
    exact ⟨_, hreaches _ (State.seatFrame_faulty (s := s.beginEvent) htrunk hup hwhy), s.beginEvent.seat_onSeat_same p _, hothers, honly⟩
  have hseat := s.beginEvent.heardSeat_seat p
  obtain ⟨hothers, honly⟩ := s.beginEvent.onSeat_only p fun x => { x.received with activity := some 100 }
  change otherSeats s (s.beginEvent.heardSeat p) p at hothers
  change s.onlyChanges (s.beginEvent.heardSeat p) [.spb] at honly
  have hfs : (s.beginEvent.heardSeat p).fs = s.fs := rfl
  have hme : (s.beginEvent.heardSeat p).me = s.me := rfl
  refine ⟨fun hcheck => hfaulty _ (State.seatFrameFault_checkError hcheck),
    fun hcheck hlen => hfaulty _ (State.seatFrameFault_runt hcheck hlen),
    fun hcheck hmin hmax => hfaulty _ (State.seatFrameFault_oversize hcheck hmin hmax),
    fun hcheck hmin hmax hloop => ⟨fun hbarred => ?_, fun hbarred hbad => ?_, fun hbarred hbad hfree => ?_⟩,
    fun hcheck hmin hmax hloop hfree hroom hinv => ?_⟩
  · have heq := State.seatFrame_refused (s := s.beginEvent) htrunk hup (State.seatFrameFault_none hcheck hmin hmax) hloop
      (State.seatSourceFault_barred hbarred)
    rw [if_pos rfl] at heq
    generalize s.beginEvent.heardSeat p = t at *
    refine ⟨_, hreaches _ heq, ?_, ?_, fun q hq => ?_, ?_⟩
    · change ((((t.onSeat p fun x => { x with counts := SeatCheck.barred.count x.counts }).onSeat p fun x => { x with barredMark := some 10000 })).seat p) = _
      rw [State.seat_onSeat_same, State.seat_onSeat_same, hseat]
      rfl
    · change ((((t.onSeat p fun x => { x with counts := SeatCheck.barred.count x.counts }).onSeat p fun x => { x with barredMark := some 10000 })).raise
        .barredSeen).raised .barredSeen = _
      rw [State.raised_raise_same, ← State.raised_eq_of_me hme]
      rfl
    · change ((((t.onSeat p fun x => { x with counts := SeatCheck.barred.count x.counts }).onSeat p fun x => { x with barredMark := some 10000 })).seat q) = _
      rw [State.seat_onSeat_of_ne _ _ hq, State.seat_onSeat_of_ne _ _ hq, hothers q hq]
    · exact (honly.mono (by simp)).trans (State.onlyChanges_iff.2 (by simp [State.barredFrame]))
  · have heq := State.seatFrame_refused (s := s.beginEvent) htrunk hup (State.seatFrameFault_none hcheck hmin hmax) hloop
      (State.seatSourceFault_badSource hbarred hbad)
    rw [if_neg (by simp)] at heq
    generalize s.beginEvent.heardSeat p = t at *
    obtain ⟨hothers', honly'⟩ := t.onSeat_only p fun x => { x with counts := SeatCheck.badSource.count x.counts }
    refine ⟨_, hreaches _ heq, ?_, fun q hq => (hothers' q hq).trans (hothers q hq), honly.trans honly'⟩
    rw [State.seat_onSeat_same, hseat]
    rfl
  · have heq := State.seatFrame_learned (s := s.beginEvent) htrunk hup (State.seatFrameFault_none hcheck hmin hmax) hloop
      (State.seatSourceFault_none hbarred hbad)
    rw [State.learnAndSubmit_noSlot (by rw [State.freeSlots, hfs]; exact hfree)] at heq
    generalize s.beginEvent.heardSeat p = t at *
    obtain ⟨honly', hqueue, hcounts⟩ := t.clientNoSlot_leaves
    refine ⟨_, hreaches _ heq, hseat, hothers, (honly.mono (by simp)).trans (honly'.mono (by simp)), fun q => ?_, ?_⟩
    · rw [hqueue, State.queue_eq_of_fs hfs]
    · rw [hcounts, hfs]
  · have heq := State.seatFrame_looped (s := s.beginEvent) htrunk hup (State.seatFrameFault_none hcheck hmin hmax) hloop
    generalize s.beginEvent.heardSeat p = t at *
    obtain ⟨v, k, hlooped, htaken, hjoins, honly', hspb⟩ := State.loopFrame_joins (frame := frame) hinv hfs
      (by rw [hseat]; exact hup) hfree hroom
    have hvseat := State.seat_eq_of_spb hspb
    refine ⟨_, k, hreaches _ (heq.trans hlooped), ?_, htaken, hjoins, fun q hq => ?_, ?_⟩
    · rw [State.countSeat_eq, State.seat_onSeat_same, hvseat, hseat]
      rfl
    · rw [State.countSeat_eq, State.seat_onSeat_of_ne _ _ hq, hvseat, hothers q hq]
    · exact ((honly.mono (by simp)).trans (honly'.mono (by simp))).trans ((v.onSeat_only p _).2.mono (by simp))

end Sys2Proof.Proofs
end

section
/-! SUPPORT and PROOFS. The Share Accounting Unit takes a client's frame (R81 to R85), and a known client at its seat (O25). -/

namespace Sys2Proof.Machine

/-! ### What the unit leaves -/

/-- What the taking of a frame leaves of the part (R81 to R85). -/
structure State.Accounted (t u : State) : Prop where
  only : t.onlyChanges u [.ct, .sau, .fs]
  ct : u.ct = { t.ct with records := u.ct.records }

/-- The part as the unit finds it: the client's frame in its slot, the record as it then stands, and nothing else of the unit's
touched since `s`. -/
structure State.Submits (s t : State) (k : Nat) (x : Slot) (n : Nat) (r : Record) : Prop where
  claims : s.Claims t k x
  refs : x.refs = 0
  queue : t.queue = s.queue
  sau : t.sau = s.sau
  cu : t.cu = s.cu
  record : t.record n = some r
  others : otherRecords s t n

section Submit

variable {s t : State} {k : Nat} {x : Slot} {n : Nat} {r : Record} (h : s.Submits t k x n r)

include h

/-- What is common to the fates of a frame: the record as `r1`, the other records as they were, the rest of the part untouched. -/
structure State.Submits.Fate (h : s.Submits t k x n r) (u : State) (r1 : Record) : Prop where
  record : u.record n = some r1
  others : otherRecords s u n
  accounted : t.Accounted u

/-- The unit's writes to one record, and to nothing else but itself and the store. -/
theorem State.Submits.fate {u : State} (honly : t.onlyChanges u [.ct, .sau, .fs]) {f : Record → Record}
    (hct : u.ct = { t.ct with records := t.ct.records.modify n f }) : h.Fate u (f r) := by
  have hrecord : ∀ m, u.record m = if m = n then (t.record n).map f else t.record m := fun m => by
    change u.ct.records.get m = _
    rw [hct]
    exact Table.get_modify _ _ _ _
  refine ⟨?_, fun m hm => ?_, honly, ?_⟩
  · rw [hrecord, if_pos rfl, h.record]
    rfl
  · rw [hrecord, if_neg hm]
    exact h.others m hm
  · rw [hct]

theorem State.Submits.fate_kept {u : State} (honly : t.onlyChanges u [.ct, .sau, .fs]) (hct : u.ct = t.ct) : h.Fate u r := by
  refine ⟨?_, fun m hm => ?_, honly, ?_⟩
  · rw [State.record_eq_of_ct hct, h.record]
  · rw [State.record_eq_of_ct hct, h.others m hm]
  · rw [hct]

theorem State.Submits.appendTest (side : Side) :
    t.appendTest (.backbone side) false = s.appendTest (.backbone side) false :=
  State.appendTest_backbone_congr h.cu (by rw [h.queue])

theorem State.Submits.slotLength : t.slotLength k = x.frame.length := by
  rw [State.slotLength, h.claims.held]

/-- R82. -/
theorem State.Submits.held (hstate : s.sau.state = .held) : h.Fate (t.submit k n) r ∧ queuesSame s (t.submit k n)
    ∧ (t.submit k n).sau = { s.sau with counts := { s.sau.counts with upstreamHoldDrops := bump s.sau.counts.upstreamHoldDrops } }
    ∧ ∀ j, (t.submit k n).fs.slots.get j = s.fs.slots.get j := by
  have heq : t.submit k n = (t.countSau fun c => { c with upstreamHoldDrops := bump c.upstreamHoldDrops }).settle k := by
    unfold State.submit
    rw [h.sau, hstate]
  rw [heq]
  refine ⟨h.fate_kept (State.onlyChanges_iff.2 (by simp [State.countSau])) (by simp [State.countSau]), fun q => ?_, ?_,
    (h.claims.of_slots (u := t.countSau _) rfl).settle h.refs⟩
  · rw [State.settle_queue, ← h.queue]
    rfl
  · simp [State.countSau, h.sau]

/-- A frame that joins the gateway side's queue (R83, R84). -/
theorem State.Submits.joined {g : Grant} (ht : s.appendTest (.backbone g.gateway) false = none) {v : State}
    (hv : v = (t.append (.backbone g.gateway) { slot := k } false).1) : slotTaken s v k x.frame 1
    ∧ joins s v (.backbone g.gateway) [{ slot := k }] ∧ t.onlyChanges v [.fs] := by
  subst hv
  have ht' := (h.appendTest g.gateway).trans ht
  have htaken := (h.claims.append (e := { slot := k }) rfl ht').slotTaken
  dsimp only at htaken
  rw [h.refs] at htaken
  exact ⟨htaken, joins_congr (t.append_joins ht') h.queue, t.append_only _ _ _⟩

variable {g : Grant} {pend : Option Grant} (hstate : s.sau.state = .granted g pend)

include hstate

theorem State.Submits.granted : t.submit k n = t.charge k n r g := by
  unfold State.submit
  rw [h.sau, hstate, h.record]

/-- R83. -/
theorem State.Submits.uncharged (hcls : r.cls = .service) (ht : s.appendTest (.backbone g.gateway) false = none) :
    h.Fate (t.submit k n) r ∧ slotTaken s (t.submit k n) k x.frame 1 ∧ joins s (t.submit k n) (.backbone g.gateway) [{ slot := k }]
    ∧ (t.submit k n).sau
      = { s.sau with counts := { s.sau.counts with framesUncharged := bump s.sau.counts.framesUncharged } } := by
  have ht' := (h.appendTest g.gateway).trans ht
  obtain ⟨htaken, hjoins, honly⟩ := h.joined ht rfl
  have heq : t.submit k n = (t.append (.backbone g.gateway) { slot := k } false).1.countSau fun c =>
      { c with framesUncharged := bump c.framesUncharged } := by
    rw [h.granted hstate]
    unfold State.charge
    dsimp only
    rw [if_pos hcls, if_pos (by rw [State.append_none ht'])]
  have hsau : (t.append (.backbone g.gateway) { slot := k } false).1.sau = s.sau := by simp [h.sau]
  have hct : (t.append (.backbone g.gateway) { slot := k } false).1.ct = t.ct := by simp
  rw [heq]
  generalize (t.append (.backbone g.gateway) { slot := k } false).1 = v at *
  refine ⟨h.fate_kept ((honly.mono (by simp)).trans (State.onlyChanges_iff.2 (by simp [State.countSau]))) hct, htaken, hjoins, ?_⟩
  rw [← hsau]
  rfl

/-- R84. -/
theorem State.Submits.charged (hcls : r.cls ≠ .service) (hparked : r.parked = []) (hcredit : frameCost x.frame.length ≤ r.credit)
    (hpool : frameCost x.frame.length ≤ s.sau.pool) (ht : s.appendTest (.backbone g.gateway) false = none) :
    h.Fate (t.submit k n)
      { r with credit := r.credit - frameCost x.frame.length, charged := bumpBy r.charged (frameCost x.frame.length) }
    ∧ slotTaken s (t.submit k n) k x.frame 1 ∧ joins s (t.submit k n) (.backbone g.gateway) [{ slot := k }]
    ∧ (t.submit k n).sau = { s.sau with
        pool := s.sau.pool - frameCost x.frame.length
        counts := { s.sau.counts with framesCharged := bump s.sau.counts.framesCharged } } := by
  have ht' := (h.appendTest g.gateway).trans ht
  obtain ⟨htaken, hjoins, honly⟩ := h.joined ht rfl
  have hlength := h.slotLength
  have heq : t.submit k n = (((t.append (.backbone g.gateway) { slot := k } false).1.onRecord n fun y =>
      { y with credit := y.credit - frameCost x.frame.length, charged := bumpBy y.charged (frameCost x.frame.length) }).onSau fun b =>
        { b with pool := b.pool - frameCost x.frame.length }).countSau fun c => { c with framesCharged := bump c.framesCharged } := by
    rw [h.granted hstate]
    unfold State.charge
    dsimp only
    rw [hlength, if_neg hcls, hparked, if_neg (by simp), if_pos ⟨hcredit, by rw [h.sau]; exact hpool⟩,
      if_pos (by rw [State.append_none ht'])]
  have hsau : (t.append (.backbone g.gateway) { slot := k } false).1.sau = s.sau := by simp [h.sau]
  have hct : (t.append (.backbone g.gateway) { slot := k } false).1.ct = t.ct := by simp
  rw [heq]
  generalize (t.append (.backbone g.gateway) { slot := k } false).1 = v at *
  refine ⟨h.fate (f := fun y =>
      { y with credit := y.credit - frameCost x.frame.length, charged := bumpBy y.charged (frameCost x.frame.length) })
    ((honly.mono (by simp)).trans (State.onlyChanges_iff.2 (by simp [State.countSau, State.onRecord]))) ?_, htaken, hjoins, ?_⟩
  · rw [← hct]
    rfl
  · rw [← hsau]
    rfl

/-- R83, R84: the gateway side's queue refuses the frame. -/
theorem State.Submits.refused {why : Refused} (hpays : (r.cls ≠ .service ∧ r.parked = [] ∧ frameCost x.frame.length ≤ r.credit
      ∧ frameCost x.frame.length ≤ s.sau.pool) ∨ r.cls = .service) (ht : s.appendTest (.backbone g.gateway) false = some why) :
    h.Fate (t.submit k n) r ∧ portCounts s (t.submit k n) (.backbone g.gateway) (fun c => why.count c)
    ∧ (t.submit k n).sau = { s.sau with counts := { s.sau.counts with gatewayFullDrops := bump s.sau.counts.gatewayFullDrops } }
    ∧ ∀ j, (t.submit k n).fs.slots.get j = s.fs.slots.get j := by
  have ht' := (h.appendTest g.gateway).trans ht
  have hlength := h.slotLength
  have heq : t.submit k n = ((t.append (.backbone g.gateway) { slot := k } false).1.countSau fun c =>
      { c with gatewayFullDrops := bump c.gatewayFullDrops }).settle k := by
    rw [h.granted hstate]
    unfold State.charge
    dsimp only
    rcases hpays with ⟨hcls, hparked, hcredit, hpool⟩ | hcls
    · rw [hlength, if_neg hcls, hparked, if_neg (by simp), if_pos ⟨hcredit, by rw [h.sau]; exact hpool⟩,
        if_neg (by rw [State.append_some ht']; simp)]
    · rw [if_pos hcls, if_neg (by rw [State.append_some ht']; simp)]
  have hcounts := portCounts_congr (t.append_portCounts { slot := k } ht') h.queue
  have hclaims := h.claims.append_refused { slot := k } ht'
  have hsau : (t.append (.backbone g.gateway) { slot := k } false).1.sau = s.sau := by simp [h.sau]
  have hct : (t.append (.backbone g.gateway) { slot := k } false).1.ct = t.ct := by simp
  have honly := t.append_only (.backbone g.gateway) { slot := k } false
  rw [heq]
  generalize (t.append (.backbone g.gateway) { slot := k } false).1 = v at *
  refine ⟨h.fate_kept ((honly.mono (by simp)).trans (State.onlyChanges_iff.2 (by simp [State.countSau])))
    (by simp [State.countSau, hct]), portCounts_congr (s := s) (t := s) ?_ rfl, ?_, (hclaims.of_slots (u := v.countSau _) rfl).settle h.refs⟩
  · obtain ⟨hself, hothers⟩ := hcounts
    rw [portCounts, State.settle_queue]
    exact ⟨hself, hothers⟩
  · rw [← hsau]
    simp [State.countSau]

theorem State.Submits.parks (hcls : r.cls ≠ .service) (hcannot : ¬ (r.parked = [] ∧ frameCost x.frame.length ≤ r.credit
    ∧ frameCost x.frame.length ≤ s.sau.pool)) : t.submit k n = t.park k n r := by
  have hlength := h.slotLength
  rw [h.granted hstate]
  unfold State.charge
  dsimp only
  rw [hlength, if_neg hcls]
  by_cases hparked : r.parked = []
  · rw [hparked, if_neg (by simp), if_neg]
    rintro ⟨hcredit, hpool⟩
    exact hcannot ⟨hparked, hcredit, by rw [← h.sau]; exact hpool⟩
  · rw [if_pos (by simpa using hparked)]

/-- R85: a frame that waits behind the others, or for its allowance. -/
theorem State.Submits.parked (hcls : r.cls ≠ .service) (hcannot : ¬ (r.parked = [] ∧ frameCost x.frame.length ≤ r.credit
      ∧ frameCost x.frame.length ≤ s.sau.pool)) (hroom : r.parked.length < 4) :
    h.Fate (t.submit k n) { r with parked := r.parked ++ [k] } ∧ slotTaken s (t.submit k n) k x.frame 1 ∧ queuesSame s (t.submit k n)
    ∧ (t.submit k n).sau = { s.sau with
        waiting := s.sau.waiting ++ (if r.parked = [] then [n] else [])
        counts := { s.sau.counts with framesParked := bump s.sau.counts.framesParked } } := by
  have htaken := h.claims.addRef.slotTaken
  dsimp only at htaken
  rw [h.refs] at htaken
  have hqueue : (t.addRef k).queue = s.queue := (t.addRef_queue k).trans h.queue
  have hct : (t.addRef k).ct = t.ct := rfl
  have hsau : (t.addRef k).sau = s.sau := h.sau
  have honly : t.onlyChanges (t.addRef k) [.fs] := State.onlyChanges_iff.2 (by simp [State.addRef])
  have heq : t.submit k n = ((t.addRef k).onRecord n fun y => { y with parked := y.parked ++ [k] }).onSau fun b => { b with
      waiting := b.waiting ++ (if r.parked = [] then [n] else [])
      counts := { b.counts with framesParked := bump b.counts.framesParked } } := by
    rw [h.parks hstate hcls hcannot]
    unfold State.park
    dsimp only
    rw [if_pos hroom]
    by_cases hparked : r.parked = []
    · rw [hparked]
      rfl
    · rw [if_neg (by simpa using hparked), if_neg hparked]
      unfold State.countSau State.onSau
      simp
  rw [heq]
  generalize t.addRef k = v at *
  refine ⟨h.fate (f := fun y => { y with parked := y.parked ++ [k] })
    ((honly.mono (by simp)).trans (State.onlyChanges_iff.2 (by simp [State.onRecord]))) (by rw [← hct]; rfl), htaken, fun q => ?_, ?_⟩
  · rw [← hqueue]
    rfl
  · rw [← hsau]
    rfl

/-- R85: a frame dropped over-share. -/
theorem State.Submits.overShare (hcls : r.cls ≠ .service) (hfull : 4 ≤ r.parked.length) :
    h.Fate (t.submit k n) { r with overShare := bump r.overShare } ∧ queuesSame s (t.submit k n)
    ∧ (t.submit k n).sau = { s.sau with
        overShareMark := true, counts := { s.sau.counts with overShareDrops := bump s.sau.counts.overShareDrops } }
    ∧ ∀ j, (t.submit k n).fs.slots.get j = s.fs.slots.get j := by
  have hcannot : ¬ (r.parked = [] ∧ frameCost x.frame.length ≤ r.credit ∧ frameCost x.frame.length ≤ s.sau.pool) := fun hc => by
    rw [hc.1] at hfull
    exact absurd hfull (by simp)
  have heq : t.submit k n = ((t.onRecord n fun y => { y with overShare := bump y.overShare }).onSau fun b => { b with
      overShareMark := true, counts := { b.counts with overShareDrops := bump b.counts.overShareDrops } }).settle k := by
    rw [h.parks hstate hcls hcannot]
    unfold State.park
    dsimp only
    rw [if_neg (by omega)]
    rfl
  rw [heq]
  refine ⟨h.fate (f := fun y => { y with overShare := bump y.overShare })
    (State.onlyChanges_iff.2 (by simp [State.onRecord])) (by simp; rfl), fun q => ?_, ?_,
    (h.claims.of_slots (u := (t.onRecord n _).onSau _) rfl).settle h.refs⟩
  · rw [State.settle_queue, ← h.queue]
    rfl
  · rw [← h.sau]
    simp

end Submit

/-- R81 to R85, of a record that stands, but for its state, as it did. -/
theorem State.shareTakes_of_submits {s t : State} {k n : Nat} {x : Slot} {r r1 : Record} {go rest : State → Prop}
    (h : s.Submits t k x n r1) (hcls : r1.cls = r.cls) (hcredit : r1.credit = r.credit) (hparked : r1.parked = r.parked)
    (hcharged : r1.charged = r.charged) (hover : r1.overShare = r.overShare) (hgo : go (t.submit k n))
    (hrest : ∀ u, t.Accounted u → rest u) : s.shareTakes n r r1 x.frame go rest := by
  refine ⟨fun hstate => ?_, fun g pend hstate => ⟨fun hservice ht => ?_, fun hpays ht => ?_, fun why hpays ht => ?_,
    fun hservice hcannot hroom => ?_, fun hservice hfull => ?_⟩⟩
  · obtain ⟨hfate, hqueues, hsau, hslots⟩ := h.held hstate
    exact ⟨_, hgo, hfate.record, hqueues, hsau, hslots, hfate.others, hrest _ hfate.accounted⟩
  · obtain ⟨hfate, htaken, hjoins, hsau⟩ := h.uncharged hstate (hcls.trans hservice) ht
    exact ⟨_, k, hgo, hfate.record, htaken, hjoins, hsau, hfate.others, hrest _ hfate.accounted⟩
  · obtain ⟨hservice, hnone, hcan, hpool⟩ := hpays
    obtain ⟨hfate, htaken, hjoins, hsau⟩ := h.charged hstate (by rw [hcls]; exact hservice) (by rw [hparked]; exact hnone)
      (by rw [hcredit]; exact hcan) hpool ht
    refine ⟨_, k, hgo, ?_, htaken, hjoins, hsau, hfate.others, hrest _ hfate.accounted⟩
    rw [hfate.record, hcredit, hcharged]
  · obtain ⟨hfate, hcounts, hsau, hslots⟩ := h.refused hstate (why := why) (by rw [hcls, hparked, hcredit]; exact hpays) ht
    exact ⟨_, hgo, hfate.record, hcounts, hsau, hslots, hfate.others, hrest _ hfate.accounted⟩
  · obtain ⟨hfate, htaken, hqueues, hsau⟩ := h.parked hstate (by rw [hcls]; exact hservice)
      (by rw [hparked, hcredit]; exact fun hc => hcannot ⟨hservice, hc⟩) (by rw [hparked]; exact hroom)
    rw [hparked] at hfate hsau
    exact ⟨_, k, hgo, hfate.record, htaken, hqueues, hsau, hfate.others, hrest _ hfate.accounted⟩
  · obtain ⟨hfate, hqueues, hsau, hslots⟩ := h.overShare hstate (by rw [hcls]; exact hservice) (by rw [hparked]; exact hfull)
    rw [hover] at hfate
    exact ⟨_, hgo, hfate.record, hqueues, hsau, hslots, hfate.others, hrest _ hfate.accounted⟩

end Sys2Proof.Machine
end

section
/-! SUPPORT and PROOFS. A client's frame from a seat: the client known there (O25), and the client that comes to it (O26). -/

namespace Sys2Proof.Machine

/-! ### The frame's arrival -/

/-- The slot of a client's frame from a seat. -/
def seatSlot (p : SeatNo) (frame : Bytes) : Slot := { frame := frame, origin := .seat p, refs := 0, resetResponse := false }

/-- The part once a seat's frame has passed all checks and holds its slot: what the client's learning finds (R124). -/
def State.arrived (s : State) (p : SeatNo) (frame : Bytes) : State :=
  ((s.heardSeat p).claimed (seatSlot p frame) (s.fs.slots.firstFree 0)).countSeat p fun c => { c with accepted := bump c.accepted }

/-- What the arrival leaves of the part: the slot claimed, the seat's activity timer and counters, the engine's marks. -/
structure State.Arrived (s w : State) (p : SeatNo) (k : Nat) (x : Slot) : Prop where
  claims : s.Claims w k x
  refs : x.refs = 0
  queue : w.queue = s.queue
  only : s.onlyChanges w [.spb, .fs, .me]
  seat : w.seat p = { s.seat p with
    activity := some 100
    counts := { (s.seat p).counts with received := bump (s.seat p).counts.received, accepted := bump (s.seat p).counts.accepted } }
  seats : otherSeats s w p
  trunk : w.trunk = s.trunk
  blink : w.spb.blink = s.spb.blink
  raised : ∀ c, c ≠ .storeLow → w.raised c = s.raised c
  out : w.ev.out = []

theorem State.lowWater_raised (s : State) (free : Nat) {c : Cause} (hc : c ≠ .storeLow) : (s.lowWater free).raised c = s.raised c := by
  unfold State.lowWater
  split
  · exact (State.raised_raise _ _ _).trans (if_neg hc)
  · rfl

theorem State.arrived_arrived {s : State} (hinv : Inv s) (p : SeatNo) (frame : Bytes) :
    s.Arrived (s.beginEvent.arrived p frame) p (s.fs.slots.firstFree 0) (seatSlot p frame) := by
  have hfs : (s.beginEvent.heardSeat p).fs = s.fs := rfl
  have hheard := s.beginEvent.heardSeat_seat p
  have hothers : otherSeats s (s.beginEvent.heardSeat p) p := (s.beginEvent.onSeat_only p _).1
  have honly : s.onlyChanges (s.beginEvent.heardSeat p) [.spb] := (s.beginEvent.onSeat_only p _).2
  have htrunk : (s.beginEvent.heardSeat p).trunk = s.trunk := rfl
  have hblink : (s.beginEvent.heardSeat p).spb.blink = s.spb.blink := rfl
  have hraised : (s.beginEvent.heardSeat p).raised = s.raised := rfl
  have hout : (s.beginEvent.heardSeat p).ev.out = [] := rfl
  unfold State.arrived
  have hslots := (s.beginEvent.heardSeat p).claimed_slots (seatSlot p frame) (s.fs.slots.firstFree 0)
  have hqueue := (s.beginEvent.heardSeat p).claimed_queue (seatSlot p frame) (s.fs.slots.firstFree 0)
  have hclaimed : (s.beginEvent.heardSeat p).onlyChanges
      ((s.beginEvent.heardSeat p).claimed (seatSlot p frame) (s.fs.slots.firstFree 0)) [.fs, .me] :=
    State.onlyChanges_iff.2 (by simp)
  have hspb : ((s.beginEvent.heardSeat p).claimed (seatSlot p frame) (s.fs.slots.firstFree 0)).spb = (s.beginEvent.heardSeat p).spb := by
    simp
  have hev : ((s.beginEvent.heardSeat p).claimed (seatSlot p frame) (s.fs.slots.firstFree 0)).ev = (s.beginEvent.heardSeat p).ev := by
    simp
  have hraisedC : ∀ c, c ≠ .storeLow → ((s.beginEvent.heardSeat p).claimed (seatSlot p frame) (s.fs.slots.firstFree 0)).raised c
      = (s.beginEvent.heardSeat p).raised c := fun c hc => (s.beginEvent.heardSeat p).lowWater_raised _ hc
  rw [show s.beginEvent.fs.slots.firstFree 0 = s.fs.slots.firstFree 0 from rfl]
  generalize s.beginEvent.heardSeat p = t at *
  generalize t.claimed (seatSlot p frame) (s.fs.slots.firstFree 0) = w at *
  have hseat := State.seat_eq_of_spb hspb
  exact {
    claims := (State.Claims.claimed hinv (seatSlot p frame)).of_slots (by
      rw [State.claimed_slots]
      change w.fs.slots = _
      rw [hslots, hfs])
    refs := rfl
    queue := hqueue.trans (State.queue_eq_of_fs hfs)
    only := ((honly.mono (by simp)).trans (hclaimed.mono (by simp))).trans ((w.onSeat_only p _).2.mono (by simp))
    seat := by
      rw [State.countSeat_eq, State.seat_onSeat_same, hseat, hheard]
      rfl
    seats := fun q hq => by rw [State.countSeat_eq, State.seat_onSeat_of_ne _ _ hq, hseat, hothers q hq]
    trunk := (State.trunk_eq_of_spb hspb).trans htrunk
    blink := by
      change w.spb.blink = _
      rw [hspb, hblink]
    raised := fun c hc => (hraisedC c hc).trans (congrFun hraised c)
    out := by
      change w.ev.out = _
      rw [hev, hout] }

/-- An idle timer is read of the profiles (R22). -/
theorem State.idleFor_congr {s t : State} (hseats : ∀ q, (t.seat q).profile = (s.seat q).profile)
    (hlinks : ∀ c, (t.link c).profile = (s.link c).profile) (cls : Class) (pl : Place) : t.idleFor cls pl = s.idleFor cls pl := by
  have hms : t.idleMs pl = s.idleMs pl := by
    cases pl with
    | seat q => exact congrArg (fun x : SeatProfile => x.idleTime * 1000) (hseats q)
    | ceiling c a => exact congrArg (fun x : CeilingProfile => x.idleTime * 1000) (hlinks c)
  rw [State.idleFor, State.idleFor, hms]

section Arrived

variable {s w : State} {p : SeatNo} {k : Nat} {x : Slot} (h : s.Arrived w p k x)

include h

theorem State.Arrived.blocks : w.ct = s.ct ∧ w.mc = s.mc ∧ w.sau = s.sau ∧ w.el = s.el ∧ w.clb = s.clb ∧ w.cu = s.cu := by
  obtain ⟨hct, hmc, hsau, hel, _, _, hclb, hcu, _⟩ := State.onlyChanges_iff.1 h.only
  exact ⟨hct (by simp), hmc (by simp), hsau (by simp), hel (by simp), hclb (by simp), hcu (by simp)⟩

theorem State.Arrived.profile (q : SeatNo) : (w.seat q).profile = (s.seat q).profile := by
  by_cases hq : q = p
  · rw [hq, h.seat]
  · rw [h.seats q hq]

theorem State.Arrived.idleFor (cls : Class) (pl : Place) : w.idleFor cls pl = s.idleFor cls pl := by
  obtain ⟨_, _, _, _, hclb, _⟩ := h.blocks
  exact State.idleFor_congr h.profile (fun c => by rw [State.link_eq_of_clb hclb]) cls pl

end Arrived

/-- A seat's frame that is accepted is learned, and submitted if its client has a record (R6, R124). -/
theorem reaches_learnSeat {s : State} {p : SeatNo} {frame : Bytes} (h : s.acceptsSeatFrame p frame) {t : State}
    {learned : Option Nat} (hlearn : (s.beginEvent.arrived p frame).learnSeat p (frameSrc frame) = (t, learned)) :
    reaches (.seatFrameArrival p frame) s
      (learned.elim (t.settle (s.fs.slots.firstFree 0)) (t.submit (s.fs.slots.firstFree 0))) := by
  obtain ⟨hline, htrunk, hup, hcheck, hmin, hmax, hloop, hbarred, hbad, hfree⟩ := h
  refine reaches_event rfl hline ?_
  rw [State.seatFrame_learned (s := s.beginEvent) htrunk hup (State.seatFrameFault_none hcheck hmin hmax) hloop
    (State.seatSourceFault_none hbarred hbad)]
  have hfs : (s.beginEvent.heardSeat p).fs = s.fs := rfl
  have harrived : s.beginEvent.arrived p frame = ((s.beginEvent.heardSeat p).claimed (seatSlot p frame)
    (s.fs.slots.firstFree 0)).countSeat p fun c => { c with accepted := bump c.accepted } := rfl
  rw [harrived] at hlearn
  generalize s.beginEvent.heardSeat p = v at *
  have hclaim := State.claim_of_lt (s := v) (reserve := clientReserve) (by rw [State.freeSlots, hfs]; exact hfree) (.seat p) false
    (fun _ => frame)
  rw [hfs] at hclaim
  unfold State.learnAndSubmit
  rw [hclaim]
  dsimp only
  rw [show ({ frame := frame, origin := .seat p, refs := 0, resetResponse := false } : Slot) = seatSlot p frame from rfl, hlearn]
  cases learned <;> rfl

/-! ### What the Share Accounting Unit leaves of a client -/

/-- Whatever the unit makes of a frame, the records' states, the client-side queues and what the event sends stand. -/
structure State.Submitted (t u : State) (n : Nat) : Prop where
  others : otherRecords t u n
  st : (u.record n).map Record.st = (t.record n).map Record.st
  cls : (u.record n).map Record.cls = (t.record n).map Record.cls
  queues : ∀ q, (∀ side, q ≠ .backbone side) → u.queue q = t.queue q
  only : t.onlyChanges u [.ct, .sau, .fs]
  ev : u.ev = t.ev

section Submitted

variable {t u v : State} {n k : Nat}

theorem State.Submitted.trans (h : t.Submitted u n) (h' : u.Submitted v n) : t.Submitted v n where
  others m hm := (h'.others m hm).trans (h.others m hm)
  st := h'.st.trans h.st
  cls := h'.cls.trans h.cls
  queues q hq := (h'.queues q hq).trans (h.queues q hq)
  only := h.only.trans h'.only
  ev := h'.ev.trans h.ev

/-- The store and the unit write no record. -/
theorem State.Submitted.of_ct (hct : u.ct = t.ct) (hqueues : ∀ q, (∀ side, q ≠ .backbone side) → u.queue q = t.queue q)
    (honly : t.onlyChanges u [.ct, .sau, .fs]) (hev : u.ev = t.ev) : t.Submitted u n where
  others m _ := congrFun (State.record_eq_of_ct hct) m
  st := by rw [State.record_eq_of_ct hct]
  cls := by rw [State.record_eq_of_ct hct]
  queues := hqueues
  only := honly
  ev := hev

theorem State.Submitted.onSau (t : State) (n : Nat) (f : ShareUnit → ShareUnit) : t.Submitted (t.onSau f) n :=
  .of_ct rfl (fun _ _ => rfl) (State.onlyChanges_iff.2 (by simp)) rfl

theorem State.Submitted.settle (t : State) (n k : Nat) : t.Submitted (t.settle k) n :=
  .of_ct (by simp) (fun q _ => by rw [State.settle_queue]) (State.onlyChanges_iff.2 (by simp)) (by simp)

theorem State.Submitted.addRef (t : State) (n k : Nat) : t.Submitted (t.addRef k) n :=
  .of_ct rfl (fun q _ => by rw [State.addRef_queue]) (State.onlyChanges_iff.2 (by simp [State.addRef])) rfl

theorem State.Submitted.append (t : State) (n : Nat) (side : Side) (e : Entry) :
    t.Submitted (t.append (.backbone side) e false).1 n :=
  .of_ct (by simp) (fun q hq => t.append_queue_of_ne e false (hq side)) (State.onlyChanges_iff.2 (by simp)) (by simp)

theorem State.Submitted.onRecord (t : State) (n : Nat) {f : Record → Record} (hst : ∀ r, (f r).st = r.st)
    (hcls : ∀ r, (f r).cls = r.cls) : t.Submitted (t.onRecord n f) n where
  others m hm := by rw [State.onRecord_record, if_neg hm]
  st := by
    rw [State.onRecord_record, if_pos rfl, Option.map_map]
    exact Option.map_congr fun r _ => hst r
  cls := by
    rw [State.onRecord_record, if_pos rfl, Option.map_map]
    exact Option.map_congr fun r _ => hcls r
  queues _ _ := rfl
  only := State.onlyChanges_iff.2 (by simp [State.onRecord])
  ev := rfl

theorem State.Submitted.park (t : State) (k n : Nat) (r : Record) : t.Submitted (t.park k n r) n := by
  unfold State.park
  dsimp only
  split
  · have hfirst := ((State.Submitted.addRef t n k).trans (State.Submitted.onRecord _ n (f := fun x => { x with parked := x.parked ++ [k] })
      (by exact fun _ => rfl) (by exact fun _ => rfl))).trans
      (State.Submitted.onSau _ n fun b => { b with counts := { b.counts with framesParked := bump b.counts.framesParked } })
    split
    · exact hfirst.trans (State.Submitted.onSau _ n _)
    · exact hfirst
  · exact (((State.Submitted.onRecord t n (f := fun x => { x with overShare := bump x.overShare }) (by exact fun _ => rfl)
      (by exact fun _ => rfl)).trans (State.Submitted.onSau _ n fun b =>
        { b with counts := { b.counts with overShareDrops := bump b.counts.overShareDrops } })).trans
        (State.Submitted.onSau _ n _)).trans (State.Submitted.settle _ n k)

theorem State.Submitted.charge (t : State) (k n : Nat) (r : Record) (g : Grant) : t.Submitted (t.charge k n r g) n := by
  have happend := State.Submitted.append t n g.gateway { slot := k }
  have hrefused := fun v : State => (State.Submitted.onSau v n fun b =>
    { b with counts := { b.counts with gatewayFullDrops := bump b.counts.gatewayFullDrops } }).trans (State.Submitted.settle _ n k)
  unfold State.charge
  dsimp only
  split
  · split
    · exact happend.trans (State.Submitted.onSau _ n _)
    · exact happend.trans (hrefused _)
  · split
    · exact State.Submitted.park t k n r
    · split
      · split
        · exact ((happend.trans (State.Submitted.onRecord _ n (by exact fun _ => rfl) (by exact fun _ => rfl))).trans
            (State.Submitted.onSau _ n _)).trans (State.Submitted.onSau _ n _)
        · exact happend.trans (hrefused _)
      · exact State.Submitted.park t k n r

theorem State.submit_submitted (t : State) (k n : Nat) : t.Submitted (t.submit k n) n := by
  unfold State.submit
  split
  · exact (State.Submitted.onSau t n _).trans (State.Submitted.settle _ n k)
  · split
    · exact State.Submitted.settle t n k
    · exact State.Submitted.charge t k n _ _

theorem State.Submitted.toldRadio (h : t.Submitted u n) {c : LinkNo} {m : RadioOut} (ht : toldRadio t c m) : toldRadio u c m := by
  refine ht.mono ?_ ?_
  · rw [h.ev]
    exact List.Subset.refl _
  · rw [h.queues _ (by simp)]
    exact List.Subset.refl _

end Submitted

/-! ### A client that comes to an empty seat -/

section Coming

variable {s : State} {p : SeatNo} {n : Nat} {r : Record}

theorem State.clearSeat_empty (h : s.occupant p = none) (m : Option Nat) : s.clearSeat p m = s := by
  rw [State.clearSeat, h]

/-- What a client's change of place comes to, before its frame is submitted: its record's state, and the blocks written. -/
structure State.Comes (s t : State) (n : Nat) (r : Record) (st : RecordState) : Prop where
  record : t.record n = some { r with st := st }
  others : otherRecords s t n
  only : s.onlyChanges t [.ct, .mc, .fs, .spb, .clb]

theorem State.Comes.of_onRecord {t : State} (hr : t.record n = some r) (hothers : otherRecords s t n)
    (honly : s.onlyChanges t [.ct, .mc, .fs, .spb, .clb]) {f : Record → Record} {st : RecordState} (hf : f r = { r with st := st }) :
    s.Comes (t.onRecord n f) n r st where
  record := by rw [State.onRecord_record, if_pos rfl, hr, Option.map_some, hf]
  others m hm := by rw [State.onRecord_record, if_neg hm, hothers m hm]
  only := honly.trans (State.onlyChanges_iff.2 (by simp [State.onRecord]))

theorem State.Comes.countMc {t : State} {st : RecordState} (h : s.Comes t n r st) (f : McCounters → McCounters) :
    s.Comes (t.countMc f) n r st where
  record := h.record
  others := h.others
  only := h.only.trans (State.onlyChanges_iff.2 (by simp [State.countMc]))

/-- A client's timer set at a place (R22). -/
theorem State.comes_attach {t : State} (hr : t.record n = some r) (hothers : otherRecords s t n)
    (honly : s.onlyChanges t [.ct, .mc, .fs, .spb, .clb]) (pl : Place) :
    s.Comes (t.attach n pl) n r (.attached pl (t.idleFor r.cls pl)) := .of_onRecord hr hothers honly rfl

theorem State.discardQueue_only (s : State) {port : Port} (hport : ∀ x, port ≠ .backbone x) :
    s.onlyChanges (s.discardQueue port) [.fs, .spb] := by
  have hcu := (State.Told.discardQueue s port).cu hport
  exact State.onlyChanges_iff.2 (by simp [hcu])

theorem State.sendRadio_only (s : State) (c : LinkNo) (m : RadioOut) : s.onlyChanges (s.sendRadio c m) [.fs, .clb] := by
  exact State.onlyChanges_iff.2 (by simp)

theorem State.discardQueue_record (s : State) (port : Port) : (s.discardQueue port).record = s.record :=
  State.record_eq_of_ct (by simp)

theorem State.sendRadio_record (s : State) (c : LinkNo) (m : RadioOut) : (s.sendRadio c m).record = s.record :=
  State.record_eq_of_ct (by simp)

theorem State.discardQueue_idleFor (s : State) {port : Port} (cls : Class) (pl : Place) :
    (s.discardQueue port).idleFor cls pl = s.idleFor cls pl := by
  have htold := State.Told.discardQueue s port
  exact State.idleFor_congr htold.profile (fun c => by rw [State.link_eq_of_clb htold.clb]) cls pl

/-- R54, for a former place that no other move leaves. -/
theorem State.beginMove_comes (hr : s.record n = some r) {c : LinkNo} {a : AssocNo} (hready : (s.link c).state = .ready)
    (hformer : s.byFormer c a = none) (target : Place) :
    s.Comes (s.beginMove n c a target) n r (.moving target c a (some s.mc.releaseTimeout) [])
    ∧ toldRadio (s.beginMove n c a target) c (.release a)
    ∧ (s.beginMove n c a target).mc = { s.mc with counts := { s.mc.counts with begun := bump s.mc.counts.begun } } := by
  unfold State.beginMove
  dsimp only
  rw [show s.supersede c a = s by rw [State.supersede, hformer]]
  generalize hv : (s.onRecord n fun r => { r with st := .moving target c a none [] }).sendRadio c (.release a) = v
  have hvrecord : ∀ m, v.record m = if m = n then (s.record n).map fun r => { r with st := .moving target c a none [] } else s.record m :=
    fun m => by rw [← hv, State.sendRadio_record, State.onRecord_record]
  have hvmc : v.mc = s.mc := by rw [← hv]; simp
  have hvonly : s.onlyChanges v [.ct, .mc, .fs, .spb, .clb] := by
    rw [← hv]
    have hfirst : s.onlyChanges (s.onRecord n fun r => { r with st := .moving target c a none [] }) [.ct, .mc, .fs, .spb, .clb] :=
      State.onlyChanges_iff.2 (by simp [State.onRecord])
    exact hfirst.trans ((State.sendRadio_only _ c _).mono (by simp))
  have htold : toldRadio v c (.release a) := by
    rw [← hv]
    exact toldRadio_sendRadio (by exact hready) _
  have hself : v.record n = some { r with st := .moving target c a none [] } := by rw [hvrecord, if_pos rfl, hr]; rfl
  have hcomes := State.Comes.of_onRecord (s := s) hself (fun m hm => by rw [hvrecord, if_neg hm]) hvonly
    (f := fun y => { y with st := .moving target c a (some s.mc.releaseTimeout) [] }) (st := .moving target c a (some s.mc.releaseTimeout) []) rfl
  refine ⟨⟨hcomes.record, hcomes.others, (hcomes.countMc _).only⟩, htold, ?_⟩
  rw [← hvmc]
  rfl

end Coming

end Sys2Proof.Machine
end

section
/-! PROOFS. A known client at its seat (O25) and a client that comes to an empty seat (O26). -/

namespace Sys2Proof.Machine

section Learned

variable {s w : State} {p : SeatNo} {k n : Nat} {x : Slot} {r : Record}

/-- The part as the Share Accounting Unit finds it, when learning has set the client's timer or left its record alone. -/
theorem State.Arrived.submits_attach (h : s.Arrived w p k x) (hr : s.record n = some r) (pl : Place) :
    s.Submits (w.attach n pl) k x n { r with st := .attached pl (s.idleFor r.cls pl) } := by
  obtain ⟨hct, _, hsau, _, _, hcu⟩ := h.blocks
  have hrecord := State.record_eq_of_ct hct
  have hcomes := State.comes_attach (s := w) (t := w) (n := n) (r := r) (by rw [hrecord, hr]) (fun _ _ => rfl)
    (State.onlyChanges_iff.2 (by simp)) pl
  exact {
    claims := h.claims.of_slots (by simp)
    refs := h.refs
    queue := by
      rw [← h.queue]
      exact State.queue_eq_of_fs (by simp)
    sau := by simp [hsau]
    cu := by simp [hcu]
    record := by rw [hcomes.record, h.idleFor]
    others := fun m hm => by rw [hcomes.others m hm, hrecord] }

theorem State.Arrived.submits_kept (h : s.Arrived w p k x) (hr : s.record n = some r) : s.Submits w k x n r := by
  obtain ⟨hct, _, hsau, _, _, hcu⟩ := h.blocks
  have hrecord := State.record_eq_of_ct hct
  exact ⟨h.claims, h.refs, h.queue, hsau, hcu, by rw [hrecord, hr], fun m _ => by rw [hrecord]⟩

theorem State.Arrived.byAddr (h : s.Arrived w p k x) (y : Addr) : w.byAddr y = s.byAddr y := by
  rw [State.byAddr_congr h.blocks.1]

theorem State.Arrived.occupant (h : s.Arrived w p k x) (q : SeatNo) : w.occupant q = s.occupant q := by
  unfold State.occupant State.atPlace State.findRecord
  rw [h.blocks.1]

/-- What a frame's arrival and the unit's taking leave of the part, for a client that learning leaves in its place. -/
theorem State.Arrived.rest (h : s.Arrived w p k x) {t u : State} (htspb : t.spb = w.spb) (htonly : w.onlyChanges t [.ct])
    (hu : t.Accounted u) : (u.seat p).counts.accepted = bump (s.seat p).counts.accepted ∧ otherSeats s u p
      ∧ s.onlyChanges u [.ct, .sau, .fs, .spb, .me] := by
  obtain ⟨_, _, _, _, _, hspb, _⟩ := State.onlyChanges_iff.1 hu.only
  have hseat := State.seat_eq_of_spb ((hspb (by simp)).trans htspb)
  refine ⟨?_, fun q hq => ?_, ?_⟩
  · rw [hseat, h.seat]
  · rw [hseat, h.seats q hq]
  · exact ((h.only.mono (by simp)).trans (htonly.mono (by simp))).trans (hu.only.mono (by simp))

end Learned

/-! ### Learning, case by case (R11 to R13) -/

section Learning

variable {s : State} {p : SeatNo} {y : Addr} {n : Nat} {r : Record} (h : s.byAddr y = some (n, r))

include h

theorem State.learnSeat_here {t : Timer} (hst : r.st = .attached (.seat p) t) :
    s.learnSeat p y = (s.attach n (.seat p), some n) := by
  unfold State.learnSeat
  rw [h]
  dsimp only
  rw [hst]
  exact if_pos rfl

theorem State.learnSeat_otherSeat {q : SeatNo} {t : Timer} (hst : r.st = .attached (.seat q) t) (hne : q ≠ p) :
    s.learnSeat p y = (((s.clearSeat p (some n)).discardQueue (.seat q)).attach n (.seat p), some n) := by
  unfold State.learnSeat
  rw [h]
  dsimp only
  rw [hst]
  exact if_neg hne

theorem State.learnSeat_fromLink {c : LinkNo} {a : AssocNo} {t : Timer} (hst : r.st = .attached (.ceiling c a) t) :
    s.learnSeat p y = ((s.clearSeat p (some n)).beginMove n c a (.seat p), some n) := by
  unfold State.learnSeat
  rw [h]
  dsimp only
  rw [hst]

theorem State.learnSeat_movingHere {c : LinkNo} {a : AssocNo} {t : Timer} {hold : List Nat}
    (hst : r.st = .moving (.seat p) c a t hold) : s.learnSeat p y = (s, some n) := by
  unfold State.learnSeat
  rw [h]
  dsimp only
  rw [hst]
  exact if_pos rfl

theorem State.learnSeat_moving {target : Place} {c : LinkNo} {a : AssocNo} {t : Timer} {hold : List Nat}
    (hst : r.st = .moving target c a t hold) (hne : target ≠ .seat p) :
    s.learnSeat p y = ((s.clearSeat p (some n)).retarget n (.seat p), some n) := by
  unfold State.learnSeat
  rw [h]
  dsimp only
  rw [hst]
  exact if_neg hne

theorem State.learnSeat_lingering {t : Timer} (hst : r.st = .lingering t) :
    s.learnSeat p y = ((s.clearSeat p (some n)).attach n (.seat p), some n) := by
  unfold State.learnSeat
  rw [h]
  dsimp only
  rw [hst]

end Learning

/-! ### A client that comes to the seat -/

section Comes

variable {s w t u : State} {p : SeatNo} {k n : Nat} {x : Slot} {r : Record} {st : RecordState}

/-- The frame's arrival, the change of place, and the unit's taking, one after the other. -/
theorem State.Arrived.becomes (h : s.Arrived w p k x) (hcomes : w.Comes t n r st) (hu : t.Submitted u n) :
    (u.record n).map Record.st = some st ∧ (u.record n).map Record.cls = some r.cls ∧ otherRecords s u n
      ∧ s.onlyChanges u [.ct, .mc, .sau, .fs, .spb, .clb, .me] := by
  have hrecord := State.record_eq_of_ct h.blocks.1
  refine ⟨?_, ?_, fun m hm => ?_, ?_⟩
  · rw [hu.st, hcomes.record]
    rfl
  · rw [hu.cls, hcomes.record]
    rfl
  · rw [hu.others m hm, hcomes.others m hm, hrecord]
  · exact ((h.only.mono (by simp)).trans (hcomes.only.mono (by simp))).trans (hu.only.mono (by simp))

theorem State.Submitted.mc (hu : t.Submitted u n) : u.mc = t.mc := by
  obtain ⟨_, hmc, _⟩ := State.onlyChanges_iff.1 hu.only
  exact hmc (by simp)

theorem State.Submitted.clb (hu : t.Submitted u n) : u.clb = t.clb := by
  obtain ⟨_, _, _, _, _, _, hclb, _⟩ := State.onlyChanges_iff.1 hu.only
  exact hclb (by simp)

/-- R66: a move's target given up. -/
theorem State.abandonTarget_only (s : State) (target : Place) : s.onlyChanges (s.abandonTarget target) [.fs, .spb, .clb] := by
  cases target with
  | seat q => exact (s.discardQueue_only (port := .seat q) (by simp)).mono (by simp)
  | ceiling d e => exact (s.sendRadio_only d (.drop e)).mono (by simp)

theorem State.abandonTarget_record (s : State) (target : Place) : (s.abandonTarget target).record = s.record := by
  obtain ⟨hct, _⟩ := State.onlyChanges_iff.1 (s.abandonTarget_only target)
  exact State.record_eq_of_ct (hct (by simp))

theorem State.abandonTarget_mc (s : State) (target : Place) : (s.abandonTarget target).mc = s.mc := by
  obtain ⟨_, hmc, _⟩ := State.onlyChanges_iff.1 (s.abandonTarget_only target)
  exact hmc (by simp)

/-- R66: a MOVING client is retargeted. -/
theorem State.retarget_comes {old target : Place} {c : LinkNo} {a : AssocNo} {d : Timer} {hold : List Nat}
    (hr : s.record n = some r) (hst : r.st = .moving old c a d hold) :
    s.Comes (s.retarget n target) n r (.moving target c a d hold)
    ∧ (s.retarget n target).mc = { s.mc with counts := { s.mc.counts with retargets := bump s.mc.counts.retargets } }
    ∧ (s.retarget n target).fs = (s.abandonTarget old).fs ∧ (s.retarget n target).ev = (s.abandonTarget old).ev := by
  have heq : s.retarget n target = ((s.abandonTarget old).onRecord n fun y => { y with st := .moving target c a d hold }).countMc
      fun k => { k with retargets := bump k.retargets } := by
    unfold State.retarget
    rw [hr]
    dsimp only
    rw [hst]
  have hrecord := s.abandonTarget_record old
  have hmc := s.abandonTarget_mc old
  have honly := s.abandonTarget_only old
  rw [heq]
  generalize s.abandonTarget old = v at *
  refine ⟨(State.Comes.of_onRecord (s := s) (by rw [hrecord, hr]) (fun m _ => by rw [hrecord]) (honly.mono (by simp)) rfl).countMc _,
    ?_, rfl, rfl⟩
  rw [← hmc]
  rfl

end Comes

end Sys2Proof.Machine

namespace Sys2Proof.Proofs

open Sys2Proof.Machine

/-- Settles O25: learning sets the timer of a client ATTACHED at its seat, and the unit takes the frame (`shareTakes_of_submits`). -/
theorem knownClientIsCharged : Obligations.KnownClientIsCharged := by
  intro s p frame n r hinv haccepts howns hplace
  have harrived := State.arrived_arrived hinv p frame
  have hgo := fun {t : State} {learned : Option Nat} => reaches_learnSeat haccepts (t := t) (learned := learned)
  have hr : s.record n = some r := (State.findRecord_some hinv.records.1 howns).1
  have hbyAddr : (s.beginEvent.arrived p frame).byAddr (frameSrc frame) = some (n, r) :=
    (harrived.byAddr _).trans howns
  have hframe : (seatSlot p frame).frame = frame := rfl
  generalize s.beginEvent.arrived p frame = w at *
  generalize s.fs.slots.firstFree 0 = k at *
  generalize seatSlot p frame = x at *
  subst hframe
  cases hst : r.st with
  | attached pl idle =>
    rw [hst] at hplace
    obtain rfl : pl = .seat p := Option.some.inj hplace
    have hreaches := hgo (State.learnSeat_here hbyAddr hst)
    have hheard : s.heard (.seat p) r = { r with st := .attached (.seat p) (s.idleFor r.cls (.seat p)) } := by
      rw [State.heard, hst]
    rw [hheard]
    exact State.shareTakes_of_submits (harrived.submits_attach hr (.seat p)) rfl rfl rfl rfl rfl hreaches fun u hu =>
      harrived.rest (by simp) (State.onlyChanges_iff.2 (by simp)) hu
  | moving target c a d hold =>
    rw [hst] at hplace
    obtain rfl : target = .seat p := Option.some.inj hplace
    have hreaches := hgo (State.learnSeat_movingHere hbyAddr hst)
    have hheard : s.heard (.seat p) r = r := by
      rw [State.heard, hst]
    rw [hheard]
    exact State.shareTakes_of_submits (harrived.submits_kept hr) rfl rfl rfl rfl rfl hreaches fun u hu =>
      harrived.rest rfl (State.onlyChanges_iff.2 (by simp)) hu
  | lingering d =>
    rw [hst] at hplace
    cases hplace

/-- Settles O26: learning changes the client's place, state by state, and the unit takes the frame after it. -/
theorem clientChangesPlace : Obligations.ClientChangesPlace := by
  intro s p frame n r hinv haccepts howns hempty
  dsimp only
  have harrived := State.arrived_arrived hinv p frame
  have hgo := fun {t : State} {learned : Option Nat} => reaches_learnSeat haccepts (t := t) (learned := learned)
  have hr : s.record n = some r := (State.findRecord_some hinv.records.1 howns).1
  have hbyAddr : (s.beginEvent.arrived p frame).byAddr (frameSrc frame) = some (n, r) := (harrived.byAddr _).trans howns
  have hclear := State.clearSeat_empty ((harrived.occupant p).trans hempty) (some n)
  generalize s.beginEvent.arrived p frame = w at *
  generalize s.fs.slots.firstFree 0 = k at *
  obtain ⟨hct, hmc, _, _, hclb, _⟩ := harrived.blocks
  have hwr : w.record n = some r := by rw [State.record_eq_of_ct hct, hr]
  have hlink := State.link_eq_of_clb hclb
  refine ⟨fun q t hst hne => ?_, fun c a t hst hready hformer => ?_, fun q c a t hold hst hne => ?_, fun d b c a t hold hst hready => ?_,
    fun t hst => ?_⟩
  · have hreaches := hgo (State.learnSeat_otherSeat hbyAddr hst hne)
    rw [hclear] at hreaches
    have hcomes := State.comes_attach (s := w) (t := w.discardQueue (.seat q)) (n := n) (r := r)
      (by rw [State.discardQueue_record, hwr]) (fun m _ => by rw [State.discardQueue_record])
      ((w.discardQueue_only (by simp)).mono (by simp)) (.seat p)
    rw [State.discardQueue_idleFor, harrived.idleFor] at hcomes
    have hentries : (((w.discardQueue (.seat q)).attach n (.seat p)).queue (.seat q)).entries = [] := by
      rw [State.queue_eq_of_fs (s := w.discardQueue (.seat q)) (by simp)]
      exact w.discardQueue_entries (.seat q)
    have htmc : ((w.discardQueue (.seat q)).attach n (.seat p)).mc = s.mc := by simp [hmc]
    have htclb : ((w.discardQueue (.seat q)).attach n (.seat p)).clb = s.clb := by simp [hclb]
    generalize (w.discardQueue (.seat q)).attach n (.seat p) = v at *
    have hu := v.submit_submitted k n
    refine ⟨_, hreaches, harrived.becomes hcomes hu, ?_, hu.mc.trans htmc, hu.clb.trans htclb⟩
    change ((v.submit k n).queue (.seat q)).entries = []
    rw [hu.queues _ (by simp), hentries]
  · have hreaches := hgo (State.learnSeat_fromLink hbyAddr hst)
    rw [hclear] at hreaches
    obtain ⟨hcomes, htold, htmc⟩ := State.beginMove_comes hwr (c := c) (a := a) (by rw [hlink]; exact hready) (by
      rw [← hformer]
      unfold State.byFormer State.findRecord
      rw [hct]) (.seat p)
    rw [hmc] at hcomes htmc
    generalize w.beginMove n c a (.seat p) = v at *
    have hu := v.submit_submitted k n
    refine ⟨_, hreaches, harrived.becomes hcomes hu, hu.toldRadio htold, ?_⟩
    exact congrArg MoveController.counts (hu.mc.trans htmc)
  · have hreaches := hgo (State.learnSeat_moving hbyAddr hst (by simpa using hne))
    rw [hclear] at hreaches
    obtain ⟨hcomes, htmc, htfs, _⟩ := State.retarget_comes (target := .seat p) hwr hst
    have hentries : ((w.retarget n (.seat p)).queue (.seat q)).entries = [] := by
      rw [State.queue_eq_of_fs htfs]
      exact w.discardQueue_entries (.seat q)
    rw [hmc] at htmc
    generalize w.retarget n (.seat p) = v at *
    have hu := v.submit_submitted k n
    refine ⟨_, hreaches, harrived.becomes hcomes hu, ?_, congrArg MoveController.counts (hu.mc.trans htmc)⟩
    change ((v.submit k n).queue (.seat q)).entries = []
    rw [hu.queues _ (by simp), hentries]
  · have hreaches := hgo (State.learnSeat_moving hbyAddr hst (by simp))
    rw [hclear] at hreaches
    obtain ⟨hcomes, htmc, htfs, htev⟩ := State.retarget_comes (target := .seat p) hwr hst
    have htold : toldRadio (w.retarget n (.seat p)) d (.drop b) := by
      have hsent := toldRadio_sendRadio (s := w) (c := d) (by rw [hlink]; exact hready) (.drop b)
      refine hsent.mono ?_ ?_
      · rw [htev]
        exact List.Subset.refl _
      · rw [State.queue_eq_of_fs htfs]
        exact List.Subset.refl _
    rw [hmc] at htmc
    generalize w.retarget n (.seat p) = v at *
    have hu := v.submit_submitted k n
    exact ⟨_, hreaches, harrived.becomes hcomes hu, hu.toldRadio htold, congrArg MoveController.counts (hu.mc.trans htmc)⟩
  · have hreaches := hgo (State.learnSeat_lingering hbyAddr hst)
    rw [hclear] at hreaches
    have hcomes := State.comes_attach (s := w) (t := w) (n := n) (r := r) hwr (fun _ _ => rfl) (State.onlyChanges_iff.2 (by simp)) (.seat p)
    rw [harrived.idleFor] at hcomes
    have htmc : (w.attach n (.seat p)).mc = s.mc := by simp [hmc]
    have htclb : (w.attach n (.seat p)).clb = s.clb := by simp [hclb]
    generalize w.attach n (.seat p) = v at *
    have hu := v.submit_submitted k n
    exact ⟨_, hreaches, harrived.becomes hcomes hu, hu.mc.trans htmc, hu.clb.trans htclb⟩

end Sys2Proof.Proofs
end

section
/-! SUPPORT. The record that a new client obtains (R4, R5), and an occupant's leaving beside a slot that is claimed (R8). -/

namespace Sys2Proof.Machine

/-! ### The lowest free number -/

/-- Every number below the one found free is listed. -/
theorem Table.get_ne_none_of_lt_firstFree {α : Type} (t : Table α) (k : Nat) {m : Nat} (hk : k ≤ m) (hm : m < t.firstFree k) :
    t.get m ≠ none := by
  induction t generalizing k with
  | nil => exact absurd hm (by simp only [Table.firstFree]; omega)
  | cons d t ih =>
    obtain ⟨j, w⟩ := d
    unfold Table.get
    unfold Table.firstFree at hm
    by_cases hjm : j = m
    · rw [if_pos hjm]
      exact Option.some_ne_none w
    · rw [if_neg hjm]
      split at hm
      · next hjk => exact ih (k + 1) (by omega) hm
      · split at hm
        · exact ih k hk hm
        · omega

/-- The lowest free number is that of every table which lists the same numbers. -/
theorem Table.firstFree_congr {α β : Type} {t : Table α} {t' : Table β} (hw : t.wf = true) (hw' : t'.wf = true)
    (h : ∀ m, t.get m = none ↔ t'.get m = none) : t.firstFree 0 = t'.firstFree 0 := by
  have hfree := (h _).1 (Table.get_firstFree hw 0)
  have hfree' := (h _).2 (Table.get_firstFree hw' 0)
  refine Nat.le_antisymm ?_ ?_
  · by_contra hlt
    exact Table.get_ne_none_of_lt_firstFree t 0 (Nat.zero_le _) (Nat.lt_of_not_le hlt) hfree'
  · by_contra hlt
    exact Table.get_ne_none_of_lt_firstFree t' 0 (Nat.zero_le _) (Nat.lt_of_not_le hlt) hfree

/-! ### The record reclaimed -/

/-- R5: among equals the lowest number is picked. -/
theorem leastLingering_lowest (t : Table Record) (hw : t.wf = true) {n left : Nat} (h : leastLingering t = some (n, left)) :
    ∀ e ∈ t, e.2.lingerLeft = some left → n ≤ e.1 := by
  rw [Table.wf_iff] at hw
  induction t generalizing n left with
  | nil => exact nofun
  | cons d rest ih =>
    obtain ⟨m, r⟩ := d
    simp only [List.map_cons, List.pairwise_cons] at hw
    obtain ⟨hbelow, hrest⟩ := hw
    unfold leastLingering at h
    intro e he hleft
    split at h
    · next hnone =>
      rcases List.mem_cons.1 he with rfl | he
      · rw [hnone] at hleft
        cases hleft
      · exact ih hrest h e he hleft
    · next t hsome hnone =>
      obtain ⟨rfl, rfl⟩ := Prod.mk.inj (Option.some.inj h)
      rcases List.mem_cons.1 he with rfl | he
      · exact le_rfl
      · rw [leastLingering_none rest hnone e he] at hleft
        cases hleft
    · next t m' u hsome hbest =>
      split at h
      · obtain ⟨rfl, rfl⟩ := Prod.mk.inj (Option.some.inj h)
        rcases List.mem_cons.1 he with rfl | he
        · exact le_rfl
        · exact (hbelow e.1 (List.mem_map_of_mem he)).le
      · next hlt =>
        obtain ⟨rfl, rfl⟩ := Prod.mk.inj (Option.some.inj h)
        rcases List.mem_cons.1 he with rfl | he
        · rw [hsome] at hleft
          obtain rfl := Option.some.inj hleft
          exact absurd le_rfl hlt
        · exact ih hrest hbest e he hleft

theorem Record.lingerLeft_of_lingering {r : Record} {t : Timer} (h : r.st = .lingering t) : r.lingerLeft = some (t.getD 0) := by
  rw [Record.lingerLeft, h]

theorem Record.lingering_of_lingerLeft {r : Record} {left : Nat} (h : r.lingerLeft = some left) :
    ∃ t, r.st = .lingering t ∧ t.getD 0 = left := by
  unfold Record.lingerLeft at h
  split at h
  · next t hst => exact ⟨t, hst, Option.some.inj h⟩
  · cases h

theorem State.obtain_ne_none {s : State} {m : Nat} {y : Record} {t : Timer} (hm : s.record m = some y) (hst : y.st = .lingering t) :
    s.obtain ≠ none := by
  unfold State.obtain
  dsimp only
  split
  · exact Option.some_ne_none _
  · intro hnone
    have hleft := leastLingering_none _ (Option.map_eq_none_iff.1 hnone) _ (Table.get_mem _ _ _ hm)
    rw [Record.lingerLeft_of_lingering hst] at hleft
    cases hleft

section Obtain

variable {s : State} (hw : s.ct.records.wf = true)

theorem State.obtain_free (hlt : s.ct.records.firstFree 0 < 512) : s.obtain = some (s.ct.records.firstFree 0, false) := if_pos hlt

include hw

/-- R5: with no record VACANT, the LINGERING record with the least time left, the lowest number among equals. -/
theorem State.obtain_reclaims {m : Nat} {y : Record} {t : Timer} (hfull : 512 ≤ s.ct.records.firstFree 0) (hm : s.record m = some y)
    (hst : y.st = .lingering t) (hleast : ∀ k z d, s.record k = some z → z.st = .lingering d →
      t.getD 0 < d.getD 0 ∨ (t.getD 0 = d.getD 0 ∧ m ≤ k)) : s.obtain = some (m, true) := by
  have hobtain : s.obtain = (leastLingering s.ct.records).map fun e => (e.1, true) := if_neg (by omega)
  have hmem := Table.get_mem _ _ _ hm
  cases hbest : leastLingering s.ct.records with
  | none =>
    have hnone := leastLingering_none _ hbest _ hmem
    rw [Record.lingerLeft_of_lingering hst] at hnone
    cases hnone
  | some e =>
    obtain ⟨k, left⟩ := e
    obtain ⟨⟨z, hz, hzleft⟩, hmin⟩ := leastLingering_least _ _ _ hbest
    obtain ⟨d, hd, hdleft⟩ := Record.lingering_of_lingerLeft hzleft
    have hle : left ≤ t.getD 0 := hmin _ hmem _ (Record.lingerLeft_of_lingering hst)
    have heq : t.getD 0 = left ∧ m ≤ k := by
      rcases hleast k z d (Table.get_of_mem hw hz) hd with h | ⟨h, hmk⟩
      · omega
      · exact ⟨by omega, hmk⟩
    have hkm : k ≤ m := leastLingering_lowest _ hw hbest _ hmem (by
      rw [← heq.1]
      exact Record.lingerLeft_of_lingering hst)
    rw [hobtain, hbest, Option.map_some, Nat.le_antisymm hkm heq.2]

end Obtain

/-! ### Beside a claimed slot -/

/-- `w` is `s` with slot `k` claimed aside: the queues and the client-side blocks are the same. -/
structure State.Beside (s w : State) (k : Nat) (x : Slot) : Prop where
  claims : s.Claims w k x
  queue : w.queue = s.queue
  ct : w.ct = s.ct
  mc : w.mc = s.mc
  sau : w.sau = s.sau

section Beside

variable {s w : State} {k : Nat} {x : Slot}

theorem State.Claims.dropRef (h : s.Claims w k x) {j : Nat} (hj : j ≠ k) : (s.dropRef j).Claims (w.dropRef j) k x := by
  have hsame := h.others j hj
  cases hget : s.fs.slots.get j with
  | none =>
    have hs : s.dropRef j = s := by simp [State.dropRef, hget]
    have hwj : w.dropRef j = w := by simp [State.dropRef, hsame, hget]
    rw [hs, hwj]
    exact h
  | some y =>
    have hs := s.dropRef_slots hget
    have hwj := w.dropRef_slots (hsame.trans hget)
    by_cases hrefs : y.refs ≤ 1
    · rw [if_pos hrefs] at hs hwj
      refine ⟨?_, ?_, fun i hi => ?_⟩
      · rw [hs, Table.get_del_of_ne _ _ _ hj.symm, h.free]
      · rw [hwj, Table.get_del_of_ne _ _ _ hj.symm, h.held]
      · rw [hs, hwj, Table.get_del, Table.get_del, h.others i hi]
    · rw [if_neg hrefs] at hs hwj
      refine ⟨?_, ?_, fun i hi => ?_⟩
      · rw [hs, Table.get_put_of_ne _ _ _ _ hj.symm, h.free]
      · rw [hwj, Table.get_put_of_ne _ _ _ _ hj.symm, h.held]
      · rw [hs, hwj, Table.get_put, Table.get_put, h.others i hi]

theorem State.Claims.congr {s' w' : State} (h : s.Claims w k x) (hs : s'.fs.slots = s.fs.slots) (hw : w'.fs.slots = w.fs.slots) :
    s'.Claims w' k x := ⟨by rw [hs]; exact h.free, by rw [hw]; exact h.held, fun j hj => by rw [hs, hw]; exact h.others j hj⟩

theorem State.Claims.dropRefs (es : List Entry) (h : s.Claims w k x) (hes : ∀ e ∈ es, e.slot ≠ k) :
    (es.foldl (fun t e => t.dropRef e.slot) s).Claims (es.foldl (fun t e => t.dropRef e.slot) w) k x := by
  induction es generalizing s w with
  | nil => exact h
  | cons e rest ih =>
    exact ih (h.dropRef (hes e List.mem_cons_self)) fun d hd => hes d (List.mem_cons_of_mem _ hd)

/-- R40: a queue discarded, no entry of it referring to the slot. -/
theorem State.Beside.discardQueue (h : s.Beside w k x) (port : Port) (hes : ∀ e ∈ (s.queue port).entries, e.slot ≠ k) :
    (s.discardQueue port).Beside (w.discardQueue port) k x where
  claims := by
    unfold State.discardQueue
    dsimp only
    rw [h.queue]
    exact State.Claims.congr (State.Claims.dropRefs _ (h.claims.congr (State.setQueue_slots _ _ _) (State.setQueue_slots _ _ _)) hes)
      (State.releaseWaiting_slots _ _) (State.releaseWaiting_slots _ _)
  queue := by
    funext q
    by_cases hq : q = port
    · rw [hq, State.discardQueue_queue_self, State.discardQueue_queue_self, h.queue]
    · rw [State.discardQueue_queue_of_ne _ hq, State.discardQueue_queue_of_ne _ hq, h.queue]
  ct := by simp [h.ct]
  mc := by simp [h.mc]
  sau := by simp [h.sau]

theorem State.Beside.onRecord (h : s.Beside w k x) (n : Nat) (f : Record → Record) : (s.onRecord n f).Beside (w.onRecord n f) k x :=
  ⟨h.claims.congr rfl rfl, h.queue, congrArg (fun b : ClientTable => { b with records := b.records.modify n f }) h.ct, h.mc, h.sau⟩

theorem State.Beside.onSau (h : s.Beside w k x) (f : ShareUnit → ShareUnit) : (s.onSau f).Beside (w.onSau f) k x :=
  ⟨h.claims.congr rfl rfl, h.queue, h.ct, h.mc, congrArg f h.sau⟩

theorem State.Beside.countMc (h : s.Beside w k x) (f : McCounters → McCounters) : (s.countMc f).Beside (w.countMc f) k x :=
  ⟨h.claims.congr rfl rfl, h.queue, h.ct, congrArg (fun b : MoveController => { b with counts := f b.counts }) h.mc, h.sau⟩

theorem State.Beside.dropRef (h : s.Beside w k x) {j : Nat} (hj : j ≠ k) : (s.dropRef j).Beside (w.dropRef j) k x :=
  ⟨h.claims.dropRef hj, by rw [State.dropRef_queue, State.dropRef_queue, h.queue], by simp [h.ct], by simp [h.mc], by simp [h.sau]⟩

theorem State.Beside.discardParked (h : s.Beside w k x) (parked : List Nat) (hk : k ∉ parked) :
    (s.discardParked parked).Beside (w.discardParked parked) k x := by
  unfold State.discardParked
  induction parked generalizing s w with
  | nil => exact h
  | cons j rest ih =>
    obtain ⟨hj, hrest⟩ := not_or.1 (mt List.mem_cons.2 hk)
    exact ih ((h.dropRef (Ne.symm hj)).onSau _) hrest

theorem State.Beside.discardHold (h : s.Beside w k x) (hold : List Nat) (hk : k ∉ hold) :
    (s.discardHold hold).Beside (w.discardHold hold) k x := by
  unfold State.discardHold
  induction hold generalizing s w with
  | nil => exact h
  | cons j rest ih =>
    obtain ⟨hj, hrest⟩ := not_or.1 (mt List.mem_cons.2 hk)
    exact ih ((h.dropRef (Ne.symm hj)).countMc _) hrest

theorem State.Beside.record (h : s.Beside w k x) : w.record = s.record := State.record_eq_of_ct h.ct

theorem State.Beside.clearParked (h : s.Beside w k x) {n : Nat} {r : Record} (hr : s.record n = some r) (hk : k ∉ r.parked) :
    (s.clearParked n).Beside (w.clearParked n) k x := by
  rw [State.clearParked_eq hr, State.clearParked_eq (h.record ▸ hr)]
  exact ((h.discardParked _ hk).onRecord n _).onSau _

theorem State.Beside.leaveSeat (h : s.Beside w k x) (pl : Option Place)
    (hes : ∀ p, pl = some (.seat p) → ∀ e ∈ (s.queue (.seat p)).entries, e.slot ≠ k) :
    (s.leaveSeat pl).Beside (w.leaveSeat pl) k x := by
  unfold State.leaveSeat
  split
  · exact h.discardQueue _ (hes _ rfl)
  · exact h

/-- R8, R21: a record enters LINGERING, no entry that it gives up referring to the slot. -/
theorem State.Beside.enterLingering (h : s.Beside w k x) {n : Nat} {r : Record} (hr : s.record n = some r)
    (hparked : k ∉ r.parked) (hhold : k ∉ r.st.hold)
    (hes : ∀ p, r.st.place = some (.seat p) → ∀ e ∈ (s.queue (.seat p)).entries, e.slot ≠ k) :
    (s.enterLingering n).Beside (w.enterLingering n) k x := by
  have hwr : w.record n = some r := h.record ▸ hr
  have hstart : ∀ pl, r.st.place = some pl → (s.lingering n pl).Beside (w.lingering n pl) k x := fun pl hpl => by
    have hfirst := h.onRecord n fun x => { x with st := .lingering (some (s.ct.lingerTime * 1000)) }
    have hsecond := hfirst.leaveSeat (some pl) fun p hp => hes p (hpl.trans hp)
    have hrecord : ((s.onRecord n fun x => { x with st := .lingering (some (s.ct.lingerTime * 1000)) }).leaveSeat (some pl)).record n
        = some { r with st := .lingering (some (s.ct.lingerTime * 1000)) } := by
      obtain ⟨_, _, _, _, hct, _⟩ :=
        (s.onRecord n fun x => { x with st := .lingering (some (s.ct.lingerTime * 1000)) }).leaveSeat_keeps (some pl)
      rw [State.record_eq_of_ct hct, State.onRecord_record, if_pos rfl, hr]
      rfl
    have hthird := hsecond.clearParked hrecord hparked
    unfold State.lingering
    rw [h.ct]
    exact hthird
  unfold State.enterLingering
  rw [hr, hwr]
  dsimp only
  cases hst : r.st with
  | lingering left => exact h
  | attached pl idle => exact hstart pl (by rw [hst]; rfl)
  | moving pl c a deadline hold =>
    rw [hst] at hhold
    exact ((hstart pl (by rw [hst]; rfl)).discardHold hold hhold).countMc _

end Beside

/-! ### What a free slot is referred to by -/

/-- RefInv: no queue and no record refers to a free slot (R30, log entry 35). -/
theorem RefInv.unreferenced {s : State} (h : RefInv s) {k : Nat} (hk : s.fs.slots.get k = none) :
    (∀ port, ∀ e ∈ (s.queue port).entries, e.slot ≠ k) ∧ ∀ n r, s.record n = some r → k ∉ r.st.hold ∧ k ∉ r.parked := by
  have hzero : s.references k = 0 := by
    rw [← h.1 k, State.refsOf, hk]
  unfold State.references at hzero
  obtain ⟨hports, hrecords⟩ := Nat.add_eq_zero_iff.1 hzero
  rw [List.sum_eq_zero_iff] at hports hrecords
  refine ⟨fun port e he hek => ?_, fun n r hr => ?_⟩
  · have hcount := hports _ (List.mem_map_of_mem (mem_allPorts port))
    rw [List.countP_eq_zero] at hcount
    exact hcount e he (by simp [hek])
  · have hcount := hrecords _ (List.mem_map_of_mem (Table.get_mem _ _ _ hr))
    obtain ⟨hhold, hparked⟩ := Nat.add_eq_zero_iff.1 hcount
    exact ⟨List.count_eq_zero.1 hhold, List.count_eq_zero.1 hparked⟩

end Sys2Proof.Machine
end

section
/-! PROOFS. A new client is learned at a seat (O24). -/

namespace Sys2Proof.Machine

/-! ### The occupant leaves (R8) -/

section ClearSeat

variable {s : State} {p : SeatNo} {m : Nat} {y : Record}

theorem State.occupant_some (hw : s.ct.records.wf = true) (h : s.occupant p = some (m, y)) :
    s.record m = some y ∧ y.st.place = some (.seat p) := State.atPlace_some hw h

theorem State.clearSeat_occupied (h : s.occupant p = some (m, y)) : s.clearSeat p none = s.enterLingering m := by
  unfold State.clearSeat
  rw [h]
  exact if_neg nofun

theorem RecordState.not_lingering_of_place {st : RecordState} {pl : Place} (h : st.place = some pl) : st.isLingering = false := by
  cases st with
  | attached => rfl
  | moving => rfl
  | lingering => cases h

/-- R8, R21: what the occupant of a seat leaves behind when it goes to LINGERING. -/
theorem State.occupant_leaves (hw : s.ct.records.wf = true) (h : s.occupant p = some (m, y)) :
    s.Leaves (s.enterLingering m) m y (some (.seat p)) y.st.hold y.isMoving := by
  obtain ⟨hm, hplace⟩ := State.occupant_some hw h
  have hleaves := State.enterLingering_leaves hm (RecordState.not_lingering_of_place hplace)
  rw [hplace] at hleaves
  exact hleaves

/-- The statement's form of the same. -/
theorem State.Leaves.occupant_has_left {t : State} (h : s.occupant p = some (m, y))
    (hl : s.Leaves t m y (some (.seat p)) y.st.hold y.isMoving) : occupantLeaves s t p := by
  unfold occupantLeaves targetsLostBy
  rw [h]
  refine ⟨nofun, ?_, fun n r hr => ?_, fun k _ => ?_⟩
  · rw [hl.mc]
    cases hmoving : y.isMoving <;> simp [hmoving]
  · obtain ⟨rfl, rfl⟩ := Prod.mk.inj (Option.some.inj hr)
    obtain ⟨c, hsau⟩ := hl.sau
    refine ⟨hl.record, hl.others, ?_⟩
    rw [hsau]
    simp
  · exact hl.refs k

theorem State.Leaves.get_none_iff {t : State} {r : Record} {pl : Option Place} {hold : List Nat} {moved : Bool}
    (hl : s.Leaves t m r pl hold moved) (hm : s.record m = some r) (j : Nat) : t.ct.records.get j = none ↔ s.ct.records.get j = none := by
  by_cases hj : j = m
  · rw [hj]
    exact ⟨fun h => absurd (hl.record.symm.trans h) (Option.some_ne_none _), fun h => absurd (hm.symm.trans h) (Option.some_ne_none _)⟩
  · exact (iff_of_eq (congrArg (· = none) (hl.others j hj)) :)

theorem State.clearSeat_firstFree (hw : s.ct.records.wf = true) (p : SeatNo) :
    (s.clearSeat p none).ct.records.firstFree 0 = s.ct.records.firstFree 0 := by
  cases h : s.occupant p with
  | none => rw [State.clearSeat_empty h]
  | some e =>
    obtain ⟨m, y⟩ := e
    have hleaves := State.occupant_leaves hw h
    have hwf := State.enterLingering_records_wf hw h
    rw [State.clearSeat_occupied h]
    exact Table.firstFree_congr hwf hw (hleaves.get_none_iff (State.occupant_some hw h).1)

/-- What the clearing of a seat leaves of the part (R8). -/
structure State.Cleared (s b : State) (p : SeatNo) : Prop where
  ctCounts : b.ct.counts = s.ct.counts
  lingerTime : b.ct.lingerTime = s.ct.lingerTime
  state : b.sau.state = s.sau.state
  seats : otherSeats s b p
  seat : ∀ q, (b.seat q).uncommanded = (s.seat q).uncommanded
  rest : b.el = s.el ∧ b.clb = s.clb ∧ b.cu = s.cu ∧ b.me = s.me ∧ b.sl = s.sl ∧ b.memory = s.memory ∧ b.pending = s.pending
    ∧ b.resetLine = s.resetLine

theorem State.clearSeat_cleared (hw : s.ct.records.wf = true) (p : SeatNo) : s.Cleared (s.clearSeat p none) p := by
  cases h : s.occupant p with
  | none =>
    rw [State.clearSeat_empty h]
    exact ⟨rfl, rfl, rfl, fun _ _ => rfl, fun _ => rfl, rfl, rfl, rfl, rfl, rfl, rfl, rfl, rfl⟩
  | some e =>
    obtain ⟨m, y⟩ := e
    have hleaves := State.occupant_leaves hw h
    rw [State.clearSeat_occupied h]
    obtain ⟨c, hsau⟩ := hleaves.sau
    exact ⟨hleaves.ctCounts, hleaves.lingerTime, by rw [hsau], fun q hq => hleaves.seats q (by simpa using hq.symm), hleaves.seat,
      hleaves.rest⟩

theorem State.Cleared.profile {b : State} (h : s.Cleared b p) (q : SeatNo) : (b.seat q).profile = (s.seat q).profile := by
  have hseat := congrArg Seat.profile (h.seat q)
  exact hseat

theorem State.Cleared.idleFor {b : State} (h : s.Cleared b p) (cls : Class) (pl : Place) : b.idleFor cls pl = s.idleFor cls pl := by
  obtain ⟨_, hclb, _⟩ := h.rest
  exact State.idleFor_congr h.profile (fun c => by rw [State.link_eq_of_clb hclb]) cls pl

theorem State.Cleared.newRecord {b : State} (h : s.Cleared b p) (x : Addr) (pl : Place) : b.newRecord x pl = s.newRecord x pl := by
  obtain ⟨hel, _⟩ := h.rest
  have hcls : b.classOf x = s.classOf x := by rw [State.classOf, State.classOf, State.entitlement, State.entitlement, hel]
  have hcredit : ∀ cls, b.newCredit cls = s.newCredit cls := fun cls => by rw [State.newCredit, State.newCredit, h.state]
  rw [State.newRecord, State.newRecord, hcls, hcredit, h.idleFor]

end ClearSeat

/-! ### The arrival of a new client's frame -/

section Arriving

variable {s w : State} {p : SeatNo} {k : Nat} {x : Slot}

theorem State.Arrived.beside (h : s.Arrived w p k x) : s.Beside w k x := by
  obtain ⟨hct, hmc, hsau, _⟩ := h.blocks
  exact ⟨h.claims, h.queue, hct, hmc, hsau⟩

/-- The seat cleared, with the frame's slot claimed, is the seat cleared beside that slot. -/
theorem State.Arrived.clearSeat_beside (h : s.Arrived w p k x) (hinv : Inv s) (href : RefInv s) :
    (s.clearSeat p none).Beside (w.clearSeat p none) k x := by
  have hoccupant := h.occupant p
  cases ho : s.occupant p with
  | none =>
    rw [State.clearSeat_empty ho, State.clearSeat_empty (hoccupant.trans ho)]
    exact h.beside
  | some e =>
    obtain ⟨m, y⟩ := e
    rw [State.clearSeat_occupied ho, State.clearSeat_occupied (hoccupant.trans ho)]
    obtain ⟨hm, _⟩ := State.occupant_some hinv.records.1 ho
    obtain ⟨hentries, hlists⟩ := href.unreferenced h.claims.free
    obtain ⟨hhold, hparked⟩ := hlists m y hm
    exact h.beside.enterLingering hm hparked hhold fun q _ => hentries (.seat q)

theorem State.Arrived.newRecord (h : s.Arrived w p k x) (y : Addr) (pl : Place) : w.newRecord y pl = s.newRecord y pl := by
  obtain ⟨_, _, hsau, hel, _⟩ := h.blocks
  have hcls : w.classOf y = s.classOf y := by rw [State.classOf, State.classOf, State.entitlement, State.entitlement, hel]
  have hcredit : ∀ cls, w.newCredit cls = s.newCredit cls := fun cls => by rw [State.newCredit, State.newCredit, hsau]
  rw [State.newRecord, State.newRecord, hcls, hcredit, h.idleFor]

/-- The part as the unit finds it when a record has been set up for the client (R7). -/
theorem State.Beside.submits_setUp {b t : State} (h : b.Beside t k x) (hx : x.refs = 0) (hcu : t.cu = b.cu) (n : Nat)
    (reclaimed : Bool) (y : Addr) (pl : Place) : b.Submits (t.setUp n reclaimed y pl) k x n (t.newRecord y pl) where
  claims := h.claims.congr rfl rfl
  refs := hx
  queue := h.queue
  sau := h.sau
  cu := hcu
  record := t.record_setUp n reclaimed y pl
  others m hm := by
    rw [State.record, State.setUp_records, Table.get_put_of_ne _ _ _ _ hm]
    exact congrFun h.record m

end Arriving

theorem State.setUp_only (s : State) (n : Nat) (reclaimed : Bool) (y : Addr) (pl : Place) : s.onlyChanges (s.setUp n reclaimed y pl) [.ct] :=
  State.onlyChanges_iff.2 (by simp [State.setUp, State.countCt, State.putRecord])

/-- R6: a client that can have no record. -/
theorem State.learnSeat_refused {s : State} {p : SeatNo} {y : Addr} (hx : s.byAddr y = none) (hnone : (s.clearSeat p none).obtain = none) :
    s.learnSeat p y = (((s.clearSeat p none).countCt fun c => { c with creationFailures := bump c.creationFailures }).raise .tableFull,
      none) := by
  simp [State.learnSeat, hx, State.create, hnone]

end Sys2Proof.Machine

namespace Sys2Proof.Proofs

open Sys2Proof.Machine

/-- Settles O24: the seat is cleared beside the claimed slot (`clearSeat_beside`), a record is obtained and set up there, and the unit
takes the frame. -/
theorem newClientIsLearned : Obligations.NewClientIsLearned := by
  intro s p frame hinv href haccepts hnew
  dsimp only
  have harrived := State.arrived_arrived hinv p frame
  have hgo := fun {t : State} {learned : Option Nat} => reaches_learnSeat haccepts (t := t) (learned := learned)
  have hframe : (seatSlot p frame).frame = frame := rfl
  generalize s.beginEvent.arrived p frame = w at *
  generalize s.fs.slots.firstFree 0 = slot at *
  generalize seatSlot p frame = x at *
  have hw : s.ct.records.wf = true := hinv.records.1
  have hwW : w.ct.records.wf = true := by rw [harrived.blocks.1]; exact hw
  have hbyAddr : w.byAddr (frameSrc frame) = none := (harrived.byAddr _).trans hnew
  have hbeside := harrived.clearSeat_beside hinv href
  have hcleared := State.clearSeat_cleared hw p
  have hclearedW := State.clearSeat_cleared hwW p
  have hfirst := State.clearSeat_firstFree hw p
  have hwf := State.clearSeat_records_wf hw p
  have hobtain : (w.clearSeat p none).obtain = (s.clearSeat p none).obtain := by
    rw [State.obtain, State.obtain, hbeside.ct]
  refine ⟨fun hempty => State.clearSeat_empty hempty none, fun m y ho => ?_, fun hlt => ?_, fun m y t hfull hm hst hleast => ?_,
    fun n reclaimed hn => ?_, fun hempty hnone => ?_⟩
  · have hleaves := State.occupant_leaves hw ho
    rw [State.clearSeat_occupied ho]
    exact ⟨hleaves.occupant_has_left ho, hleaves.emptied p rfl, fun q hq => hleaves.queues q fun p' hp' => by
      rw [← Place.seat.inj (Option.some.inj hp')]
      exact hq, State.obtain_ne_none hleaves.record rfl⟩
  · exact ⟨Table.get_firstFree hw 0, fun m hm => Table.get_ne_none_of_lt_firstFree _ 0 (Nat.zero_le _) hm, by
      rw [← hfirst] at hlt ⊢
      exact State.obtain_free hlt⟩
  · exact State.obtain_reclaims hwf (by rw [hfirst]; exact hfull) hm hst hleast
  · have hreaches := hgo (State.learnSeat_new hbyAddr (hobtain.trans hn))
    obtain ⟨_, _, _, hel, hclb, hcu⟩ := harrived.blocks
    obtain ⟨helS, hclbS, hcuS, hmeS, hslS, hmemoryS, hpendingS, hlineS⟩ := hcleared.rest
    obtain ⟨helW, hclbW, hcuW, hmeW, hslW, hmemoryW, hpendingW, hlineW⟩ := hclearedW.rest
    have hsubmits := hbeside.submits_setUp harrived.refs (by rw [hcuW, hcuS, hcu]) n reclaimed (frameSrc frame) (.seat p)
    rw [hclearedW.newRecord, harrived.newRecord] at hsubmits
    have honlyW : (s.clearSeat p none).onlyChanges (w.clearSeat p none) [.spb, .fs, .me] := by
      obtain ⟨_, _, _, _, _, _, _, _, _, hsl, hmemory, hpending, hline⟩ := State.onlyChanges_iff.1 harrived.only
      exact State.onlyChanges_iff.2 ⟨fun _ => hbeside.ct, fun _ => hbeside.mc, fun _ => hbeside.sau, fun _ => by rw [helW, helS, hel],
        fun h => absurd (by simp) h, fun h => absurd (by simp) h, fun _ => by rw [hclbW, hclbS, hclb], fun _ => by rw [hcuW, hcuS, hcu],
        fun h => absurd (by simp) h, fun _ => by rw [hslW, hslS, hsl (by simp)], fun _ => by rw [hmemoryW, hmemoryS, hmemory (by simp)],
        by rw [hpendingW, hpendingS, hpending], by rw [hlineW, hlineS, hline]⟩
    have hcounts : ((w.clearSeat p none).setUp n reclaimed (frameSrc frame) (.seat p)).ct.counts = { s.ct.counts with
        created := bump s.ct.counts.created
        reclaims := if reclaimed then bump s.ct.counts.reclaims else s.ct.counts.reclaims } := by
      rw [← hcleared.ctCounts, ← hbeside.ct]
      rfl
    have hseatW : ∀ q, ((w.clearSeat p none).seat q).uncommanded = (w.seat q).uncommanded := hclearedW.seat
    have hseatsW := hclearedW.seats
    have hsetUp := (w.clearSeat p none).setUp_only n reclaimed (frameSrc frame) (.seat p)
    have hspbT : ((w.clearSeat p none).setUp n reclaimed (frameSrc frame) (.seat p)).spb = (w.clearSeat p none).spb := rfl
    have hmeT : ((w.clearSeat p none).setUp n reclaimed (frameSrc frame) (.seat p)).me = w.me := hmeW
    rw [← hframe] at hsubmits hcounts hsetUp hspbT hmeT hreaches ⊢
    generalize (w.clearSeat p none).setUp n reclaimed (frameSrc x.frame) (.seat p) = t at *
    refine State.shareTakes_of_submits hsubmits rfl rfl rfl rfl rfl hreaches fun u hu => ?_
    obtain ⟨_, _, _, _, _, hspb, _, _, hme, _⟩ := State.onlyChanges_iff.1 hu.only
    have hseat := State.seat_eq_of_spb ((hspb (by simp)).trans hspbT)
    refine ⟨?_, ?_, fun q hq => ?_, ?_, ?_⟩
    · rw [hu.ct]
      exact hcounts
    · have haccepted := congrArg (fun y : Seat => y.counts.accepted) (hseatW p)
      have hsame : ((w.clearSeat p none).seat p).counts.accepted = (w.seat p).counts.accepted := haccepted
      rw [hseat, hsame, harrived.seat]
    · rw [hseat, hseatsW q hq, harrived.seats q hq]
    · rw [State.raised_eq_of_me ((hme (by simp)).trans hmeT), harrived.raised _ (by simp)]
    · exact ((honlyW.mono (by simp)).trans (hsetUp.mono (by simp))).trans (hu.only.mono (by simp))
  · have hclear := State.clearSeat_empty ((harrived.occupant p).trans hempty) none
    have hnoneW : (w.clearSeat p none).obtain = none := by
      rw [hobtain, State.clearSeat_empty hempty, hnone]
    have hreaches := hgo (State.learnSeat_refused hbyAddr hnoneW)
    rw [hclear] at hreaches
    obtain ⟨hct, _⟩ := harrived.blocks
    refine ⟨_, hreaches, ?_, ?_, ?_, fun q => ?_, ?_⟩
    · simp only [Option.elim]
      rw [← hct]
      simp [State.countCt]
    · simp only [Option.elim]
      rw [← hct]
      simp [State.countCt]
    · simp only [Option.elim]
      rw [State.raised_eq_of_me (s := (w.countCt fun c => { c with creationFailures := bump c.creationFailures }).raise .tableFull)
        (by simp), State.raised_raise_same, ← harrived.raised .tableFull (by simp)]
      rfl
    · simp only [Option.elim]
      rw [State.settle_queue, ← harrived.queue]
      rfl
    · exact (harrived.only.mono (by simp)).trans (State.onlyChanges_iff.2 (by simp [State.countCt]))

end Sys2Proof.Proofs
end

section
/-! SUPPORT. Moves that complete: what a flush of a hold queue and a completed move leave (R61, R65). -/

namespace Sys2Proof.Machine

/-! ### Counters and causes -/

theorem State.countCt_only (s : State) (f : CtCounters → CtCounters) : s.onlyChanges (s.countCt f) [.ct] :=
  State.onlyChanges_iff.2 (by simp)

theorem State.countMc_only (s : State) (f : McCounters → McCounters) : s.onlyChanges (s.countMc f) [.mc] :=
  State.onlyChanges_iff.2 (by simp)

theorem State.raise_only (s : State) (c : Cause) : s.onlyChanges (s.raise c) [.me] :=
  State.onlyChanges_iff.2 (by simp)

theorem State.onlyChanges.of_begin {s t : State} {written : List Block} (h : s.beginEvent.onlyChanges t written) :
    s.onlyChanges t written :=
  (s.onlyChanges_beginEvent written).trans h

/-- What two steps change together. -/
theorem State.onlyChanges.both {s t u : State} {first second written : List Block} (h : s.onlyChanges t first)
    (h' : t.onlyChanges u second) (hfirst : first ⊆ written) (hsecond : second ⊆ written) : s.onlyChanges u written :=
  (h.mono hfirst).trans (h'.mono hsecond)

/-! ### A queue filled as far as there is room -/

/-- Entries that join in two lots join as one. -/
theorem fill_append {α : Type} (es first second : List α) (cap : Nat) :
    (es ++ first.take (cap - es.length)) ++ second.take (cap - (es ++ first.take (cap - es.length)).length)
      = es ++ (first ++ second).take (cap - es.length) := by
  rw [List.append_assoc, List.take_append, List.length_append, List.length_take]
  congr 3
  omega

/-! ### A hold queue flushed -/

/-- One hold entry moved to a place's egress queue, or dropped (R65). -/
def State.flushOne (s : State) (pl : Place) (k : Nat) : State :=
  let o := s.offer pl.port (pl.entry k) false
  if o.2 then o.1 else (o.1.dropRef k).countMc fun c => { c with flushDrops := bump c.flushDrops }

theorem State.flush_nil (s : State) (pl : Place) : s.flush pl [] = s := rfl

theorem State.flush_cons (s : State) (pl : Place) (k : Nat) (hold : List Nat) :
    s.flush pl (k :: hold) = (s.flushOne pl k).flush pl hold := rfl

/-- What a flush of `hold` to a place leaves. -/
structure State.Flushes (s t : State) (pl : Place) (hold : List Nat) : Prop where
  entries : s.takesFrames pl → (t.queue pl.port).entries = s.flushedTo pl hold
  queues : ∀ q, q ≠ pl.port → t.queue q = s.queue q
  waiting : (t.queue pl.port).waiting = (s.queue pl.port).waiting
  mc : ∃ c, t.mc = { s.mc with counts := { s.mc.counts with flushDrops := c } }
  log : t.ev.out = s.ev.out ∧ t.ev.responses = s.ev.responses

section Flushing

variable {s : State} {pl : Place} {k : Nat}

theorem State.takesFrames_congr {t : State} (hspb : t.spb = s.spb) (hclb : t.clb = s.clb) (hcu : t.cu = s.cu) :
    t.takesFrames pl ↔ s.takesFrames pl := by
  have htest := State.Told.of_eq (port := pl.port) hspb hcu hclb
  rw [State.takesFrames, State.takesFrames, htest.transmits, htest.inLoopback]

theorem State.appendTest_takesFrames (h : s.takesFrames pl) : s.appendTest pl.port false
    = if queueCapacity pl.port ≤ (s.queue pl.port).entries.length then some .full else none := by
  obtain ⟨htransmits, hloopback⟩ := h
  simp [State.appendTest, htransmits, hloopback]

theorem State.flushOne_joined (h : s.appendTest pl.port false = none) : s.flushOne pl k
    = (s.onQueue pl.port fun q => { q with entries := q.entries ++ [pl.entry k] }).beginTransmission pl.port := by
  simp [State.flushOne, State.offer, h]

theorem State.flushOne_refused {why : Refused} (h : s.appendTest pl.port false = some why) : s.flushOne pl k
    = ((s.countPort pl.port fun c => why.count c).dropRef k).countMc fun c => { c with flushDrops := bump c.flushDrops } := by
  simp [State.flushOne, State.offer, h]

theorem State.flushOne_keeps (s : State) (pl : Place) (k : Nat) : (s.flushOne pl k).spb = s.spb ∧ (s.flushOne pl k).clb = s.clb
    ∧ (s.flushOne pl k).cu = s.cu := by
  have h := s.flush_keeps pl [k]
  rw [State.flush_cons, State.flush_nil] at h
  obtain ⟨_, _, _, _, _, _, _, hspb, hclb, hcu, _⟩ := h
  exact ⟨hspb, hclb, hcu⟩

/-- One hold entry joins the queue when there is room in it. -/
theorem State.flushOne_flushes (s : State) (pl : Place) (k : Nat) : s.Flushes (s.flushOne pl k) pl [k] := by
  cases ht : s.appendTest pl.port false with
  | none =>
    rw [State.flushOne_joined ht]
    refine ⟨fun htakes => ?_, fun q hq => ?_, ?_, ⟨s.mc.counts.flushDrops, by simp⟩, ?_⟩
    · rw [State.appendTest_takesFrames htakes] at ht
      have hroom : ¬ queueCapacity pl.port ≤ (s.queue pl.port).entries.length := fun h => by simp [h] at ht
      rw [(State.beginTransmission_queue_self _ _).1, State.onQueue, State.queue_setQueue_self, State.flushedTo,
        List.take_of_length_le (by simp only [List.length_singleton]; omega)]
      rfl
    · rw [State.beginTransmission_queue_of_ne _ hq, State.onQueue, State.queue_setQueue_of_ne _ _ hq]
    · rw [(State.beginTransmission_queue_self _ _).2.2, State.onQueue, State.queue_setQueue_self]
    · simp
  | some why =>
    rw [State.flushOne_refused ht]
    have hqueue : ∀ q, (((s.countPort pl.port fun c => why.count c).dropRef k).countMc fun c =>
        { c with flushDrops := bump c.flushDrops }).queue q = (s.countPort pl.port fun c => why.count c).queue q :=
      fun q => congrFun (State.dropRef_queue _ k) q
    refine ⟨fun htakes => ?_, fun q hq => ?_, ?_, ⟨bump s.mc.counts.flushDrops, ?_⟩, ?_⟩
    · rw [State.appendTest_takesFrames htakes] at ht
      have hfull : queueCapacity pl.port ≤ (s.queue pl.port).entries.length := by
        by_contra h
        simp [h] at ht
      rw [hqueue, State.countPort, State.onQueue, State.queue_setQueue_self, State.flushedTo, Nat.sub_eq_zero_of_le hfull]
      simp
    · rw [hqueue, State.countPort, State.onQueue, State.queue_setQueue_of_ne _ _ hq]
    · rw [hqueue, State.countPort, State.onQueue, State.queue_setQueue_self]
    · simp [State.countMc]
    · exact ⟨State.dropRef_out _ k, (State.dropRef_composed _ k).2.2.1⟩

/-- R65: the entries join in order, as far as there is room. -/
theorem State.flush_flushes (hold : List Nat) (s : State) (pl : Place) : s.Flushes (s.flush pl hold) pl hold := by
  induction hold generalizing s with
  | nil => exact ⟨fun _ => by simp [State.flush_nil, State.flushedTo], fun _ _ => rfl, rfl, ⟨_, rfl⟩, rfl, rfl⟩
  | cons k hold ih =>
    have hone := s.flushOne_flushes pl k
    obtain ⟨hspb, hclb, hcu⟩ := s.flushOne_keeps pl k
    rw [State.flush_cons]
    generalize s.flushOne pl k = v at *
    have hrest := ih v
    refine ⟨fun htakes => ?_, fun q hq => (hrest.queues q hq).trans (hone.queues q hq), hrest.waiting.trans hone.waiting, ?_,
      hrest.log.1.trans hone.log.1, hrest.log.2.trans hone.log.2⟩
    · rw [hrest.entries ((State.takesFrames_congr hspb hclb hcu).2 htakes), State.flushedTo, hone.entries htakes, State.flushedTo,
        State.flushedTo, List.map_take, List.map_take, List.map_take, fill_append]
      rfl
    · obtain ⟨c, hc⟩ := hone.mc
      obtain ⟨d, hd⟩ := hrest.mc
      exact ⟨d, by rw [hd, hc]⟩

end Flushing

/-! ### A move that completes -/

/-- What the completion of record `n`'s move to its target leaves, but for its own counter. -/
structure State.Completes (s t : State) (n : Nat) (r : Record) (target : Place) (hold : List Nat)
    (count : McCounters → McCounters) : Prop where
  record : t.record n = some { r with st := .attached target (s.idleFor r.cls target) }
  others : otherRecords s t n
  lingerTime : t.ct.lingerTime = s.ct.lingerTime
  ctCounts : t.ct.counts = s.ct.counts
  flushes : s.Flushes { t with mc := s.mc } target hold
  mc : ∃ c, t.mc = { s.mc with counts := count { s.mc.counts with flushDrops := c } }
  only : s.onlyChanges t [.ct, .mc, .fs]

section Completing

variable {s : State} {n : Nat} {r : Record} {target : Place} {c : LinkNo} {a : AssocNo} {t : Timer} {hold : List Nat}

theorem State.completeMove_moving (hr : s.record n = some r) (hst : r.st = .moving target c a t hold)
    (count : McCounters → McCounters) :
    s.completeMove n count = ((s.flush target hold).attach n target).countMc count := by
  unfold State.completeMove
  rw [hr]
  dsimp only
  rw [hst]

/-- R61, R65. -/
theorem State.completeMove_completes (hr : s.record n = some r) (hst : r.st = .moving target c a t hold)
    (count : McCounters → McCounters) : s.Completes (s.completeMove n count) n r target hold count := by
  obtain ⟨hpending, _, hline, hmemory, hct, hsau, hel, hspb, hclb, hcu, hme, hsl⟩ := s.flush_keeps target hold
  have hflush := State.flush_flushes hold s target
  rw [State.completeMove_moving hr hst]
  generalize s.flush target hold = v at *
  have hv : v.record = s.record := State.record_eq_of_ct hct
  have hidle : v.idleFor r.cls target = s.idleFor r.cls target :=
    State.idleFor_congr (fun q => by rw [State.seat_eq_of_spb hspb]) (fun d => by rw [State.link_eq_of_clb hclb]) _ _
  have hrecord : ∀ m, (((v.attach n target).countMc count)).record m
      = if m = n then (v.record n).map fun r => { r with st := .attached target (v.idleFor r.cls target) } else v.record m :=
    fun m => v.onRecord_record n m _
  refine ⟨?_, fun m hm => ?_, ?_, ?_, ?_, ?_, ?_⟩
  · rw [hrecord, if_pos rfl, hv, hr, Option.map_some, hidle]
  · rw [hrecord, if_neg hm, hv]
  · rw [← hct]; rfl
  · rw [← hct]; rfl
  · exact ⟨hflush.entries, hflush.queues, hflush.waiting, ⟨_, rfl⟩, hflush.log⟩
  · obtain ⟨d, hd⟩ := hflush.mc
    refine ⟨d, ?_⟩
    change { v.mc with counts := count v.mc.counts } = _
    rw [hd]
  · exact State.onlyChanges_iff.2 (by simp [State.countMc, State.attach, hsau, hel, hspb, hclb, hcu, hme, hsl, hmemory, hpending, hline])

end Completing

/-! ### What a record that lingers leaves -/

namespace State.Leaves

variable {s t : State} {n : Nat} {r : Record} {pl : Option Place} {hold : List Nat} {moved : Bool}

theorem waiting (h : s.Leaves t n r pl hold moved) : n ∉ t.sau.waiting := by
  obtain ⟨c, hsau⟩ := h.sau
  rw [hsau]
  simp

theorem only (h : s.Leaves t n r pl hold moved) : s.onlyChanges t [.ct, .mc, .sau, .fs, .spb] := by
  obtain ⟨hel, hclb, hcu, hme, hsl, hmemory, hpending, hline⟩ := h.rest
  exact State.onlyChanges_iff.2 (by simp [hel, hclb, hcu, hme, hsl, hmemory, hpending, hline])

/-- An ATTACHED record has no target to lose. -/
theorem mc_attached (h : s.Leaves t n r pl [] false) : t.mc = s.mc := by
  rw [h.mc]
  simp [bumpBy_zero]

theorem only_attached (h : s.Leaves t n r pl [] false) : s.onlyChanges t [.ct, .sau, .fs, .spb] := by
  obtain ⟨hel, hclb, hcu, hme, hsl, hmemory, hpending, hline⟩ := h.rest
  exact State.onlyChanges_iff.2 (by simp [hel, hclb, hcu, hme, hsl, hmemory, hpending, hline, h.mc_attached])

theorem spb_link {c : LinkNo} {a : AssocNo} (h : s.Leaves t n r (some (.ceiling c a)) hold moved) : t.spb = s.spb :=
  h.spb fun p => by simp

theorem queue_link {c : LinkNo} {a : AssocNo} (h : s.Leaves t n r (some (.ceiling c a)) hold moved) : queuesSame s t :=
  fun q => h.queues q fun p hp => by simp at hp

theorem only_link {c : LinkNo} {a : AssocNo} (h : s.Leaves t n r (some (.ceiling c a)) hold moved) :
    s.onlyChanges t [.ct, .mc, .sau, .fs] := by
  obtain ⟨hel, hclb, hcu, hme, hsl, hmemory, hpending, hline⟩ := h.rest
  exact State.onlyChanges_iff.2 (by simp [hel, hclb, hcu, hme, hsl, hmemory, hpending, hline, h.spb_link])

theorem only_attached_link {c : LinkNo} {a : AssocNo} (h : s.Leaves t n r (some (.ceiling c a)) [] false) :
    s.onlyChanges t [.ct, .sau, .fs] := by
  obtain ⟨hel, hclb, hcu, hme, hsl, hmemory, hpending, hline⟩ := h.rest
  exact State.onlyChanges_iff.2 (by simp [hel, hclb, hcu, hme, hsl, hmemory, hpending, hline, h.spb_link, h.mc_attached])

/-- R68: the target's loss and each hold entry are counted. -/
theorem mc_moving (h : s.Leaves t n r pl hold true) : t.mc = { s.mc with counts := { s.mc.counts with
    targetsLost := bump s.mc.counts.targetsLost
    holdDiscarded := bumpBy s.mc.counts.holdDiscarded hold.length } } := by
  rw [h.mc, bump_eq_bumpBy]
  rfl

/-- A MOVING record whose target is on a link, in the statements' form. -/
theorem targetLost {c : LinkNo} {a : AssocNo} (h : s.Leaves t n r (some (.ceiling c a)) r.st.hold true) : targetLost s t r :=
  ⟨by rw [h.mc_moving], fun k => h.refs k⟩

end State.Leaves

/-- R21, for an ATTACHED record. -/
theorem State.enterLingering_attached {s : State} {n : Nat} {r : Record} {pl : Place} {t : Timer} (hr : s.record n = some r)
    (hst : r.st = .attached pl t) : s.Leaves (s.enterLingering n) n r (some pl) [] false := by
  have hleaves := State.enterLingering_leaves hr (by rw [hst]; rfl)
  rw [Record.isMoving, hst] at hleaves
  exact hleaves

/-- R21 and R68, for a MOVING record. -/
theorem State.enterLingering_moving {s : State} {n : Nat} {r : Record} {pl : Place} {f : LinkNo} {g : AssocNo} {t : Timer}
    {hold : List Nat} (hr : s.record n = some r) (hst : r.st = .moving pl f g t hold) :
    s.Leaves (s.enterLingering n) n r (some pl) hold true := by
  have hleaves := State.enterLingering_leaves hr (by rw [hst]; rfl)
  rw [Record.isMoving, hst] at hleaves
  exact hleaves

end Sys2Proof.Machine
end

section
/-! PROOFS. The record timers expire (O27). -/

namespace Sys2Proof.Machine

section Timers

variable {s : State} {n : Nat} {r : Record}

/-- R25, for a record that is LINGERING: only its parked list and its record go. -/
theorem State.vacate_lingering {t : Timer} (hr : s.record n = some r) (hst : r.st = .lingering t) :
    s.vacate n = (s.clearParked n).delRecord n := by
  unfold State.vacate
  rw [hr]
  dsimp only
  rw [hst]
  rfl

theorem State.vacate_lingering_leaves {t : Timer} (hr : s.record n = some r) (hst : r.st = .lingering t) :
    queuesSame s (s.vacate n) ∧ s.onlyChanges (s.vacate n) [.ct, .sau, .fs] := by
  obtain ⟨hpending, _, hline, hmemory, hmc, hel, hspb, hclb, hcu, hme, hsl⟩ := s.clearParked_keeps n
  have hqueue := State.clearParked_queue hr
  rw [State.vacate_lingering hr hst]
  generalize s.clearParked n = v at *
  exact ⟨fun q => congrFun hqueue q,
    State.onlyChanges_iff.2 (by simp [hmc, hel, hspb, hclb, hcu, hme, hsl, hmemory, hpending, hline])⟩

theorem State.idleExpiry_due {pl : Place} (hr : s.record n = some r) (hst : r.st = .attached pl (some 0)) :
    s.idleExpiry n = s.idleOver n pl := by
  simp [State.idleExpiry, hr, hst, isDue]

theorem State.lingerExpiry_due (hr : s.record n = some r) (hst : r.st = .lingering (some 0)) :
    s.lingerExpiry n = (s.vacate n).countCt fun c => { c with lingerExpiries := bump c.lingerExpiries } := by
  simp [State.lingerExpiry, hr, hst, isDue]

theorem State.deadlineExpiry_due {target : Place} {c : LinkNo} {a : AssocNo} {hold : List Nat} (hr : s.record n = some r)
    (hst : r.st = .moving target c a (some 0) hold) : s.deadlineExpiry n = s.deadlineOver n c a := by
  simp [State.deadlineExpiry, hr, hst, isDue]

/-- A completed move, in the statements' form. -/
theorem State.Completes.moveCompleted {t : State} {target : Place} {hold : List Nat} {count : McCounters → McCounters}
    (h : s.Completes t n r target hold count) (htakes : s.takesFrames target) : moveCompleted s t n r target hold :=
  ⟨h.record, h.flushes.entries htakes, fun q hq => congrArg Egress.entries (h.flushes.queues q hq), h.others⟩

end Timers

end Sys2Proof.Machine

namespace Sys2Proof.Proofs

open Sys2Proof.Machine

/-- Settles O27, by the timer that expires: the record lingers, with DROP when it was on a link; it is vacated; its move is completed. -/
theorem recordTimersExpire : Obligations.RecordTimersExpire := by
  intro s n r hline hr
  have hr' : s.beginEvent.record n.val = some r := hr
  refine ⟨fun p hst => ?_, fun c a hst hready => ?_, fun hst => ?_, fun target c a hold hst htakes hready => ?_⟩
  · have hgo := reaches_event (i := .idleTimerExpiry n) (by rfl) hline (State.idleExpiry_due hr' hst)
    have hleaves := State.enterLingering_attached hr' hst
    refine ⟨_, hgo, hleaves.record, hleaves.emptied p rfl, hleaves.others, ?_, hleaves.waiting, ?_⟩
    · exact congrArg (fun k : CtCounters => { k with idleExpiries := bump k.idleExpiries }) hleaves.ctCounts
    · exact .of_begin (hleaves.only_attached.both (State.countCt_only _ _) (by simp) (by simp))
  · have hgo := reaches_event (i := .idleTimerExpiry n) (by rfl) hline (State.idleExpiry_due hr' hst)
    have hleaves := State.enterLingering_attached hr' hst
    obtain ⟨_, hclb, _⟩ := hleaves.rest
    have hready' : ((s.beginEvent.enterLingering n.val).link c).state = .ready := by
      rw [State.link_eq_of_clb hclb]
      exact hready
    refine ⟨_, hgo, ?_, toldRadio_sendRadio (s := (s.beginEvent.enterLingering n.val).countCt _) hready' _, fun m hm => ?_, ?_, ?_, fun q => ?_, ?_⟩
    · exact (congrFun (State.sendRadio_record _ c _) n.val).trans hleaves.record
    · exact (congrFun (State.sendRadio_record _ c _) m).trans (hleaves.others m hm)
    · have hcounts := congrArg (fun k : CtCounters => { k with idleExpiries := bump k.idleExpiries }) hleaves.ctCounts
      simpa [State.idleOver] using hcounts
    · simpa [State.idleOver] using hleaves.waiting
    · exact (State.sendRadio_entries _ c _ q).trans (congrArg Egress.entries (hleaves.queue_link q))
    · exact .of_begin ((hleaves.only_attached_link.both (written := [.ct, .sau, .fs]) (State.countCt_only _ _) (by simp)
        (by simp)).both (State.sendRadio_only _ c _) (by simp) (by simp))
  · have hgo := reaches_event (i := .lingerTimerExpiry n) (by rfl) hline (State.lingerExpiry_due hr' hst)
    obtain ⟨hremoves, hcounts⟩ := State.vacate_removes hr'
    obtain ⟨hqueues, honly⟩ := State.vacate_lingering_leaves hr' hst
    refine ⟨_, hgo, hremoves.record, hremoves.others, ?_, hremoves.waiting, hqueues, ?_⟩
    · exact congrArg (fun k : CtCounters => { k with lingerExpiries := bump k.lingerExpiries }) hcounts
    · exact .of_begin (honly.both (State.countCt_only _ _) (by simp) (by simp))
  · have hgo := reaches_event (i := .releaseDeadlineExpiry n) (by rfl) hline (State.deadlineExpiry_due hr' hst)
    have hdone := State.completeMove_completes hr' hst fun k => { k with timeouts := bump k.timeouts }
    have hkeeps := s.beginEvent.completeMove_keeps n.val fun k => { k with timeouts := bump k.timeouts }
    obtain ⟨_, _, _, _, _, _, _, hclb, _, hme, _⟩ := hkeeps
    obtain ⟨hrecord, hentries, hqueues, hothers⟩ := hdone.moveCompleted htakes
    have hready' : ((s.beginEvent.completeMove n.val fun k => { k with timeouts := bump k.timeouts }).link c).state = .ready := by
      rw [State.link_eq_of_clb hclb]
      exact hready
    unfold State.deadlineOver at hgo
    generalize (s.beginEvent.completeMove n.val fun k => { k with timeouts := bump k.timeouts }) = v at *
    have hct := State.record_eq_of_ct (s := v) (t := (v.sendRadio c (.drop a)).raise .moveTimeout) (by simp)
    refine ⟨_, hgo, ⟨?_, ?_, fun q hq => ?_, fun m hm => ?_⟩, toldRadio_sendRadio hready' _, ?_, ?_, ?_⟩
    · rw [hct, hrecord]; rfl
    · exact (v.sendRadio_entries c _ _).trans hentries
    · exact (v.sendRadio_entries c _ q).trans (hqueues q hq)
    · rw [hct, hothers m hm]; rfl
    · have hkept := State.raised_eq_of_me (s := s) (t := v.sendRadio c (.drop a)) (by simp [hme])
      rw [State.raised_raise_same, hkept]
    · obtain ⟨d, hmc⟩ := hdone.mc
      simp [hmc]
    · have hmove := hdone.only.both (v.sendRadio_only c (.drop a)) (written := [.ct, .mc, .fs, .clb]) (by simp) (by simp)
      exact .of_begin (hmove.both (State.raise_only _ _) (by simp) (by simp))

end Sys2Proof.Proofs
end

section
/-! SUPPORT and PROOFS. A radio's messages are taken; disassociation and release (O31). -/

namespace Sys2Proof.Machine

/-! ### The message -/

theorem RadioMessage.badNumber_of_goodNumber {m : RadioMessage} {a : Byte} (hm : m.number = some a) (h : goodNumber a) :
    m.badNumber = false := by
  obtain ⟨hlow, hhigh⟩ := h
  have hne : ¬ a = 0#8 := by
    rintro rfl
    simp at hlow
  simp [RadioMessage.badNumber, hm, hne, hhigh]

/-- What a well-formed message on a READY link comes to (R145). -/
theorem State.hears.reaches {s u : State} {c : LinkNo} {i : Instr} {m : RadioMessage} (h : s.hears c)
    (hi : exec i s = .next (s.event fun t => t.fromRadio c (some m))) (hm : m.badNumber = false)
    (hu : s.beginEvent.takeRadio c m = u) : reaches i s u := by
  obtain ⟨hline, hready⟩ := h
  exact reaches_event hi hline ((State.fromRadio_taken (by exact hready) hm).trans hu)

/-! ### A part that differs by a link's counters and its control messages -/

/-- `w` is `s` but for links' counters and associations, deferrals, and control messages that wait. -/
structure State.Like (s w : State) : Prop where
  ct : w.ct = s.ct
  mc : w.mc = s.mc
  sau : w.sau = s.sau
  spb : w.spb = s.spb
  slots : w.fs.slots = s.fs.slots
  entries : ∀ q, (w.queue q).entries = (s.queue q).entries
  state : ∀ d, (w.link d).state = (s.link d).state
  profile : ∀ d, (w.link d).profile = (s.link d).profile
  only : s.onlyChanges w [.clb, .fs]

namespace State.Like

variable {s w : State}

theorem of_beginEvent (h : s.beginEvent.Like w) : s.Like w := ⟨h.ct, h.mc, h.sau, h.spb, h.slots, h.entries, h.state, h.profile,
  .of_begin h.only⟩

theorem onLink (s : State) (c : LinkNo) {f : Link → Link} (hstate : ∀ x, (f x).state = x.state)
    (hprofile : ∀ x, (f x).profile = x.profile) : s.Like (s.onLink c f) where
  ct := rfl
  mc := rfl
  sau := rfl
  spb := rfl
  slots := rfl
  entries q := congrArg Egress.entries (congrFun (State.queue_eq_of_fs rfl) q)
  state d := by
    rw [State.link_onLink]
    split <;> simp [hstate]
  profile d := by
    rw [State.link_onLink]
    split <;> simp [hprofile]
  only := State.onlyChanges_iff.2 (by simp)

theorem countLink (s : State) (c : LinkNo) (f : LinkCounters → LinkCounters) : s.Like (s.countLink c f) :=
  onLink s c (fun _ => rfl) fun _ => rfl

theorem trans {u : State} (h : s.Like w) (h' : w.Like u) : s.Like u where
  ct := h'.ct.trans h.ct
  mc := h'.mc.trans h.mc
  sau := h'.sau.trans h.sau
  spb := h'.spb.trans h.spb
  slots := h'.slots.trans h.slots
  entries q := (h'.entries q).trans (h.entries q)
  state d := (h'.state d).trans (h.state d)
  profile d := (h'.profile d).trans (h.profile d)
  only := h.only.trans h'.only

theorem record (h : s.Like w) : w.record = s.record := State.record_eq_of_ct h.ct

theorem atPlace (h : s.Like w) (pl : Place) : w.atPlace pl = s.atPlace pl := by
  rw [State.atPlace, State.atPlace, State.findRecord, State.findRecord, h.ct]

theorem byFormer (h : s.Like w) (c : LinkNo) (a : AssocNo) : w.byFormer c a = s.byFormer c a := by
  rw [State.byFormer, State.byFormer, State.findRecord, State.findRecord, h.ct]

theorem refsOf (h : s.Like w) : w.refsOf = s.refsOf := State.refsOf_eq_of_slots h.slots

theorem idleFor (h : s.Like w) (cls : Class) (pl : Place) : w.idleFor cls pl = s.idleFor cls pl :=
  State.idleFor_congr (fun q => by rw [State.seat_eq_of_spb h.spb]) h.profile cls pl

theorem takesFrames (h : s.Like w) {pl : Place} (htakes : s.takesFrames pl) : w.takesFrames pl := by
  obtain ⟨htransmits, hloopback⟩ := htakes
  cases pl with
  | seat p => exact ⟨by rw [← htransmits]; exact congrArg Seat.up (congrFun (State.seat_eq_of_spb h.spb) p),
      by rw [← hloopback]; exact congrArg (fun x : Seat => x.profile.loopback) (congrFun (State.seat_eq_of_spb h.spb) p)⟩
  | ceiling d e => exact ⟨by rw [← htransmits]; exact congrArg (· == LinkState.ready) (h.state d), hloopback⟩

theorem flushedTo (h : s.Like w) (pl : Place) (hold : List Nat) : w.flushedTo pl hold = s.flushedTo pl hold := by
  rw [State.flushedTo, State.flushedTo, h.entries]

theorem moveCompleted (h : s.Like w) {u : State} {n : Nat} {r : Record} {target : Place} {hold : List Nat}
    {count : McCounters → McCounters} (hdone : w.Completes u n r target hold count) (htakes : s.takesFrames target) :
    moveCompleted s u n r target hold := by
  obtain ⟨hrecord, hentries, hqueues, hothers⟩ := hdone.moveCompleted (h.takesFrames htakes)
  exact ⟨by rw [hrecord, h.idleFor], by rw [hentries, h.flushedTo], fun q hq => (hqueues q hq).trans (h.entries q),
    fun m hm => (hothers m hm).trans (congrFun h.record m)⟩

end State.Like

theorem State.countLink_only (s : State) (c : LinkNo) (f : LinkCounters → LinkCounters) : s.onlyChanges (s.countLink c f) [.clb] :=
  State.onlyChanges_iff.2 (by simp)

theorem State.countMc_link (s : State) (f : McCounters → McCounters) : (s.countMc f).link = s.link := rfl

/-! ### What is found at a number -/

theorem State.byFormer_some {s : State} {c : LinkNo} {a : AssocNo} {n : Nat} {r : Record} (hw : s.ct.records.wf = true)
    (h : s.byFormer c a = some (n, r)) : s.record n = some r := (findRecord_some hw h).1

section Disassociating

variable {s : State} {c : LinkNo} {a : AssocNo} {n m : Nat} {r y : Record}

theorem State.disassociate_placed (h : s.atPlace (.ceiling c a) = some (n, r)) (hformer : s.byFormer c a = none) :
    s.disassociate c a = s.enterLingering n := by
  simp [State.disassociate, h, hformer]

theorem State.disassociate_leaving (h : s.atPlace (.ceiling c a) = none) (hformer : s.byFormer c a = some (n, r)) :
    s.disassociate c a = s.completeMove n fun k => { k with byDisassociation := bump k.byDisassociation } := by
  simp [State.disassociate, h, hformer]

theorem State.disassociate_both (h : s.atPlace (.ceiling c a) = some (n, r)) (hformer : s.byFormer c a = some (m, y)) :
    s.disassociate c a
      = (s.enterLingering n).completeMove m fun k => { k with byDisassociation := bump k.byDisassociation } := by
  simp [State.disassociate, h, hformer]

theorem State.disassociate_unmatched (h : s.atPlace (.ceiling c a) = none) (hformer : s.byFormer c a = none) :
    s.disassociate c a = s.countCt fun k => { k with unmatchedDisassociations := bump k.unmatchedDisassociations } := by
  simp [State.disassociate, h, hformer]

theorem State.releasedBy_leaving (hformer : s.byFormer c a = some (n, r)) :
    s.releasedBy c a = s.completeMove n fun k => { k with byRelease := bump k.byRelease } := by
  simp [State.releasedBy, hformer]

theorem State.releasedBy_stray (hformer : s.byFormer c a = none) :
    s.releasedBy c a = s.countMc fun k => { k with strayReleases := bump k.strayReleases } := by
  simp [State.releasedBy, hformer]

end Disassociating

end Sys2Proof.Machine

namespace Sys2Proof.Proofs

open Sys2Proof.Machine

/-- Settles O31, by what is found at the number: a record placed there, a record whose move leaves it, both, or neither. -/
theorem disassociationAndRelease : Obligations.DisassociationAndRelease := by
  intro s c a hinv hhears hgood
  have hw : s.ct.records.wf = true := hinv.records.1
  have hreach := fun {u : State} => hhears.reaches (i := .disassoc c a) (u := u) (by rfl)
    (RadioMessage.badNumber_of_goodNumber rfl hgood)
  have hrelease := fun {u : State} => hhears.reaches (i := .released c a) (u := u) (by rfl)
    (RadioMessage.badNumber_of_goodNumber rfl hgood)
  refine ⟨fun n r t hplaced hst hformer => ?_, fun n r target t hold hplaced hformer hst htakes => ?_,
    fun n r f g t hold hplaced hst hformer => ?_, fun n r k m y target t hold hplaced hst hformer hmoving htakes => ?_,
    fun hplaced hformer => ?_, fun n r target t hold hformer hst htakes => ?_, fun hformer => ?_⟩
  · have hleaves := State.enterLingering_attached (s := s.beginEvent.countLink c fun k =>
      { k with disassociations := bump k.disassociations }) (State.atPlace_some hw hplaced).1 hst
    refine ⟨_, hreach (State.disassociate_placed hplaced hformer), hleaves.record, hleaves.others, hleaves.queue_link, ?_, ?_⟩
    · rw [State.link_eq_of_clb hleaves.rest.2.1]
      simp
    · exact .of_begin ((State.countLink_only _ c _).both hleaves.only_attached_link (by simp) (by simp))
  · have hlike := (State.Like.countLink s.beginEvent c fun k => { k with disassociations := bump k.disassociations }).of_beginEvent
    have hdone := State.completeMove_completes (s := s.beginEvent.countLink c fun k =>
      { k with disassociations := bump k.disassociations }) (State.byFormer_some hw hformer) hst
        fun k => { k with byDisassociation := bump k.byDisassociation }
    refine ⟨_, hreach (State.disassociate_leaving hplaced hformer), hlike.moveCompleted hdone htakes, ?_, ?_⟩
    · obtain ⟨d, hmc⟩ := hdone.mc
      rw [hmc]
      rfl
    · exact .of_begin ((State.countLink_only _ c _).both hdone.only (by simp) (by simp))
  · have hleaves := State.enterLingering_moving (s := s.beginEvent.countLink c fun k =>
      { k with disassociations := bump k.disassociations }) (State.atPlace_some hw hplaced).1 hst
    refine ⟨_, hreach (State.disassociate_placed hplaced hformer), hleaves.record, hleaves.others, hleaves.queue_link, ?_, ?_, fun d => ?_, ?_⟩
    · have hhold : r.st.hold = hold := by rw [hst]; rfl
      rw [← hhold] at hleaves
      exact hleaves.targetLost
    · rw [hleaves.mc_moving]
      rfl
    · rw [State.link_eq_of_clb hleaves.rest.2.1, State.countLink_eq, State.link_onLink]
      split <;> simp
    · exact .of_begin ((State.countLink_only _ c _).both hleaves.only_link (by simp) (by simp))
  · have hlike := (State.Like.countLink s.beginEvent c fun k => { k with disassociations := bump k.disassociations }).of_beginEvent
    have hboth := hreach (State.disassociate_both hplaced hformer)
    have honly : s.onlyChanges (s.beginEvent.countLink c fun k => { k with disassociations := bump k.disassociations }) [.clb] :=
      .of_begin (State.countLink_only _ c _)
    have hr := (State.atPlace_some hw hplaced).1
    have hy := State.byFormer_some hw hformer
    have hne : m ≠ n := fun h => by
      rw [h] at hy
      obtain rfl := Option.some.inj (hr.symm.trans hy)
      rw [hst] at hmoving
      cases hmoving
    rw [← hlike.record] at hr hy
    generalize (s.beginEvent.countLink c fun k => { k with disassociations := bump k.disassociations }) = w at *
    have hleaves := State.enterLingering_attached hr hst
    generalize w.enterLingering n = v at *
    have hdone := State.completeMove_completes ((hleaves.others m hne).trans hy) hmoving
      fun k => { k with byDisassociation := bump k.byDisassociation }
    have hvlink : v.link = w.link := State.link_eq_of_clb hleaves.rest.2.1
    have htakesV : v.takesFrames target := by
      rw [State.takesFrames_congr (s := w) hleaves.spb_link hleaves.rest.2.1 hleaves.rest.2.2.1]
      exact hlike.takesFrames htakes
    have hidle : v.idleFor y.cls target = s.idleFor y.cls target := by
      rw [State.idleFor_congr (s := w) (fun q => by rw [State.seat_eq_of_spb hleaves.spb_link]) (fun d => by rw [hvlink]),
        hlike.idleFor]
    refine ⟨_, hboth, ?_, ?_, ?_, fun k hn hm => ?_, ?_, ?_, ?_⟩
    · rw [hdone.others n hne.symm, hleaves.record, hlike.ct]
    · rw [hdone.record, hidle]
    · obtain ⟨_, hentries, _⟩ := hdone.moveCompleted htakesV
      rw [hentries, State.flushedTo, hleaves.queue_link]
      exact hlike.flushedTo target hold
    · rw [hdone.others k hm, hleaves.others k hn, hlike.record]
    · obtain ⟨d, hmc⟩ := hdone.mc
      rw [hmc, hleaves.mc_attached, hlike.mc]
    · rw [hdone.ctCounts, hleaves.ctCounts, hlike.ct]
    · exact (honly.both hleaves.only_attached_link (written := [.clb, .ct, .sau, .fs]) (by simp) (by simp)).both hdone.only (by simp)
        (by simp)
  · refine ⟨_, hreach (State.disassociate_unmatched hplaced hformer), rfl, rfl, ?_⟩
    exact .of_begin ((State.countLink_only _ c _).both (State.countCt_only _ _) (by simp) (by simp))
  · have hlike := (State.Like.countLink s.beginEvent c fun k => { k with releases := bump k.releases }).of_beginEvent
    have hdone := State.completeMove_completes (s := s.beginEvent.countLink c fun k =>
      { k with releases := bump k.releases }) (State.byFormer_some hw hformer) hst fun k => { k with byRelease := bump k.byRelease }
    refine ⟨_, hrelease (State.releasedBy_leaving hformer), hlike.moveCompleted hdone htakes, ?_, ?_, ?_⟩
    · rw [State.link_eq_of_clb (State.completeMove_keeps _ _ _).2.2.2.2.2.2.2.1]
      simp
    · obtain ⟨d, hmc⟩ := hdone.mc
      rw [hmc]
      rfl
    · exact .of_begin ((State.countLink_only _ c _).both hdone.only (by simp) (by simp))
  · refine ⟨_, hrelease (State.releasedBy_stray hformer), rfl, ?_, ?_⟩
    · rw [State.countMc_link]
      simp
    · exact .of_begin ((State.countLink_only _ c _).both (State.countMc_only _ _) (by simp) (by simp))

end Sys2Proof.Proofs
end

section
/-! PROOFS. DATA on a ceiling link (O29). -/

namespace Sys2Proof.Machine

/-! ### Whose frame it is (R53, R148) -/

theorem ownerIf_same {x : Addr} {n : Nat} {r : Record} (h : r.addr = x) : ownerIf x (some (n, r)) = some (n, r) := if_pos h

theorem ownerIf_none {x : Addr} {e : Option (Nat × Record)} (h : e.all (fun e => e.2.addr != x) = true) : ownerIf x e = none := by
  cases e with
  | none => rfl
  | some e => exact if_neg (by simpa using h)

section Owner

variable {s : State} {c : LinkNo} {a : AssocNo} {y : Addr} {n : Nat} {r : Record}

theorem State.dataOwner_unassociated (hplaced : s.atPlace (.ceiling c a) = none) (hformer : s.byFormer c a = none) :
    s.dataOwner c a y = .unassociated := by
  simp [State.dataOwner, hplaced, hformer, ownerIf]

theorem State.dataOwner_mismatch (hsome : (s.atPlace (.ceiling c a)).isSome = true ∨ (s.byFormer c a).isSome = true)
    (hplaced : (s.atPlace (.ceiling c a)).all (fun e => e.2.addr != y) = true)
    (hformer : (s.byFormer c a).all (fun e => e.2.addr != y) = true) : s.dataOwner c a y = .mismatch := by
  unfold State.dataOwner
  dsimp only
  rw [ownerIf_none hplaced, ownerIf_none hformer]
  refine if_neg fun h => ?_
  simp only [Bool.and_eq_true, Option.isNone_iff_eq_none] at h
  obtain ⟨hp, hf⟩ := h
  simp [hp, hf] at hsome

/-- The record placed at the number is found there; the one whose move leaves it has no timer to set. -/
theorem State.dataOwner_found (h : s.dataFrom c a y n r) : ∃ attached, s.dataOwner c a y = .record n attached
    ∧ (s.atPlace (.ceiling c a) = some (n, r) ∧ attached = r.isAttached ∨ s.byFormer c a = some (n, r) ∧ attached = false) := by
  unfold State.dataOwner
  dsimp only
  obtain ⟨haddr, hplaced | ⟨hformer, hplaced⟩⟩ := h
  · rw [hplaced, ownerIf_same haddr]
    exact ⟨_, rfl, .inl ⟨rfl, rfl⟩⟩
  · rw [ownerIf_none hplaced, hformer, ownerIf_same haddr]
    exact ⟨_, rfl, .inr ⟨rfl, rfl⟩⟩

theorem RecordState.moving_of_former {st : RecordState} {f : LinkNo × AssocNo} (h : st.former = some f) :
    ∃ target t hold, st = .moving target f.1 f.2 t hold := by
  cases st with
  | attached => cases h
  | lingering => cases h
  | moving target c a t hold => exact ⟨target, t, hold, by rw [← Option.some.inj h]⟩

/-- R53: the timer is set exactly when the record is ATTACHED, and a record that sends is not LINGERING. -/
theorem State.dataOwner_record (hw : s.ct.records.wf = true) (h : s.dataFrom c a y n r) :
    s.record n = some r ∧ s.dataOwner c a y = .record n r.isAttached ∧ r.st.isLingering = false := by
  obtain ⟨attached, howner, ⟨hplaced, rfl⟩ | ⟨hformer, rfl⟩⟩ := State.dataOwner_found h
  · obtain ⟨hr, hplace⟩ := State.atPlace_some hw hplaced
    exact ⟨hr, howner, RecordState.not_lingering_of_place hplace⟩
  · obtain ⟨hr, hmoves⟩ := State.findRecord_some hw hformer
    obtain ⟨target, t, hold, hst⟩ := RecordState.moving_of_former (st := r.st) (f := (c, a)) (by simpa using hmoves)
    have hnot : r.isAttached = false := by rw [Record.isAttached, hst]
    exact ⟨hr, by rw [howner, hnot], by rw [hst]; rfl⟩

end Owner

/-- An accepted frame sets nothing of a record but its timer. -/
theorem State.heard_keeps (s : State) (pl : Place) (r : Record) : (s.heard pl r).cls = r.cls ∧ (s.heard pl r).credit = r.credit
    ∧ (s.heard pl r).parked = r.parked ∧ (s.heard pl r).charged = r.charged ∧ (s.heard pl r).overShare = r.overShare := by
  unfold State.heard
  split <;> exact ⟨rfl, rfl, rfl, rfl, rfl⟩

/-! ### The frame's arrival -/

/-- The slot of a frame received on a link. -/
def linkSlot (c : LinkNo) (frame : Bytes) : Slot := { frame := frame, origin := .ceiling c, refs := 0, resetResponse := false }

/-- DATA has come in (R148). -/
def State.heardData (s : State) (c : LinkNo) : State := s.countLink c fun x => { x with received := bump x.received }

/-- The part once a link's frame has passed all checks and holds its slot (R149). -/
def State.dataArrived (s : State) (c : LinkNo) (frame : Bytes) : State :=
  ((s.heardData c).claimed (linkSlot c frame) (s.fs.slots.firstFree 0)).countLink c fun x => { x with accepted := bump x.accepted }

/-- What the arrival leaves of the part. -/
structure State.DataArrived (s w : State) (c : LinkNo) (k : Nat) (x : Slot) : Prop where
  claims : s.Claims w k x
  refs : x.refs = 0
  queue : w.queue = s.queue
  only : s.onlyChanges w [.clb, .fs, .me]
  link : w.link c = { s.link c with counts := { (s.link c).counts with
    received := bump (s.link c).counts.received, accepted := bump (s.link c).counts.accepted } }
  links : otherLinks s w c

theorem State.dataArrived_arrived {s : State} (hinv : Inv s) (c : LinkNo) (frame : Bytes) :
    s.DataArrived (s.beginEvent.dataArrived c frame) c (s.fs.slots.firstFree 0) (linkSlot c frame) := by
  have hfs : (s.beginEvent.heardData c).fs = s.fs := rfl
  have hlink : (s.beginEvent.heardData c).link
      = (s.onLink c fun x => { x with counts := { x.counts with received := bump x.counts.received } }).link := rfl
  have honly : s.onlyChanges (s.beginEvent.heardData c) [.clb] := .of_begin (State.countLink_only _ c _)
  unfold State.dataArrived
  have hslots := (s.beginEvent.heardData c).claimed_slots (linkSlot c frame) (s.fs.slots.firstFree 0)
  have hqueue := (s.beginEvent.heardData c).claimed_queue (linkSlot c frame) (s.fs.slots.firstFree 0)
  have hclaimed : (s.beginEvent.heardData c).onlyChanges
      ((s.beginEvent.heardData c).claimed (linkSlot c frame) (s.fs.slots.firstFree 0)) [.fs, .me] :=
    State.onlyChanges_iff.2 (by simp)
  have hclb : ((s.beginEvent.heardData c).claimed (linkSlot c frame) (s.fs.slots.firstFree 0)).clb = (s.beginEvent.heardData c).clb := by
    simp
  rw [show s.beginEvent.fs.slots.firstFree 0 = s.fs.slots.firstFree 0 from rfl]
  generalize s.beginEvent.heardData c = t at *
  generalize t.claimed (linkSlot c frame) (s.fs.slots.firstFree 0) = w at *
  have hwlink := (State.link_eq_of_clb hclb).trans hlink
  exact {
    claims := (State.Claims.claimed hinv (linkSlot c frame)).of_slots (by
      rw [State.claimed_slots]
      change w.fs.slots = _
      rw [hslots, hfs])
    refs := rfl
    queue := hqueue.trans (State.queue_eq_of_fs hfs)
    only := (honly.both hclaimed (written := [.clb, .fs, .me]) (by simp) (by simp)).both (w.countLink_only c _) (by simp) (by simp)
    link := by
      rw [State.countLink_eq, State.link_onLink, if_pos rfl, hwlink, State.link_onLink, if_pos rfl]
    links := fun d hd => by
      rw [State.countLink_eq, State.link_onLink, if_neg hd, hwlink, State.link_onLink, if_neg hd] }

section DataArrived

variable {s w : State} {c : LinkNo} {k n : Nat} {x : Slot} {r : Record} (h : s.DataArrived w c k x)

include h

theorem State.DataArrived.blocks : w.ct = s.ct ∧ w.sau = s.sau ∧ w.spb = s.spb ∧ w.cu = s.cu := by
  obtain ⟨hct, _, hsau, _, _, hspb, _, hcu, _⟩ := State.onlyChanges_iff.1 h.only
  exact ⟨hct (by simp), hsau (by simp), hspb (by simp), hcu (by simp)⟩

theorem State.DataArrived.idleFor (cls : Class) (pl : Place) : w.idleFor cls pl = s.idleFor cls pl := by
  obtain ⟨_, _, hspb, _⟩ := h.blocks
  refine State.idleFor_congr (fun q => by rw [State.seat_eq_of_spb hspb]) (fun d => ?_) cls pl
  by_cases hd : d = c
  · rw [hd, h.link]
  · rw [h.links d hd]

/-- The part as the Share Accounting Unit finds it (R149): an ATTACHED record's idle timer set again. -/
theorem State.DataArrived.submits (hr : s.record n = some r) (pl : Place) (hst : r.st.isLingering = false) :
    s.Submits (if r.isAttached then w.attach n pl else w) k x n (s.heard pl r) := by
  obtain ⟨hct, hsau, _, hcu⟩ := h.blocks
  have hrecord := State.record_eq_of_ct hct
  cases hcase : r.st with
  | lingering => rw [hcase] at hst; cases hst
  | moving target f g t hold =>
    have hnot : r.isAttached = false := by rw [Record.isAttached, hcase]
    have hheard : s.heard pl r = r := by rw [State.heard, hcase]
    rw [hnot, hheard]
    exact ⟨h.claims, h.refs, h.queue, hsau, hcu, by rw [← hr]; exact congrFun hrecord n, fun m _ => congrFun hrecord m⟩
  | attached at' t =>
    have hatt : r.isAttached = true := by rw [Record.isAttached, hcase]
    have hheard : s.heard pl r = { r with st := .attached pl (s.idleFor r.cls pl) } := by rw [State.heard, hcase]
    rw [if_pos hatt, hheard]
    have hcomes := State.comes_attach (s := w) (t := w) (n := n) (r := r) (by rw [hrecord, hr]) (fun _ _ => rfl)
      (State.onlyChanges_iff.2 (by simp)) pl
    exact {
      claims := h.claims.of_slots (by simp)
      refs := h.refs
      queue := by
        rw [← h.queue]
        exact State.queue_eq_of_fs (by simp)
      sau := by simp [hsau]
      cu := by simp [hcu]
      record := by rw [hcomes.record, h.idleFor]
      others := fun m hm => by rw [hcomes.others m hm, hrecord] }

end DataArrived

theorem State.clientNoSlot_link (s : State) : s.clientNoSlot.link = s.link := rfl

/-! ### The checks, in their order (R148) -/

section Taking

variable {s : State} {c : LinkNo} {a : AssocNo} {frame : Bytes}

theorem State.takeData_badCheck (h : frameCheckOk frame = false) :
    s.takeData c a frame = (s.heardData c).countLink c fun x => { x with checkErrors := bump x.checkErrors } := by
  simp [State.takeData, State.heardData, h]

theorem State.takeData_runt (h : frameCheckOk frame = true) (hmin : frame.length < 64) :
    s.takeData c a frame = (s.heardData c).countLink c fun x => { x with runts := bump x.runts } := by
  simp [State.takeData, State.heardData, h, hmin]

theorem State.takeData_oversize (h : frameCheckOk frame = true) (hmin : 64 ≤ frame.length)
    (hmax : (s.link c).profile.maxLength < frame.length) :
    s.takeData c a frame = (s.heardData c).countLink c fun x => { x with oversize := bump x.oversize } := by
  simp [State.takeData, State.heardData, h, Nat.not_lt.2 hmin, hmax]

variable (h : frameCheckOk frame = true ∧ 64 ≤ frame.length ∧ frame.length ≤ (s.link c).profile.maxLength)

include h

theorem State.takeData_unassociated (howner : s.dataOwner c a (frameSrc frame) = .unassociated) : s.takeData c a frame
    = ((s.heardData c).countLink c fun x => { x with unassociated := bump x.unassociated }).raise .unassociated := by
  obtain ⟨hcheck, hmin, hmax⟩ := h
  simp [State.takeData, State.heardData, hcheck, Nat.not_lt.2 hmin, Nat.not_lt.2 hmax, howner]

theorem State.takeData_mismatch (howner : s.dataOwner c a (frameSrc frame) = .mismatch) : s.takeData c a frame
    = (s.heardData c).countLink c fun x => { x with mismatches := bump x.mismatches } := by
  obtain ⟨hcheck, hmin, hmax⟩ := h
  simp [State.takeData, State.heardData, hcheck, Nat.not_lt.2 hmin, Nat.not_lt.2 hmax, howner]

theorem State.takeData_record {n : Nat} {attached : Bool} (howner : s.dataOwner c a (frameSrc frame) = .record n attached) :
    s.takeData c a frame = (s.heardData c).acceptData c n attached (.ceiling c a) frame := by
  obtain ⟨hcheck, hmin, hmax⟩ := h
  simp [State.takeData, State.heardData, hcheck, Nat.not_lt.2 hmin, Nat.not_lt.2 hmax, howner]

theorem State.takeData_noSlot {n : Nat} {attached : Bool} (howner : s.dataOwner c a (frameSrc frame) = .record n attached)
    (hfree : s.freeSlots ≤ 128) : s.takeData c a frame = (s.heardData c).clientNoSlot := by
  have hclaim := State.claim_of_le (s := s.heardData c) (reserve := clientReserve) hfree (.ceiling c) false (fun _ => frame)
  rw [State.takeData_record h howner, State.acceptData, hclaim]

theorem State.takeData_taken {n : Nat} {attached : Bool} (howner : s.dataOwner c a (frameSrc frame) = .record n attached)
    (hfree : 128 < s.freeSlots) : s.takeData c a frame
      = (if attached then (s.dataArrived c frame).attach n (.ceiling c a) else s.dataArrived c frame).submit (s.fs.slots.firstFree 0) n := by
  have hclaim := State.claim_of_lt (s := s.heardData c) (reserve := clientReserve) hfree (.ceiling c) false (fun _ => frame)
  rw [State.takeData_record h howner, State.acceptData, hclaim]
  rfl

end Taking

end Sys2Proof.Machine

namespace Sys2Proof.Proofs

open Sys2Proof.Machine

/-- Settles O29, check by check; an accepted frame's slot is claimed, its client's timer set, and the unit takes it. -/
theorem ceilingDataIsChecked : Obligations.CeilingDataIsChecked := by
  intro s c a frame hhears hgood
  have hreach := fun {u : State} => hhears.reaches (i := .ceilingData c a frame) (u := u) (by rfl)
    (RadioMessage.badNumber_of_goodNumber rfl hgood)
  have hcounted : ∀ f : LinkCounters → LinkCounters, ((s.beginEvent.heardData c).countLink c f).link c
      = { s.link c with counts := f { (s.link c).counts with received := bump (s.link c).counts.received } }
      ∧ otherLinks s ((s.beginEvent.heardData c).countLink c f) c := fun f => by
    refine ⟨?_, fun d hd => ?_⟩
    · simp [State.heardData]
    · simp [State.heardData, State.link_onLink, hd]
  have honly : ∀ f : LinkCounters → LinkCounters, s.onlyChanges ((s.beginEvent.heardData c).countLink c f) [.clb] := fun f =>
    .of_begin ((State.countLink_only _ c _).trans (State.countLink_only _ c f))
  refine ⟨fun hcheck => ?_, fun hcheck hmin => ?_, fun hcheck hmin hmax => ?_, fun hwhole hplaced hformer => ?_,
    fun hwhole hsome hplaced hformer => ?_, fun n r hwhole hfrom hfree => ?_, fun n r hinv hwhole hfrom hfree => ?_⟩
  · exact ⟨_, hreach (State.takeData_badCheck hcheck), hcounted _, honly _⟩
  · exact ⟨_, hreach (State.takeData_runt hcheck hmin), hcounted _, honly _⟩
  · exact ⟨_, hreach (State.takeData_oversize hcheck hmin hmax), hcounted _, honly _⟩
  · refine ⟨_, hreach (State.takeData_unassociated hwhole (State.dataOwner_unassociated hplaced hformer)),
      hcounted fun k => { k with unassociated := bump k.unassociated }, State.raised_raise_same _ _, (honly _).both (State.raise_only _ _) (by simp) (by simp)⟩
  · exact ⟨_, hreach (State.takeData_mismatch hwhole (State.dataOwner_mismatch hsome hplaced hformer)), hcounted _, honly _⟩
  · obtain ⟨attached, howner, _⟩ := State.dataOwner_found hfrom
    have hreaches := hreach (State.takeData_noSlot (s := s.beginEvent) hwhole howner hfree)
    obtain ⟨hleaves, _, hcounts⟩ := (s.beginEvent.heardData c).clientNoSlot_leaves
    refine ⟨_, hreaches, ⟨?_, fun d hd => ?_⟩, hcounts, .of_begin ((State.countLink_only _ c _).both hleaves (by simp) (by simp))⟩
    · rw [State.clientNoSlot_link]
      simp [State.heardData]
    · rw [State.clientNoSlot_link]
      simp [State.heardData, State.link_onLink, hd]
  · obtain ⟨hr, howner, hst⟩ := State.dataOwner_record hinv.records.1 hfrom
    have hreaches := hreach (State.takeData_taken (s := s.beginEvent) hwhole howner hfree)
    have harrived := State.dataArrived_arrived hinv c frame
    have hframe : (linkSlot c frame).frame = frame := rfl
    generalize s.beginEvent.dataArrived c frame = w at *
    generalize linkSlot c frame = x at *
    subst hframe
    have hsubmits := harrived.submits hr (.ceiling c (assocNo a)) hst
    have honlyT : w.onlyChanges (if r.isAttached then w.attach n (.ceiling c (assocNo a)) else w) [.ct] := by
      split <;> exact State.onlyChanges_iff.2 (by simp)
    have hkept := s.heard_keeps (.ceiling c (assocNo a)) r
    obtain ⟨hcls, hcredit, hparked, hcharged, hover⟩ := hkept
    refine State.shareTakes_of_submits hsubmits hcls hcredit hparked hcharged hover hreaches fun u hu => ?_
    have hlink : u.link = w.link := by
      obtain ⟨_, _, _, _, _, _, hclb, _⟩ := State.onlyChanges_iff.1 (honlyT.both hu.only (written := [.ct, .sau, .fs]) (by simp) (by simp))
      exact State.link_eq_of_clb (hclb (by simp))
    refine ⟨⟨by rw [hlink, harrived.link], fun d hd => by rw [hlink, harrived.links d hd]⟩, ?_⟩
    exact (harrived.only.both honlyT (written := [.clb, .fs, .me, .ct]) (by simp) (by simp)).both hu.only (by simp) (by simp)

end Sys2Proof.Proofs
end

section
/-! SUPPORT. The seats of a trunk that has lost its signal go DOWN one after another (R20, R118). -/

namespace Sys2Proof.Machine

/-! ### What a search finds when a record has gone to LINGERING -/

section Searching

variable {s : State}

/-- A search that the record fits neither before nor after is not touched. -/
theorem State.findRecord_enterLingering {n : Nat} {r : Record} {pl : Place} (hr : s.record n = some r) (hpl : r.st.place = some pl)
    {q : Record → Bool} (hq : q r = false) (hq' : q (r.lingers s.ct.lingerTime) = false) :
    (s.enterLingering n).findRecord q = s.findRecord q := by
  have hget : s.ct.records.get n = some r := hr
  unfold State.findRecord
  rw [State.enterLingering_records hr hpl, Table.modify_modify, Table.modify, hget]
  refine Table.find?_put_of_not hq' fun x hx => ?_
  obtain rfl := Option.some.inj (hget.symm.trans hx)
  exact hq

/-- The occupants of the other seats stay where they are. -/
theorem State.occupant_enterLingering {n : Nat} {r : Record} {p q : SeatNo} (hr : s.record n = some r)
    (hpl : r.st.place = some (.seat p)) (h : q ≠ p) : (s.enterLingering n).occupant q = s.occupant q := by
  refine State.findRecord_enterLingering hr hpl (q := fun r => r.st.place == some (.seat q)) ?_ rfl
  rw [hpl]
  simpa using h.symm

end Searching

/-! ### One seat loses its occupant -/

theorem targetsLostBy_nil (s : State) {t : State} (h : t.mc = s.mc) : targetsLostBy s t [] := by
  rw [targetsLostBy, h]
  simp [bumpBy_zero]

theorem targetsLostBy.trans {s t u : State} {first rest : List (Nat × Record)} (h : targetsLostBy s t first)
    (h' : targetsLostBy t u rest) : targetsLostBy s u (first ++ rest) := by
  rw [targetsLostBy, h', h]
  simp [bumpBy_bumpBy]

theorem targetsLostBy.congr {s t s' t' : State} {ls : List (Nat × Record)} (h : targetsLostBy s t ls) (hs : s'.mc = s.mc)
    (ht : t'.mc = t.mc) : targetsLostBy s' t' ls := by
  rw [targetsLostBy, ht, h, hs]

/-- Seat `p` has lost its occupant, if it had one, and nothing else of the seats and the records has changed but seat `p`'s queue. -/
structure State.Evicts (s t : State) (p : SeatNo) : Prop where
  trunk : t.trunk = s.trunk
  wf : t.ct.records.wf = true
  lingerTime : t.ct.lingerTime = s.ct.lingerTime
  me : t.me = s.me
  seats : otherSeats s t p
  seat : (t.seat p).uncommanded = (s.seat p).uncommanded
  queues : ∀ q, q ≠ p → t.queue (.seat q) = s.queue (.seat q)
  occupants : ∀ q, q ≠ p → t.occupant q = s.occupant q
  lingers : ∀ n r, s.occupant p = some (n, r) → t.record n = some (r.lingers s.ct.lingerTime) ∧ n ∉ t.sau.waiting
  waiting : t.sau.waiting ⊆ s.sau.waiting
  lost : targetsLostBy s t (s.occupant p).toList
  records : ∀ n, n ∉ (s.occupant p).toList.map Prod.fst → t.record n = s.record n

section Evicting

variable {s t : State} {p : SeatNo}

theorem State.seatLost_evicts (hw : s.ct.records.wf = true) (p : SeatNo) : s.Evicts (s.seatLost p) p := by
  unfold State.seatLost
  cases ho : s.occupant p with
  | none =>
    exact ⟨rfl, hw, rfl, rfl, fun _ _ => rfl, rfl, fun _ _ => rfl, fun _ _ => rfl, fun n r h => absurd (ho.symm.trans h) nofun,
      List.Subset.refl _, by rw [ho]; exact targetsLostBy_nil s rfl, fun _ _ => rfl⟩
  | some e =>
    obtain ⟨m, y⟩ := e
    obtain ⟨hm, hplace⟩ := State.occupant_some hw ho
    have hleaves := State.occupant_leaves hw ho
    obtain ⟨_, hlost, hrecord, _⟩ := hleaves.occupant_has_left ho
    obtain ⟨_, hclb, hcu, hme, _⟩ := hleaves.rest
    obtain ⟨c, hsau⟩ := hleaves.sau
    exact {
      trunk := hleaves.trunk
      wf := State.enterLingering_records_wf hw ho
      lingerTime := hleaves.lingerTime
      me := hme
      seats := fun q hq => hleaves.seats q (by simpa using hq.symm)
      seat := hleaves.seat p
      queues := fun q hq => hleaves.queues _ fun p' hp' => by
        rw [← Place.seat.inj (Option.some.inj hp')]
        exact fun h => hq (Port.seat.inj h)
      occupants := fun q hq => State.occupant_enterLingering hm hplace hq
      lingers := fun n r h => ⟨(hrecord n r h).1, (hrecord n r h).2.2⟩
      waiting := by
        rw [hsau]
        exact List.filter_subset_self _
      lost := hlost
      records := fun n hn => hleaves.others n fun h => hn (by rw [ho]; simp [h]) }

/-- The seat's queue discarded with it. -/
theorem State.Evicts.discardQueue (h : s.Evicts t p) : s.Evicts (t.discardQueue (.seat p)) p := by
  have htold : t.Told (t.discardQueue (.seat p)) (.seat p) := .discardQueue t _
  obtain ⟨_, _, _, _, hct, hmc, hsau, _, _, hme, _⟩ := t.discardQueue_keeps (.seat p)
  have hrecord := State.record_eq_of_ct hct
  have hoccupant : (t.discardQueue (.seat p)).occupant = t.occupant := by
    funext q
    rw [State.occupant, State.occupant, State.atPlace, State.atPlace, State.findRecord, State.findRecord, hct]
  exact {
    trunk := htold.trunk.trans h.trunk
    wf := by rw [hct]; exact h.wf
    lingerTime := by rw [hct]; exact h.lingerTime
    me := hme.trans h.me
    seats := fun q hq => (htold.seats q fun hp => hq (Port.seat.inj hp).symm).trans (h.seats q hq)
    seat := (htold.seat p).trans h.seat
    queues := fun q hq => (State.discardQueue_queue_of_ne t fun hp => hq (Port.seat.inj hp)).trans (h.queues q hq)
    occupants := fun q hq => by rw [hoccupant, h.occupants q hq]
    lingers := fun n r ho => by rw [hrecord, hsau]; exact h.lingers n r ho
    waiting := by rw [hsau]; exact h.waiting
    lost := h.lost.congr rfl hmc
    records := fun n hn => by rw [hrecord, h.records n hn] }

end Evicting

/-! ### One seat goes DOWN -/

/-- A seat whose indication has gone, as the loss leaves it. -/
def Seat.darkened (x : Seat) : Seat :=
  { x with
    indication := none
    up := false
    counts := { x.counts with linkDowns := if x.up then bump x.counts.linkDowns else x.counts.linkDowns } }

/-- The occupants that leave when the seats go DOWN. -/
def State.leavers (s : State) (ps : List SeatNo) : List (Nat × Record) := (ps.filter fun p => (s.seat p).up).filterMap s.occupant

/-- The seats `ps` have gone DOWN. -/
structure State.Darkens (s t : State) (ps : List SeatNo) : Prop where
  trunk : t.trunk = s.trunk
  wf : t.ct.records.wf = true
  lingerTime : t.ct.lingerTime = s.ct.lingerTime
  me : t.me = s.me
  seats : ∀ q, q ∉ ps → t.seat q = s.seat q
  dark : ∀ p ∈ ps, (t.seat p).uncommanded = (s.seat p).darkened.uncommanded
  queues : ∀ q, (q ∈ ps → (s.seat q).up = false) → t.queue (.seat q) = s.queue (.seat q)
  emptied : ∀ p ∈ ps, (s.seat p).up = true → (t.queue (.seat p)).entries = []
  occupants : ∀ q, q ∉ ps → t.occupant q = s.occupant q
  lingers : ∀ p ∈ ps, (s.seat p).up = true → ∀ n r, s.occupant p = some (n, r) →
    t.record n = some (r.lingers s.ct.lingerTime) ∧ n ∉ t.sau.waiting
  waiting : t.sau.waiting ⊆ s.sau.waiting
  lost : targetsLostBy s t (s.leavers ps)
  records : ∀ n, n ∉ (s.leavers ps).map Prod.fst → t.record n = s.record n

/-- The indication of a seat goes. -/
def State.seatDark (s : State) (p : SeatNo) : State := (s.onSeat p fun x => { x with indication := none }).seatUpdate p

section Darkening

variable {s : State} {p : SeatNo}

theorem State.seatShouldBeUp_dark (s : State) (p : SeatNo) :
    (s.onSeat p fun x => { x with indication := none }).seatShouldBeUp p = false := by
  simp [State.seatShouldBeUp]

theorem State.seatDark_down (h : (s.seat p).up = false) : s.seatDark p = s.onSeat p fun x => { x with indication := none } := by
  rw [State.seatDark, State.seatUpdate, State.seatShouldBeUp_dark]
  simp [h]

theorem State.seatDark_up (h : (s.seat p).up = true) :
    s.seatDark p = ((s.onSeat p fun x => { x with
      indication := none, up := false, counts := { x.counts with linkDowns := bump x.counts.linkDowns } }).seatLost p).discardQueue
        (.seat p) := by
  rw [State.seatDark, State.seatUpdate, State.seatShouldBeUp_dark]
  simp [h, State.seatDown, State.onSeat_onSeat]

theorem State.leavers_down (h : (s.seat p).up = false) : s.leavers [p] = [] := by simp [State.leavers, h]

theorem State.leavers_up (h : (s.seat p).up = true) : s.leavers [p] = (s.occupant p).toList := by
  cases ho : s.occupant p <;> simp [State.leavers, h, ho]

/-- R20, R119: a seat that is DOWN loses its indication alone; one that is UP loses its occupant and its queue too. -/
theorem State.seatDark_darkens (hw : s.ct.records.wf = true) (p : SeatNo) : s.Darkens (s.seatDark p) [p] := by
  have hseats : ∀ f, otherSeats s (s.onSeat p f) p := fun f q hq => State.seat_onSeat_of_ne s f hq
  cases hup : (s.seat p).up with
  | false =>
    rw [State.seatDark_down hup]
    refine ⟨funext (s.trunk_onSeat p _), hw, rfl, rfl, fun q hq => hseats _ q (by simpa using hq), fun q hq => ?_,
      fun q _ => congrFun (State.queue_eq_of_fs rfl) _, fun q hq h => ?_, fun _ _ => rfl, fun q hq h => ?_, List.Subset.refl _, ?_,
      fun _ _ => rfl⟩
    · obtain rfl := List.mem_singleton.1 hq
      rw [State.seat_onSeat_same, Seat.darkened, hup]
      rfl
    · obtain rfl := List.mem_singleton.1 hq
      exact absurd (hup.symm.trans h) nofun
    · obtain rfl := List.mem_singleton.1 hq
      exact absurd (hup.symm.trans h) nofun
    · rw [State.leavers_down hup]
      exact targetsLostBy_nil s rfl
  | true =>
    rw [State.seatDark_up hup]
    have hseat := State.seat_onSeat_same s p fun x => { x with
      indication := none, up := false, counts := { x.counts with linkDowns := bump x.counts.linkDowns } }
    have hother := hseats fun x => { x with
      indication := none, up := false, counts := { x.counts with linkDowns := bump x.counts.linkDowns } }
    have hevicts := (State.seatLost_evicts (s := s.onSeat p fun x => { x with
      indication := none, up := false, counts := { x.counts with linkDowns := bump x.counts.linkDowns } }) hw p)
    have hdone := hevicts.discardQueue
    have hempty := State.discardQueue_entries ((s.onSeat p fun x => { x with
      indication := none, up := false, counts := { x.counts with linkDowns := bump x.counts.linkDowns } }).seatLost p) (.seat p)
    refine ⟨hdone.trunk, hdone.wf, hdone.lingerTime, hdone.me, fun q hq => ?_, fun q hq => ?_, fun q hq => ?_, fun q hq _ => ?_,
      fun q hq => hdone.occupants q (by simpa using hq), fun q hq _ => ?_, hdone.waiting, ?_, fun n hn => hdone.records n ?_⟩
    · have hne : q ≠ p := by simpa using hq
      rw [hdone.seats q hne, hother q hne]
    · obtain rfl := List.mem_singleton.1 hq
      rw [hdone.seat, hseat, Seat.darkened, hup]
      rfl
    · have hne : q ≠ p := fun h => by simp [h, hup] at hq
      exact (hdone.queues q hne).trans (congrFun (State.queue_eq_of_fs rfl) _)
    · obtain rfl := List.mem_singleton.1 hq
      exact hempty
    · obtain rfl := List.mem_singleton.1 hq
      exact hdone.lingers
    · rw [State.leavers_up hup]
      exact hdone.lost
    · rw [State.leavers_up hup] at hn
      exact hn

/-- What the seats of a list leave together. -/
theorem State.Darkens.cons {t u : State} {rest : List SeatNo} (h : s.Darkens t [p])
    (h' : t.Darkens u rest) (hp : p ∉ rest) : s.Darkens u (p :: rest) := by
  have hne : ∀ q ∈ rest, q ∉ [p] := fun q hq hqp => hp (List.mem_singleton.1 hqp ▸ hq)
  have hhead : p ∈ [p] := List.mem_singleton_self p
  have hleavers : s.leavers (p :: rest) = s.leavers [p] ++ t.leavers rest := by
    have hrest : t.leavers rest = s.leavers rest := by
      have hfilter := List.filter_congr (l := rest) (p := fun q => (t.seat q).up) (q := fun q => (s.seat q).up) fun q hq => by
        rw [h.seats q (hne q hq)]
      rw [State.leavers, State.leavers, hfilter]
      exact List.filterMap_congr fun q hq => h.occupants q (hne q (List.mem_of_mem_filter hq))
    rw [hrest, State.leavers, State.leavers, State.leavers, ← List.filterMap_append, ← List.filter_append]
    rfl
  have hstays : ∀ n, n ∉ (t.leavers rest).map Prod.fst → u.record n = t.record n := h'.records
  refine ⟨h'.trunk.trans h.trunk, h'.wf, h'.lingerTime.trans h.lingerTime, h'.me.trans h.me, fun q hq => ?_, fun q hq => ?_,
    fun q hq => ?_, fun q hq hup => ?_, fun q hq => ?_, fun q hq hup n r ho => ?_, fun n hn => h.waiting (h'.waiting hn), ?_,
    fun n hn => ?_⟩
  · obtain ⟨hqp, hqrest⟩ := not_or.1 (fun h => hq (List.mem_cons.2 h))
    rw [h'.seats q hqrest, h.seats q (by simpa using hqp)]
  · rcases List.mem_cons.1 hq with rfl | hq
    · rw [h'.seats q hp, h.dark q hhead]
    · rw [h'.dark q hq, h.seats q (hne q hq)]
  · have hfirst : t.queue (.seat q) = s.queue (.seat q) := h.queues q fun hqp => hq (List.mem_cons.2 (.inl (List.mem_singleton.1 hqp)))
    rw [h'.queues q fun hqrest => by rw [h.seats q (hne q hqrest)]; exact hq (List.mem_cons_of_mem _ hqrest), hfirst]
  · rcases List.mem_cons.1 hq with rfl | hq
    · rw [h'.queues q fun hqrest => absurd hqrest hp, h.emptied q hhead hup]
    · exact h'.emptied q hq (by rw [h.seats q (hne q hq)]; exact hup)
  · obtain ⟨hqp, hqrest⟩ := not_or.1 (fun h => hq (List.mem_cons.2 h))
    rw [h'.occupants q hqrest, h.occupants q (by simpa using hqp)]
  · rcases List.mem_cons.1 hq with rfl | hq
    · obtain ⟨hrecord, hwaiting⟩ := h.lingers q hhead hup n r ho
      refine ⟨?_, fun hn => hwaiting (h'.waiting hn)⟩
      rw [hstays n fun hn => ?_, hrecord]
      obtain ⟨⟨m, y⟩, hy, rfl⟩ := List.mem_map.1 hn
      obtain ⟨q', _, ho'⟩ := List.mem_filterMap.1 hy
      obtain ⟨hm, hplace⟩ := State.occupant_some h.wf ho'
      obtain rfl := Option.some.inj (hrecord.symm.trans hm)
      cases hplace
    · rw [← h.lingerTime]
      exact h'.lingers q hq (by rw [h.seats q (hne q hq)]; exact hup) n r (by rw [h.occupants q (hne q hq), ho])
  · rw [hleavers]
    exact h.lost.trans h'.lost
  · rw [hleavers, List.map_append, List.mem_append] at hn
    obtain ⟨hfirst, hrest⟩ := not_or.1 hn
    rw [hstays n hrest, h.records n hfirst]

theorem State.Darkens.nil (hw : s.ct.records.wf = true) : s.Darkens s [] :=
  ⟨rfl, hw, rfl, rfl, fun _ _ => rfl, nofun, fun _ _ => rfl, nofun, fun _ _ => rfl, nofun, List.Subset.refl _, targetsLostBy_nil s rfl,
    fun _ _ => rfl⟩

theorem State.foldl_seatDark (ps : List SeatNo) (hps : ps.Nodup) (hw : s.ct.records.wf = true) :
    s.Darkens (ps.foldl State.seatDark s) ps := by
  induction ps generalizing s with
  | nil => exact .nil hw
  | cons p rest ih =>
    obtain ⟨hp, hrest⟩ := List.nodup_cons.1 hps
    have hfirst := State.seatDark_darkens hw p
    exact hfirst.cons (ih hrest hfirst.wf) hp

end Darkening

end Sys2Proof.Machine
end

section
/-! PROOFS. A trunk's signal is lost and returns (O35). -/

namespace Sys2Proof.Machine

/-- Two updates of one trunk are one. -/
theorem State.onTrunk_onTrunk (s : State) (t : TrunkNo) (f g : Trunk → Trunk) :
    (s.onTrunk t f).onTrunk t g = s.onTrunk t fun x => g (f x) := by
  simp [State.onTrunk, State.onSpb]

/-- An update is told by what it makes of the seat that stands there. -/
theorem State.onSeat_congr (s : State) {p : SeatNo} {f g : Seat → Seat} (h : f (s.seat p) = g (s.seat p)) : s.onSeat p f = s.onSeat p g :=
  congrArg (fun x => s.onSpb fun b => { b with seats := b.seats.set p x }) h

/-! ### The seats of a trunk -/

theorem trunkOf_seatAt : ∀ (t : TrunkNo) (i : Fin 8), trunkOf (seatAt t i) = t := by decide

theorem positionOf_seatAt : ∀ (t : TrunkNo) (i : Fin 8), positionOf (seatAt t i) = i := by decide

theorem seatsOf_eq : ∀ t : TrunkNo, seatsOf t = allSeats.filter fun p => trunkOf p == t := by decide

theorem mem_seatsOf {t : TrunkNo} {p : SeatNo} : p ∈ seatsOf t ↔ trunkOf p = t := by
  rw [seatsOf_eq, List.mem_filter]
  simp [allSeats, mem_numbers]

theorem seatsOf_nodup (t : TrunkNo) : (seatsOf t).Nodup := by
  rw [seatsOf_eq]
  exact (numbers_nodup 64).filter _

/-! ### The signal is lost -/

/-- A trunk whose wire has no signal, and so no status. -/
def Trunk.dark (x : Trunk) : Trunk := { x with signal := false, wire := Vector.replicate 8 none }

/-- What a trunk's loss writes of the trunk itself (R118). -/
def Trunk.lose (cut : Nat) (x : Trunk) : Trunk :=
  { x with
    state := .lost, signal := false, wire := Vector.replicate 8 none, signalLosses := bump x.signalLosses
    cutFrames := bumpBy x.cutFrames cut }

section Losing

variable {s : State} {t : TrunkNo}

/-- A wire without status takes every indication away. -/
theorem State.applyIndications_dark (hw : s.ct.records.wf = true) (hwire : (s.trunk t).wire = Vector.replicate 8 none) :
    s.applyIndications t = (seatsOf t).foldl State.seatDark s := by
  unfold State.applyIndications seatsOf
  generalize numbers 8 = l
  induction l generalizing s with
  | nil => rfl
  | cons i rest ih =>
    have hstep : (s.onSeat (seatAt t i) fun x => { x with indication := (s.trunk t).wire[i] }).seatUpdate (seatAt t i)
        = s.seatDark (seatAt t i) := by
      rw [hwire]
      simp [State.seatDark]
    have hdark := State.seatDark_darkens hw (seatAt t i)
    rw [List.map_cons, List.foldl_cons, List.foldl_cons, hstep]
    exact ih hdark.wf (by rw [hdark.trunk]; exact hwire)

theorem State.trunkLoss_present (hsignal : (s.trunk t).signal = true) (hstate : (s.trunk t).state = .present) (cut : Nat) :
    s.trunkLoss t cut = ((s.onTrunk t (Trunk.lose cut)).applyIndications t).raise .seatTrunkLoss := by
  have hboth : (s.onTrunk t Trunk.dark).onTrunk t (fun y =>
      { y with state := .lost, signalLosses := bump y.signalLosses, cutFrames := bumpBy y.cutFrames cut })
      = s.onTrunk t (Trunk.lose cut) := State.onTrunk_onTrunk s t _ _
  rw [← hboth]
  unfold State.trunkLoss
  dsimp only
  rw [hsignal, if_neg (by simp), if_pos hstate]
  rfl

theorem State.trunkLoss_held (hsignal : (s.trunk t).signal = true) (hstate : (s.trunk t).state = .held) (cut : Nat) :
    s.trunkLoss t cut = s.onTrunk t Trunk.dark := by
  unfold State.trunkLoss
  dsimp only
  rw [hsignal, if_neg (by simp), if_neg (by rw [hstate]; simp)]
  rfl

/-- R20, R118: the trunk lost, its seats DOWN. -/
theorem State.trunkLoss_darkens (hw : s.ct.records.wf = true) (hsignal : (s.trunk t).signal = true)
    (hstate : (s.trunk t).state = .present) (cut : Nat) :
    ∃ v, (s.onTrunk t (Trunk.lose cut)).Darkens v (seatsOf t) ∧ s.trunkLoss t cut = v.raise .seatTrunkLoss := by
  have hwire : ((s.onTrunk t (Trunk.lose cut)).trunk t).wire = Vector.replicate 8 none := by
    rw [State.trunk_onTrunk_same]
    rfl
  refine ⟨_, State.foldl_seatDark (s := s.onTrunk t (Trunk.lose cut)) (seatsOf t) (seatsOf_nodup t) hw, ?_⟩
  rw [State.trunkLoss_present hsignal hstate, State.applyIndications_dark (by exact hw) hwire]

end Losing

/-! ### The signal returns -/

/-- A trunk whose wire has its signal and a status. -/
def Trunk.lit (status : TrunkStatus) (x : Trunk) : Trunk := { x with signal := true, wire := status }

/-- A trunk back in PRESENT. -/
def Trunk.returned (status : TrunkStatus) (x : Trunk) : Trunk := { x with state := .present, signal := true, wire := status }

/-- What the first status makes of a seat that is DOWN (R117, R119). -/
def Seat.relit (v : Option Speed) (x : Seat) : Seat := { x with indication := v, up := v.isSome && x.profile.enabled }

section Returning

variable {s : State} {t : TrunkNo}

theorem State.seatUpdate_relit {p : SeatNo} (hstate : (s.trunk (trunkOf p)).state = .present) (hup : (s.seat p).up = false)
    (v : Option Speed) : (s.onSeat p fun x => { x with indication := v }).seatUpdate p = s.onSeat p (Seat.relit v) := by
  have hshould : (s.onSeat p fun x => { x with indication := v }).seatShouldBeUp p = (v.isSome && (s.seat p).profile.enabled) := by
    simp [State.seatShouldBeUp, hstate]
  have hdown : ((s.onSeat p fun x => { x with indication := v }).seat p).up = false := by
    rw [State.seat_onSeat_same]
    exact hup
  rw [State.seatUpdate, hshould, hdown]
  cases hlit : v.isSome && (s.seat p).profile.enabled with
  | true =>
    rw [if_pos rfl, if_neg nofun, State.onSeat_onSeat]
    exact State.onSeat_congr s (by rw [Seat.relit, hlit])
  | false =>
    rw [if_neg nofun, if_neg nofun]
    exact State.onSeat_congr s (by rw [Seat.relit, hlit, ← hup])

/-- The status gives the eight seats of a PRESENT trunk their indications and link states. -/
theorem State.applyIndications_relit (hstate : (s.trunk t).state = .present) (hup : ∀ p, trunkOf p = t → (s.seat p).up = false) :
    s.applyIndications t = (seatsOf t).foldl (fun u p => u.onSeat p (Seat.relit (s.trunk t).wire[positionOf p])) s := by
  unfold State.applyIndications seatsOf
  have hnodup : (numbers 8).Nodup := numbers_nodup 8
  have hdown : ∀ i ∈ numbers 8, (s.seat (seatAt t i)).up = false := fun i _ => hup _ (trunkOf_seatAt t i)
  generalize hwire : (s.trunk t).wire = wire
  generalize numbers 8 = l at *
  clear hup
  induction l generalizing s with
  | nil => rfl
  | cons i rest ih =>
    obtain ⟨hi, hrest⟩ := List.nodup_cons.1 hnodup
    have hat : wire[positionOf (seatAt t i)] = wire[i] := congrArg (fun j : Fin 8 => wire[j]) (positionOf_seatAt t i)
    rw [List.map_cons, List.foldl_cons, List.foldl_cons, hwire, hat,
      State.seatUpdate_relit (by rw [trunkOf_seatAt, hstate]) (hdown i List.mem_cons_self)]
    refine ih (by exact hstate) (by exact hwire) hrest fun j hj => ?_
    have hne : seatAt t j ≠ seatAt t i := fun h => hi (by
      have := congrArg positionOf h
      rw [positionOf_seatAt, positionOf_seatAt] at this
      exact this ▸ hj)
    rw [State.seat_onSeat_of_ne _ _ hne]
    exact hdown j (List.mem_cons_of_mem _ hj)

theorem State.foldl_onSeat_keeps (ps : List SeatNo) (f : SeatNo → Seat → Seat) (s : State) :
    (ps.foldl (fun u p => u.onSeat p (f p)) s).trunk = s.trunk ∧ s.onlyChanges (ps.foldl (fun u p => u.onSeat p (f p)) s) [.spb]
      ∧ (ps.foldl (fun u p => u.onSeat p (f p)) s).ev = s.ev := by
  induction ps generalizing s with
  | nil => exact ⟨rfl, State.onlyChanges_iff.2 (by simp), rfl⟩
  | cons p rest ih =>
    obtain ⟨htrunk, honly, hev⟩ := ih (s.onSeat p (f p))
    exact ⟨htrunk.trans (funext (s.trunk_onSeat p _)), (s.onSeat_only p _).2.trans honly, hev⟩

/-- R117, R135: the first status after the signal's return. -/
theorem State.trunkReturn_lost (hsignal : (s.trunk t).signal = false) (hstate : (s.trunk t).state = .lost)
    (hup : ∀ p, trunkOf p = t → (s.seat p).up = false) (status : TrunkStatus) :
    s.trunkReturn t status = ((seatsOf t).foldl (fun u p => u.onSeat p (Seat.relit status[positionOf p]))
      (s.onTrunk t (Trunk.returned status))).onEv fun e =>
        { e with relamp := e.relamp ++ [t] } := by
  have hboth : (s.onTrunk t (Trunk.lit status)).onTrunk t (fun x => { x with state := .present })
      = s.onTrunk t (Trunk.returned status) := State.onTrunk_onTrunk s t _ _
  have htrunk := State.trunk_onTrunk_same s t (Trunk.returned status)
  have hlit := State.applyIndications_relit (s := s.onTrunk t (Trunk.returned status))
    (t := t) (by rw [htrunk]; rfl) hup
  rw [htrunk] at hlit
  unfold State.trunkReturn
  dsimp only
  rw [hsignal, if_neg nofun, if_pos hstate, State.trunkPresent]
  change ((((s.onTrunk t (Trunk.lit status)).onTrunk t fun x => { x with state := .present }).applyIndications t).onEv _) = _
  rw [hboth, hlit]
  rfl

theorem State.trunkReturn_held (hsignal : (s.trunk t).signal = false) (hstate : (s.trunk t).state = .held) (status : TrunkStatus) :
    s.trunkReturn t status = s.onTrunk t (Trunk.lit status) := by
  unfold State.trunkReturn
  dsimp only
  rw [hsignal, if_neg nofun, if_neg (by rw [hstate]; simp)]
  rfl

end Returning

/-- A lamp set afresh on a PRESENT trunk is commanded in an event that brings no reset (R135). -/
theorem State.relamp_made {u : State} {p : SeatNo} (hstate : (u.trunk (trunkOf p)).state = .present) (hrelamp : trunkOf p ∈ u.ev.relamp)
    (hdue : u.ev.resetDue = false) (hnone : u.ev.responses = []) : lampMade u.endEvent p (u.endEvent.resolveLamp p) := by
  obtain ⟨hresolve, _, hmade, _⟩ := u.closing_lamps p
  rw [State.endEvent_of_undue hdue (by rw [hnone]; nofun), hresolve]
  exact hmade ⟨hstate, .inr hrelamp⟩

theorem State.onTrunk_only (s : State) (t : TrunkNo) (f : Trunk → Trunk) : s.onlyChanges (s.onTrunk t f) [.spb] :=
  State.onlyChanges_iff.2 (by simp)

end Sys2Proof.Machine

namespace Sys2Proof.Proofs

open Sys2Proof.Machine

/-- Settles O35: a loss darkens the trunk's seats one after another (`Darkens`), a return relights them; on a HELD trunk only the pin
moves. -/
theorem trunkSignalLossAndReturn : Obligations.TrunkSignalLossAndReturn := by
  intro s t hinv
  have hw : s.ct.records.wf = true := hinv.records.1
  have hothers : ∀ f, ∀ k, k ≠ t → (s.beginEvent.onTrunk t f).trunk k = s.trunk k := fun f k hk => by
    rw [State.trunk_onTrunk, if_neg hk]
    rfl
  refine ⟨fun cut hline hsignal hstate => ?_, fun status hline hsignal hstate hup => ?_, fun cut hline hsignal hstate => ?_,
    fun status hline hsignal hstate => ?_⟩
  · obtain ⟨v, hdark, hloss⟩ := State.trunkLoss_darkens (s := s.beginEvent) hw hsignal hstate cut
    have hseat : ∀ p, trunkOf p = t → ((v.raise .seatTrunkLoss).seat p).uncommanded = (s.seat p).darkened.uncommanded := fun p hp =>
      hdark.dark p (mem_seatsOf.2 hp)
    refine ⟨_, reaches_pinEvent (i := .trunkSignalLoss t cut) (by rfl) hline hloss, ⟨fun k hk => ?_, fun p hp => ?_⟩, ?_, ?_,
      fun p hp => ?_, fun p hp hup => ?_, ?_, fun p hp hup => ?_⟩
    · exact (congrFun hdark.trunk k).trans (hothers _ k hk)
    · exact hdark.seats p fun h => hp (mem_seatsOf.1 h)
    · exact (congrFun hdark.trunk t).trans (State.trunk_onTrunk_same _ t _)
    · rw [State.raised_raise_same, State.raised_eq_of_me hdark.me]
      rfl
    · have hup := congrArg Seat.up (hseat p hp)
      have hindication := congrArg Seat.indication (hseat p hp)
      have hprofile := congrArg Seat.profile (hseat p hp)
      exact ⟨hup, hindication, hprofile⟩
    · have h := congrArg (fun x : Seat => x.counts.linkDowns) (hseat p hp)
      refine ⟨hdark.emptied p (mem_seatsOf.2 hp) hup, ?_, hdark.lingers p (mem_seatsOf.2 hp) hup⟩
      simpa [Seat.darkened, Seat.uncommanded, hup] using h
    · have hleavers : (allSeats.filter fun p => trunkOf p == t && (s.seat p).up).filterMap s.occupant = s.leavers (seatsOf t) := by
        rw [State.leavers, seatsOf_eq, List.filter_filter]
        congr 2
        funext p
        exact Bool.and_comm _ _
      rw [hleavers]
      exact ⟨hdark.lost, hdark.records⟩
    · have h := congrArg (fun x : Seat => x.counts.linkDowns) (hseat p hp)
      refine ⟨hdark.queues p fun _ => hup, ?_⟩
      simpa [Seat.darkened, Seat.uncommanded, hup] using h
  · have hreturn := State.trunkReturn_lost (s := s.beginEvent) hsignal hstate hup status
    have htrunk := State.trunk_onTrunk_same s.beginEvent t (Trunk.returned status)
    have honly := State.onTrunk_only s.beginEvent t (Trunk.returned status)
    have hothers := hothers (Trunk.returned status)
    have hseats : (s.beginEvent.onTrunk t (Trunk.returned status)).seat = s.seat := rfl
    have hev : (s.beginEvent.onTrunk t (Trunk.returned status)).ev = s.beginEvent.ev := rfl
    generalize s.beginEvent.onTrunk t (Trunk.returned status) = w at *
    have hwrites := foldl_writes State.seat (fun p => Seat.relit status[positionOf p])
      (f := fun (u : State) p => u.onSeat p (Seat.relit status[positionOf p]))
      (fun u p q => by rw [State.seat_onSeat]; split <;> simp_all) (seatsOf t) (seatsOf_nodup t) w
    obtain ⟨hvtrunk, hvonly, hvev⟩ := State.foldl_onSeat_keeps (seatsOf t) (fun p => Seat.relit status[positionOf p]) w
    have hgo := reaches_pinEvent (i := .trunkSignalReturn t status) (by rfl) hline hreturn
    generalize (seatsOf t).foldl (fun (u : State) p => u.onSeat p (Seat.relit status[positionOf p])) w = v at *
    have hrelamp : (v.onEv fun e => { e with relamp := e.relamp ++ [t] }).ev.relamp = [t] := by
      change v.ev.relamp ++ [t] = [t]
      rw [hvev, hev]
      rfl
    refine ⟨_, hgo, ⟨fun k hk => ?_, fun p hp => ?_⟩, ?_, fun p hp => ?_, hrelamp, fun p hp => State.relamp_made ?_ ?_ ?_ ?_,
      .of_begin ((honly.trans hvonly).trans (State.onlyChanges_iff.2 (by simp)))⟩
    · exact (congrFun hvtrunk k).trans (hothers k hk)
    · exact (hwrites p).trans ((if_neg fun h => hp (mem_seatsOf.1 h)).trans (congrFun hseats p))
    · exact (congrFun hvtrunk t).trans htrunk
    · exact (hwrites p).trans ((if_pos (mem_seatsOf.2 hp)).trans (by rw [hseats]; rfl))
    · rw [hp]
      change (v.trunk t).state = _
      rw [hvtrunk, htrunk]
      rfl
    · rw [hrelamp, hp]
      exact List.mem_singleton_self t
    · change v.ev.resetDue = false
      rw [hvev, hev]
      rfl
    · change v.ev.responses = []
      rw [hvev, hev]
      rfl
  · have hloss := State.trunkLoss_held (s := s.beginEvent) hsignal hstate cut
    have htrunk := State.trunk_onTrunk_same s.beginEvent t Trunk.dark
    have honly := State.onTrunk_only s.beginEvent t Trunk.dark
    exact ⟨_, reaches_pinEvent (i := .trunkSignalLoss t cut) (by rfl) hline hloss, ⟨hothers _, fun _ _ => rfl⟩, htrunk, .of_begin honly⟩
  · have hexec : exec (.trunkSignalReturn t status) s = .next (s.pinEvent fun u => u.trunkReturn t status) := rfl
    have htrunk := State.trunk_onTrunk_same s.beginEvent t (Trunk.lit status)
    have honly := State.onTrunk_only s.beginEvent t (Trunk.lit status)
    rw [State.pinEvent, if_pos hline, State.trunkReturn_held (by exact hsignal) (by exact hstate)] at hexec
    exact ⟨_, hexec, ⟨hothers _, fun _ _ => rfl⟩, htrunk, .of_begin honly⟩

end Sys2Proof.Proofs
end

section
/-! SUPPORT. Links that leave READY: what is placed on them lingers, and the moves away from them complete (R19, R63, R65). -/

namespace Sys2Proof.Machine

/-! ### The records a link's loss concerns -/

section Where

variable {s : State} {P : Record → Bool}

theorem State.mem_recordsWhere (hw : s.ct.records.wf = true) {n : Nat} :
    n ∈ s.recordsWhere P ↔ ∃ r, s.record n = some r ∧ P r = true := by
  simp only [State.recordsWhere, List.mem_map, List.mem_filter]
  constructor
  · rintro ⟨⟨m, r⟩, ⟨hmem, hp⟩, rfl⟩
    exact ⟨r, Table.get_of_mem hw hmem, hp⟩
  · rintro ⟨r, hr, hp⟩
    exact ⟨(n, r), ⟨Table.get_mem _ _ _ hr, hp⟩, rfl⟩

theorem State.recordsWhere_nodup (hw : s.ct.records.wf = true) (P : Record → Bool) : (s.recordsWhere P).Nodup := by
  have hrising := (Table.wf_iff _).1 hw
  have hsub : (s.recordsWhere P).Sublist (s.ct.records.map Prod.fst) := (List.filter_sublist).map _
  exact (hrising.sublist hsub).imp fun h => Nat.ne_of_lt h

/-- What is gathered over the records that fit is gathered over all, nothing coming from the others. -/
theorem State.flatMap_recordsWhere {α : Type} (s : State) (P : Record → Bool) (f : Nat → List α) :
    (s.recordsWhere P).flatMap f = s.ct.records.flatMap fun e => if P e.2 then f e.1 else [] := by
  rw [State.recordsWhere, List.flatMap_map]
  induction s.ct.records with
  | nil => rfl
  | cons e rest ih =>
    rw [List.filter_cons, List.flatMap_cons]
    cases hp : P e.2 <;> simp [ih]

theorem State.countP_recordsWhere (s : State) (P : Record → Bool) (f : Nat → Bool) :
    (s.recordsWhere P).countP f = s.ct.records.countP fun e => P e.2 && f e.1 := by
  rw [State.recordsWhere, List.countP_map, List.countP_filter]
  congr 1
  funext e
  exact Bool.and_comm _ _

end Where

/-! ### What is placed on the links lingers -/

/-- The records `ns`, each placed on a link, have gone to LINGERING. -/
structure State.Lingered (s t : State) (ns : List Nat) : Prop where
  wf : t.ct.records.wf = true
  record : ∀ n ∈ ns, ∀ r, s.record n = some r → t.record n = some (r.lingers s.ct.lingerTime)
  others : ∀ n, n ∉ ns → t.record n = s.record n
  lingerTime : t.ct.lingerTime = s.ct.lingerTime
  queues : queuesSame s t
  mc : ∃ d, t.mc = { s.mc with counts := { s.mc.counts with
    targetsLost := bumpBy s.mc.counts.targetsLost (ns.countP fun n => (s.record n).any Record.isMoving), holdDiscarded := d } }
  only : s.onlyChanges t [.ct, .mc, .sau, .fs]
  responses : t.ev.responses = s.ev.responses

/-- A record stands at the number and is placed on a link. -/
def State.onSomeLink (s : State) (n : Nat) : Prop := ∃ r c a, s.record n = some r ∧ r.st.place = some (.ceiling c a)

section Lingering

variable {s : State}

theorem State.enterLingering_lingered (hw : s.ct.records.wf = true) {n : Nat} (h : s.onSomeLink n) : s.Lingered (s.enterLingering n) [n] := by
  obtain ⟨r, c, a, hr, hplace⟩ := h
  have hleaves := State.enterLingering_leaves hr (RecordState.not_lingering_of_place hplace)
  rw [hplace] at hleaves
  have hwf : (s.enterLingering n).ct.records.wf = true := by
    rw [State.enterLingering_records hr hplace]
    exact Table.modify_wf _ _ _ (Table.modify_wf _ _ _ hw)
  refine ⟨hwf, fun m hm x hx => ?_, fun m hm => hleaves.others m (by simpa using hm), hleaves.lingerTime, hleaves.queue_link,
    ⟨bumpBy s.mc.counts.holdDiscarded r.st.hold.length, ?_⟩, hleaves.only_link, hleaves.log.1⟩
  · obtain rfl := List.mem_singleton.1 hm
    obtain rfl := Option.some.inj (hr.symm.trans hx)
    exact hleaves.record
  · rw [hleaves.mc]
    cases hmoving : r.isMoving <;> simp [hr, hmoving]

theorem State.foldl_enterLingering (ns : List Nat) (hns : ns.Nodup) (hw : s.ct.records.wf = true) (h : ∀ n ∈ ns, s.onSomeLink n) :
    s.Lingered (ns.foldl (fun t n => t.enterLingering n) s) ns := by
  induction ns generalizing s with
  | nil =>
    exact ⟨hw, nofun, fun _ _ => rfl, rfl, fun _ => rfl, ⟨s.mc.counts.holdDiscarded, by simp [bumpBy_zero]⟩,
      State.onlyChanges_iff.2 (by simp), rfl⟩
  | cons n rest ih =>
    obtain ⟨hn, hrest⟩ := List.nodup_cons.1 hns
    have hfirst := State.enterLingering_lingered hw (h n List.mem_cons_self)
    rw [List.foldl_cons]
    generalize s.enterLingering n = v at *
    have hsame : ∀ m ∈ rest, v.record m = s.record m := fun m hm => hfirst.others m fun h => hn (List.mem_singleton.1 h ▸ hm)
    have hlater := ih hrest hfirst.wf fun m hm => by
      rw [State.onSomeLink, hsame m hm]
      exact h m (List.mem_cons_of_mem _ hm)
    refine ⟨hlater.wf, fun m hm r hr => ?_, fun m hm => ?_, hlater.lingerTime.trans hfirst.lingerTime,
      fun q => (hlater.queues q).trans (hfirst.queues q), ?_, hfirst.only.trans hlater.only, hlater.responses.trans hfirst.responses⟩
    · rcases List.mem_cons.1 hm with rfl | hm
      · rw [hlater.others m hn]
        exact hfirst.record m (List.mem_singleton_self m) r hr
      · rw [← hfirst.lingerTime]
        exact hlater.record m hm r ((hsame m hm).trans hr)
    · obtain ⟨hmn, hmrest⟩ := not_or.1 (fun h => hm (List.mem_cons.2 h))
      rw [hlater.others m hmrest, hfirst.others m (by simpa using hmn)]
    · obtain ⟨d, hd⟩ := hfirst.mc
      obtain ⟨e, he⟩ := hlater.mc
      have hcount : (rest.countP fun m => (v.record m).any Record.isMoving) = rest.countP fun m => (s.record m).any Record.isMoving :=
        List.countP_congr fun m hm => by rw [hsame m hm]
      refine ⟨e, ?_⟩
      rw [he, hd, hcount]
      simp only [bumpBy_bumpBy, ← List.countP_append, List.singleton_append]

end Lingering

/-! ### The moves away from them complete -/

/-- A record whose move, if it has one, is completed. -/
def State.completed (s : State) (r : Record) : Record :=
  match r.st with
  | .moving target _ _ _ _ => { r with st := .attached target (s.idleFor r.cls target) }
  | _ => r

/-- The hold entries a record's move brings to a port. -/
def RecordState.brings (port : Port) : RecordState → List Entry
  | .moving target _ _ _ hold => if target.port = port then hold.map target.entry else []
  | _ => []

/-- What the record at a number brings to a port. -/
def State.brings (s : State) (port : Port) (n : Nat) : List Entry := ((s.record n).map fun r => r.st.brings port).getD []

/-- The moves of the records `ns` have completed, in this order; a record that is not MOVING stands as it did. -/
structure State.Completed (s t : State) (ns : List Nat) : Prop where
  record : ∀ n ∈ ns, ∀ r, s.record n = some r → t.record n = some (s.completed r)
  others : ∀ n, n ∉ ns → t.record n = s.record n
  lingerTime : t.ct.lingerTime = s.ct.lingerTime
  queues : ∀ port, s.transmits port = true → s.inLoopback port = false → (t.queue port).entries
    = (s.queue port).entries ++ (ns.flatMap (s.brings port)).take (queueCapacity port - (s.queue port).entries.length)
  mc : ∃ d, t.mc = { s.mc with counts := { s.mc.counts with
    byLinkLoss := bumpBy s.mc.counts.byLinkLoss (ns.countP fun n => (s.record n).any Record.isMoving), flushDrops := d } }
  only : s.onlyChanges t [.ct, .mc, .fs]
  responses : t.ev.responses = s.ev.responses

/-- R63: the count of a completion by a link's loss. -/
def McCounters.linkLoss (k : McCounters) : McCounters := { k with byLinkLoss := bump k.byLinkLoss }

section Completing

variable {s : State} {n : Nat} {r : Record}

theorem State.completeMove_notMoving (h : ∀ r, s.record n = some r → r.isMoving = false) (count : McCounters → McCounters) :
    s.completeMove n count = s := by
  cases hr : s.record n with
  | none => simp [State.completeMove, hr]
  | some r =>
    have hnot := h r hr
    cases hst : r.st with
    | moving target f g t hold => simp [Record.isMoving, hst, RecordState.former] at hnot
    | attached => simp [State.completeMove, hr, hst]
    | lingering => simp [State.completeMove, hr, hst]

theorem Record.moving_of_isMoving (h : r.isMoving = true) : ∃ target f g t hold, r.st = .moving target f g t hold := by
  cases hst : r.st with
  | moving target f g t hold => exact ⟨target, f, g, t, hold, rfl⟩
  | attached => simp [Record.isMoving, hst, RecordState.former] at h
  | lingering => simp [Record.isMoving, hst, RecordState.former] at h

theorem State.completed_notMoving (h : r.isMoving = false) : s.completed r = r := by
  cases hst : r.st with
  | moving target f g t hold => simp [Record.isMoving, hst, RecordState.former] at h
  | attached => simp [State.completed, hst]
  | lingering => simp [State.completed, hst]

theorem RecordState.brings_notMoving (h : r.isMoving = false) (port : Port) : r.st.brings port = [] := by
  cases hst : r.st with
  | moving target f g t hold => simp [Record.isMoving, hst, RecordState.former] at h
  | attached => rfl
  | lingering => rfl

/-- One number: its record's move completes, or nothing changes. -/
theorem State.completeMove_completed (s : State) (n : Nat) : s.Completed (s.completeMove n McCounters.linkLoss) [n] := by
  by_cases hmoves : ∃ r, s.record n = some r ∧ r.isMoving = true
  · obtain ⟨r, hr, hmoving⟩ := hmoves
    obtain ⟨target, f, g, t, hold, hst⟩ := Record.moving_of_isMoving hmoving
    have hdone := State.completeMove_completes hr hst McCounters.linkLoss
    refine ⟨fun m hm x hx => ?_, fun m hm => hdone.others m (by simpa using hm), hdone.lingerTime, fun port htransmits hloopback => ?_, ?_,
      hdone.only, hdone.flushes.log.2⟩
    · obtain rfl := List.mem_singleton.1 hm
      obtain rfl := Option.some.inj (hr.symm.trans hx)
      rw [hdone.record, State.completed, hst]
    · have hbrings : [n].flatMap (s.brings port) = r.st.brings port := by simp [State.brings, hr]
      rw [hbrings, hst, RecordState.brings]
      by_cases hport : target.port = port
      · subst hport
        rw [if_pos rfl, ← List.map_take]
        exact hdone.flushes.entries ⟨htransmits, hloopback⟩
      · rw [if_neg hport, List.take_nil, List.append_nil]
        exact congrArg Egress.entries (hdone.flushes.queues port fun h => hport h.symm)
    · obtain ⟨d, hd⟩ := hdone.mc
      refine ⟨d, ?_⟩
      rw [hd]
      simp [McCounters.linkLoss, hr, hmoving, bump_eq_bumpBy]
  · have hnot : ∀ r, s.record n = some r → r.isMoving = false := fun r hr => by
      cases hmoving : r.isMoving with
      | false => rfl
      | true => exact absurd ⟨r, hr, hmoving⟩ hmoves
    have hnone : (s.record n).any Record.isMoving = false := by
      cases hr : s.record n with
      | none => rfl
      | some r => exact hnot r hr
    have hbrings : ∀ port, s.brings port n = [] := fun port => by
      cases hr : s.record n with
      | none => simp [State.brings, hr]
      | some r => simp [State.brings, hr, RecordState.brings_notMoving (hnot r hr)]
    rw [State.completeMove_notMoving hnot]
    refine ⟨fun m hm x hx => ?_, fun _ _ => rfl, rfl, fun port _ _ => by simp [hbrings], ⟨s.mc.counts.flushDrops, ?_⟩,
      State.onlyChanges_iff.2 (by simp), rfl⟩
    · obtain rfl := List.mem_singleton.1 hm
      rw [hx, State.completed_notMoving (hnot x hx)]
    · simp [hnone, bumpBy_zero]

theorem State.foldl_completeMove (ns : List Nat) (hns : ns.Nodup) (s : State) :
    s.Completed (ns.foldl (fun t n => t.completeMove n McCounters.linkLoss) s) ns := by
  induction ns generalizing s with
  | nil =>
    exact ⟨nofun, fun _ _ => rfl, rfl, fun port _ _ => by simp, ⟨s.mc.counts.flushDrops, by simp [bumpBy_zero]⟩,
      State.onlyChanges_iff.2 (by simp), rfl⟩
  | cons n rest ih =>
    obtain ⟨hn, hrest⟩ := List.nodup_cons.1 hns
    have hfirst := s.completeMove_completed n
    rw [List.foldl_cons]
    generalize s.completeMove n McCounters.linkLoss = v at *
    have hsame : ∀ m ∈ rest, v.record m = s.record m := fun m hm => hfirst.others m fun h => hn (List.mem_singleton.1 h ▸ hm)
    have hlater := ih hrest v
    obtain ⟨_, _, _, _, _, hspb, hclb, hcu, _⟩ := State.onlyChanges_iff.1 hfirst.only
    have hspb := hspb (by simp)
    have hclb := hclb (by simp)
    have htold := fun port => State.Told.of_eq (port := port) hspb (hcu (by simp)) hclb
    have hidle : ∀ cls pl, v.idleFor cls pl = s.idleFor cls pl :=
      State.idleFor_congr (fun q => by rw [State.seat_eq_of_spb hspb]) fun d => by rw [State.link_eq_of_clb hclb]
    have hcompleted : ∀ r, v.completed r = s.completed r := fun r => by
      unfold State.completed
      cases r.st <;> simp [hidle]
    refine ⟨fun m hm r hr => ?_, fun m hm => ?_, hlater.lingerTime.trans hfirst.lingerTime, fun port htransmits hloopback => ?_, ?_,
      hfirst.only.trans hlater.only, hlater.responses.trans hfirst.responses⟩
    · rcases List.mem_cons.1 hm with rfl | hm
      · rw [hlater.others m hn]
        exact hfirst.record m (List.mem_singleton_self m) r hr
      · rw [hlater.record m hm r ((hsame m hm).trans hr), hcompleted]
    · obtain ⟨hmn, hmrest⟩ := not_or.1 (fun h => hm (List.mem_cons.2 h))
      rw [hlater.others m hmrest, hfirst.others m (by simpa using hmn)]
    · have hbrings : rest.flatMap (v.brings port) = rest.flatMap (s.brings port) :=
        List.flatMap_congr fun m hm => by rw [State.brings, State.brings, hsame m hm]
      rw [hlater.queues port (by rw [(htold port).transmits, htransmits]) (by rw [(htold port).inLoopback, hloopback]),
        hfirst.queues port htransmits hloopback, hbrings, fill_append, ← List.flatMap_append, List.singleton_append]
    · obtain ⟨d, hd⟩ := hfirst.mc
      obtain ⟨e, he⟩ := hlater.mc
      have hcount : (rest.countP fun m => (v.record m).any Record.isMoving) = rest.countP fun m => (s.record m).any Record.isMoving :=
        List.countP_congr fun m hm => by rw [hsame m hm]
      refine ⟨e, ?_⟩
      rw [he, hd, hcount]
      simp only [bumpBy_bumpBy, ← List.countP_append, List.singleton_append]

end Completing

end Sys2Proof.Machine
end

section
/-! SUPPORT. What a link's leaving READY makes of the records, the queues and the link itself (R19, R143). -/

namespace Sys2Proof.Machine

/-- A record is placed on one of the links. -/
def Record.placedOn (cs : List LinkNo) (r : Record) : Bool := r.st.place.any fun pl => cs.any fun c => pl.onLink c

/-- A record's move leaves one of the links. -/
def Record.leavesAny (cs : List LinkNo) (r : Record) : Bool := r.st.former.any fun f => cs.contains f.1

section LinksLost

variable {s : State} {cs : List LinkNo}

theorem Record.placedOn_iff {r : Record} : r.placedOn cs = true ↔ ∃ c a, c ∈ cs ∧ r.st.place = some (.ceiling c a) := by
  unfold Record.placedOn
  rcases r.st.place with _ | ⟨p⟩ | ⟨d, a⟩
  · simp
  · simp [Place.onLink]
  · simp [Place.onLink, List.any_eq_true]

theorem State.linksLost_eq (s : State) (cs : List LinkNo) : s.linksLost cs = (s.recordsWhere (Record.leavesAny cs)).foldl
    (fun t n => t.completeMove n McCounters.linkLoss)
    ((s.recordsWhere (Record.placedOn cs)).foldl (fun t n => t.enterLingering n) s) := rfl

/-- R19: a first sweep of what is placed there, a second of the moves that leave. -/
theorem State.linksLost_sweeps (hw : s.ct.records.wf = true) (cs : List LinkNo) : ∃ v,
    s.Lingered v (s.recordsWhere (Record.placedOn cs)) ∧ v.Completed (s.linksLost cs) (s.recordsWhere (Record.leavesAny cs)) := by
  rw [State.linksLost_eq]
  refine ⟨_, State.foldl_enterLingering _ (State.recordsWhere_nodup hw _) hw fun n hn => ?_,
    State.foldl_completeMove _ (State.recordsWhere_nodup hw _) _⟩
  obtain ⟨r, hr, hplaced⟩ := (State.mem_recordsWhere hw).1 hn
  obtain ⟨c, a, _, hplace⟩ := Record.placedOn_iff.1 hplaced
  exact ⟨r, c, a, hr, hplace⟩

theorem State.completed_lingers (s : State) (r : Record) (seconds : Nat) : s.completed (r.lingers seconds) = r.lingers seconds := rfl

/-- What is placed there lingers; a move that only leaves completes; every other record stands as it did. -/
theorem State.linksLost_record (hw : s.ct.records.wf = true) (cs : List LinkNo) {n : Nat} {r : Record} (hr : s.record n = some r) :
    (s.linksLost cs).record n = some (if r.placedOn cs then r.lingers s.ct.lingerTime else if r.leavesAny cs then s.completed r else r) := by
  obtain ⟨v, hlingered, hdone⟩ := State.linksLost_sweeps hw cs
  obtain ⟨_, _, _, _, _, hspb, hclb, _⟩ := State.onlyChanges_iff.1 hlingered.only
  have hidle : ∀ cls pl, v.idleFor cls pl = s.idleFor cls pl := State.idleFor_congr
    (fun q => by rw [State.seat_eq_of_spb (hspb (by simp))]) fun d => by rw [State.link_eq_of_clb (hclb (by simp))]
  have hcompleted : v.completed r = s.completed r := by
    unfold State.completed
    cases r.st <;> simp [hidle]
  have hplaced : n ∈ s.recordsWhere (Record.placedOn cs) ↔ r.placedOn cs = true := by
    rw [State.mem_recordsWhere hw]
    exact ⟨fun ⟨x, hx, hp⟩ => Option.some.inj (hr.symm.trans hx) ▸ hp, fun hp => ⟨r, hr, hp⟩⟩
  have hleaves : n ∈ s.recordsWhere (Record.leavesAny cs) ↔ r.leavesAny cs = true := by
    rw [State.mem_recordsWhere hw]
    exact ⟨fun ⟨x, hx, hp⟩ => Option.some.inj (hr.symm.trans hx) ▸ hp, fun hp => ⟨r, hr, hp⟩⟩
  by_cases hp : r.placedOn cs = true
  · have hv := hlingered.record n (hplaced.2 hp) r hr
    rw [if_pos hp]
    by_cases hl : r.leavesAny cs = true
    · exact (hdone.record n (hleaves.2 hl) _ hv).trans (congrArg some (v.completed_lingers r _))
    · exact (hdone.others n fun h => hl (hleaves.1 h)).trans hv
  · have hv := (hlingered.others n fun h => hp (hplaced.1 h)).trans hr
    rw [if_neg hp]
    by_cases hl : r.leavesAny cs = true
    · rw [if_pos hl, hdone.record n (hleaves.2 hl) r hv, hcompleted]
    · rw [if_neg hl, hdone.others n (fun h => hl (hleaves.1 h)), hv]

theorem State.linksLost_only (hw : s.ct.records.wf = true) (cs : List LinkNo) : s.onlyChanges (s.linksLost cs) [.ct, .mc, .sau, .fs] := by
  obtain ⟨v, hlingered, hdone⟩ := State.linksLost_sweeps hw cs
  exact hlingered.only.both hdone.only (by simp) (by simp)

theorem State.linksLost_responses (hw : s.ct.records.wf = true) (cs : List LinkNo) :
    (s.linksLost cs).ev.responses = s.ev.responses := by
  obtain ⟨v, hlingered, hdone⟩ := State.linksLost_sweeps hw cs
  exact hdone.responses.trans hlingered.responses

/-- The record that a sweep of LINGERING leaves at a number, for a record of the table. -/
theorem State.Lingered.found {v : State} (hw : s.ct.records.wf = true) (h : s.Lingered v (s.recordsWhere (Record.placedOn cs)))
    {e : Nat × Record} (he : e ∈ s.ct.records) :
    v.record e.1 = some (if e.2.placedOn cs then e.2.lingers s.ct.lingerTime else e.2) := by
  have hr : s.record e.1 = some e.2 := Table.get_of_mem hw he
  split
  · next hp => exact h.record e.1 ((State.mem_recordsWhere hw).2 ⟨e.2, hr, hp⟩) e.2 hr
  · next hp =>
    rw [h.others e.1 fun hn => ?_, hr]
    obtain ⟨x, hx, hplaced⟩ := (State.mem_recordsWhere hw).1 hn
    exact hp (Option.some.inj (hr.symm.trans hx) ▸ hplaced)

/-- R65: the hold queues flushed to one port, in rising order of record number. -/
theorem State.linksLost_queue (hw : s.ct.records.wf = true) (cs : List LinkNo) {port : Port} (htransmits : s.transmits port = true)
    (hloopback : s.inLoopback port = false) : ((s.linksLost cs).queue port).entries = (s.queue port).entries
      ++ (s.ct.records.flatMap fun e => if e.2.leavesAny cs && !e.2.placedOn cs then e.2.st.brings port else []).take
        (queueCapacity port - (s.queue port).entries.length) := by
  obtain ⟨v, hlingered, hdone⟩ := State.linksLost_sweeps hw cs
  obtain ⟨_, _, _, _, _, hspb, hclb, hcu, _⟩ := State.onlyChanges_iff.1 hlingered.only
  have htold := State.Told.of_eq (port := port) (hspb (by simp)) (hcu (by simp)) (hclb (by simp))
  have hgathered : (s.recordsWhere (Record.leavesAny cs)).flatMap (v.brings port)
      = s.ct.records.flatMap fun e => if e.2.leavesAny cs && !e.2.placedOn cs then e.2.st.brings port else [] := by
    rw [State.flatMap_recordsWhere]
    refine List.flatMap_congr fun e he => ?_
    rw [State.brings, hlingered.found hw he]
    cases hp : e.2.placedOn cs with
    | true => simp [Record.lingers, RecordState.brings]
    | false => simp
  rw [hdone.queues port (by rw [htold.transmits, htransmits]) (by rw [htold.inLoopback, hloopback]), hlingered.queues, hgathered]

/-- R63, R68: the moves that lose their targets, and those that complete. -/
theorem State.linksLost_counts (hw : s.ct.records.wf = true) (cs : List LinkNo) :
    (s.linksLost cs).mc.counts.targetsLost
      = bumpBy s.mc.counts.targetsLost (s.ct.records.countP fun e => e.2.placedOn cs && e.2.isMoving)
    ∧ (s.linksLost cs).mc.counts.byLinkLoss
      = bumpBy s.mc.counts.byLinkLoss (s.ct.records.countP fun e => e.2.leavesAny cs && !e.2.placedOn cs && e.2.isMoving) := by
  obtain ⟨v, hlingered, hdone⟩ := State.linksLost_sweeps hw cs
  obtain ⟨d, hd⟩ := hlingered.mc
  obtain ⟨e, he⟩ := hdone.mc
  have hlost : ((s.recordsWhere (Record.placedOn cs)).countP fun n => (s.record n).any Record.isMoving)
      = s.ct.records.countP fun e => e.2.placedOn cs && e.2.isMoving := by
    rw [State.countP_recordsWhere]
    refine List.countP_congr fun x hx => ?_
    have hr : s.record x.1 = some x.2 := Table.get_of_mem hw hx
    simp [hr]
  have hcompleted : ((s.recordsWhere (Record.leavesAny cs)).countP fun n => (v.record n).any Record.isMoving)
      = s.ct.records.countP fun e => e.2.leavesAny cs && !e.2.placedOn cs && e.2.isMoving := by
    rw [State.countP_recordsWhere]
    refine List.countP_congr fun x hx => ?_
    rw [hlingered.found hw hx]
    cases hp : x.2.placedOn cs with
    | true => simp [Record.lingers, Record.isMoving, RecordState.former]
    | false => simp
  rw [he, hd]
  exact ⟨by rw [← hlost], by rw [← hcompleted]⟩

end LinksLost

/-! ### One link, in the statements' words -/

section OneLink

variable {c : LinkNo}

theorem Record.placedOn_attached {r : Record} {a : AssocNo} {t : Timer} (h : r.st = .attached (.ceiling c a) t) : r.placedOn [c] = true := by
  simp [Record.placedOn, h, RecordState.place, Place.onLink]

theorem Record.targetOn_iff (r : Record) : (r.placedOn [c] && r.isMoving) = r.st.targetOn c := by
  cases h : r.st <;> simp [Record.placedOn, Record.isMoving, h, RecordState.place, RecordState.former, RecordState.targetOn]

theorem Record.leaves_iff (r : Record) : (r.leavesAny [c] && !r.placedOn [c] && r.isMoving) = r.st.leaves c := by
  cases h : r.st <;>
    simp [Record.leavesAny, Record.placedOn, Record.isMoving, h, RecordState.place, RecordState.former, RecordState.leaves, Bool.beq_eq_decide_eq]

theorem State.flushedFrom_eq (s : State) (port : Port) : s.flushedFrom c port
    = s.ct.records.flatMap fun e => if e.2.leavesAny [c] && !e.2.placedOn [c] then e.2.st.brings port else [] := by
  unfold State.flushedFrom
  congr 1
  funext e
  cases h : e.2.st with
  | attached => simp [RecordState.brings]
  | lingering => simp [RecordState.brings]
  | moving target f g t hold =>
    by_cases hf : f = c
    · cases hon : target.onLink c <;>
        simp [Record.leavesAny, Record.placedOn, h, RecordState.place, RecordState.former, RecordState.brings, hf, hon]
    · simp [Record.leavesAny, Record.placedOn, h, RecordState.place, RecordState.former, hf]

end OneLink

/-! ### The link itself (R143) -/

theorem State.raise_link (s : State) (c : Cause) : (s.raise c).link = s.link := rfl

/-- What the closing of a link leaves, beside its clients. -/
structure State.LinkClosed (s u : State) (c : LinkNo) : Prop where
  ct : u.ct = s.ct
  mc : u.mc = s.mc
  spb : u.spb = s.spb
  state : (u.link c).state = (s.link c).state
  off : (u.link c).window = none ∧ (u.link c).survey = none ∧ (u.link c).relay = none
  losses : (u.link c).counts.linkLosses = bump (s.link c).counts.linkLosses
  links : otherLinks s u c
  raised : u.raised .ceilingLinkLoss = bump (s.raised .ceilingLinkLoss)
  entries : (u.queue (.ceiling c)).entries = []
  queues : ∀ port, port ≠ .ceiling c → u.queue port = s.queue port
  responses : ∀ r, (s.link c).relay = some r → u.ev.responses = s.ev.responses
    ++ [{ station := r.station, side := r.side, long := true, code := relayCode, tag := r.tag, status := .linkDown,
          args := [linkByte c, r.item] }]

theorem State.linkClosed_closed (s : State) (c : LinkNo) : s.LinkClosed (s.linkClosed c) c := by
  obtain ⟨_, _, _, _, hct, hmc, _, _, hclb, hme, _⟩ := s.discardQueue_keeps (.ceiling c)
  have htold : s.Told (s.discardQueue (.ceiling c)) (.ceiling c) := .discardQueue s _
  have hspb := htold.spb fun p => by simp
  have hentries := State.discardQueue_entries (s := s) (.ceiling c)
  have hqueues := fun port (h : port ≠ .ceiling c) => State.discardQueue_queue_of_ne s h
  obtain ⟨_, _, hresponses, _⟩ := s.discardQueue_log (.ceiling c)
  unfold State.linkClosed
  generalize s.discardQueue (.ceiling c) = v at *
  have hlink : v.link = s.link := State.link_eq_of_clb hclb
  have hraised := State.raised_eq_of_me hme
  dsimp only
  cases hrelay : (v.link c).relay with
  | none =>
    have hidle : ∀ args count, v.endRelay c .linkDown args count = v := fun args count => by rw [State.endRelay, hrelay]
    rw [hidle]
    exact {
      ct := hct
      mc := hmc
      spb := hspb
      state := by
        rw [State.raise_link, State.link_onLink, if_pos rfl, hlink]
      off := by
        rw [State.raise_link, State.link_onLink, if_pos rfl]
        exact ⟨rfl, rfl, hrelay⟩
      losses := by
        rw [State.raise_link, State.link_onLink, if_pos rfl, hlink]
      links := fun d hd => by
        rw [State.raise_link, State.link_onLink, if_neg hd, hlink]
      raised := (State.raised_raise_same _ _).trans (congrArg bump (congrFun hraised _))
      entries := hentries
      queues := hqueues
      responses := fun r hr => by
        rw [hlink, hr] at hrelay
        cases hrelay }
  | some r =>
    rw [State.endRelay_some hrelay]
    exact {
      ct := hct
      mc := hmc
      spb := hspb
      state := by
        rw [State.raise_link, State.link_onLink, if_pos rfl, State.pushResponse_link, State.link_onLink, if_pos rfl, hlink]
      off := by
        rw [State.raise_link, State.link_onLink, if_pos rfl, State.pushResponse_link, State.link_onLink, if_pos rfl]
        exact ⟨rfl, rfl, rfl⟩
      losses := by
        rw [State.raise_link, State.link_onLink, if_pos rfl, State.pushResponse_link, State.link_onLink, if_pos rfl, hlink]
      links := fun d hd => by
        rw [State.raise_link, State.link_onLink, if_neg hd, State.pushResponse_link, State.link_onLink, if_neg hd, hlink]
      raised := (State.raised_raise_same _ _).trans (congrArg bump (congrFun hraised _))
      entries := hentries
      queues := hqueues
      responses := fun x hx => by
        obtain rfl := Option.some.inj (hrelay.symm.trans ((congrArg Link.relay (congrFun hlink c)).trans hx))
        rw [← hresponses]
        rfl }

end Sys2Proof.Machine
end

section
/-! PROOFS. A tick of a radio's status, link state by link state (O33). -/

namespace Sys2Proof.Machine

section Ticking

variable {s : State} {c : LinkNo} {cut : Bool}

theorem State.statusTick_held (h : (s.link c).state = .held) (status : Option RadioStatus) :
    s.statusTick c status cut = s.onLink c fun x => { x with statusIn := status.isSome } := by
  unfold State.statusTick
  rw [h]

theorem State.statusTick_down (h : (s.link c).state = .down) (r : RadioStatus) : s.statusTick c (some r) cut
    = s.onLink c fun x => { x with statusIn := true, ready := r.ready, busy := r.busy, state := .unready } := by
  unfold State.statusTick
  rw [h]
  simp only [State.onLink_onLink, Option.isSome_some]

/-- The link as a tick of its status leaves it, but for what its state brings. -/
def Link.told (r : RadioStatus) (x : Link) : Link := { x with statusIn := true, ready := r.ready, busy := r.busy }

/-- The link as a tick without signal leaves it, but for what its state brings. -/
def Link.silent (cut : Bool) (x : Link) : Link :=
  { x with
    statusIn := false
    ready := false
    busy := false
    counts := { x.counts with cutFrames := if cut then bump x.counts.cutFrames else x.counts.cutFrames } }

theorem State.statusTick_unready (h : (s.link c).state = .unready) (r : RadioStatus) : s.statusTick c (some r) cut
    = if r.ready && (s.link c).profile.enabled then (s.onLink c (Link.told r)).enterReady c else s.onLink c (Link.told r) := by
  have hboth : (s.onLink c fun x => { x with statusIn := true }).onLink c (fun x => { x with ready := r.ready, busy := r.busy })
      = s.onLink c (Link.told r) := State.onLink_onLink s c _ _
  have hprofile : ((s.onLink c (Link.told r)).link c).profile = (s.link c).profile := by rw [State.link_onLink, if_pos rfl]; rfl
  unfold State.statusTick
  rw [h]
  dsimp only [Option.isSome_some]
  rw [hboth, hprofile]

theorem State.statusTick_ready (h : (s.link c).state = .ready) (r : RadioStatus) : s.statusTick c (some r) cut
    = if r.ready then (s.onLink c (Link.told r)).surveyTick c r.busy else (s.onLink c (Link.told r)).leaveReady [c] .unready := by
  have hboth : (s.onLink c fun x => { x with statusIn := true }).onLink c (fun x => { x with ready := r.ready, busy := r.busy })
      = s.onLink c (Link.told r) := State.onLink_onLink s c _ _
  unfold State.statusTick
  rw [h]
  dsimp only [Option.isSome_some]
  rw [hboth]

theorem State.statusTick_none (h : (s.link c).state ≠ .held) : s.statusTick c none cut
    = if (s.link c).state = .ready then (s.onLink c (Link.silent cut)).leaveReady [c] .down
      else (s.onLink c (Link.silent cut)).onLink c fun x => { x with state := .down } := by
  have hboth : (s.onLink c fun x => { x with statusIn := false }).onLink c (fun x => { x with
      ready := false
      busy := false
      counts := { x.counts with cutFrames := if cut then bump x.counts.cutFrames else x.counts.cutFrames } })
      = s.onLink c (Link.silent cut) := State.onLink_onLink s c _ _
  unfold State.statusTick
  rw [← hboth]
  cases hst : (s.link c).state with
  | held => exact absurd hst h
  | down => rfl
  | unready => rfl
  | ready => rfl

/-- One link leaves READY: its clients and their moves first, then the link (R143). -/
theorem State.leaveReady_one (s : State) (c : LinkNo) (new : LinkState) :
    s.leaveReady [c] new = ((s.onLink c fun x => { x with state := new }).linksLost [c]).linkClosed c := by
  simp only [State.leaveReady, List.foldl_cons, List.foldl_nil]

end Ticking

/-! ### A link that leaves READY -/

/-- The link is as it was but for its state, its survey and its counters of losses and cut frames: `g` is what the tick writes. -/
structure Link.Leaves (x : Link) (g : Link → Link) (new : LinkState) : Prop where
  state : (g x).state = new
  relay : (g x).relay = x.relay
  profile : (g x).profile = x.profile
  losses : (g x).counts.linkLosses = x.counts.linkLosses

/-- What becomes of the clients of link `c` and of their moves (R19, R63, R65, R68). -/
structure State.ClientsLeave (s u : State) (c : LinkNo) : Prop where
  attached : ∀ n r a t, s.record n = some r → r.st = .attached (.ceiling c a) t → u.record n = some (r.lingers s.ct.lingerTime)
  targets : ∀ n r, s.record n = some r → r.st.targetOn c = true → u.record n = some (r.lingers s.ct.lingerTime)
  moves : ∀ n r target g t hold, s.record n = some r → r.st = .moving target c g t hold → target.onLink c = false →
    u.record n = some { r with st := .attached target (s.idleFor r.cls target) }
  entries : ∀ port, port ≠ .ceiling c → s.transmits port = true → s.inLoopback port = false → (u.queue port).entries
    = (s.queue port).entries ++ (s.flushedFrom c port).take (queueCapacity port - (s.queue port).entries.length)
  lost : u.mc.counts.targetsLost = bumpBy s.mc.counts.targetsLost (s.ct.records.countP fun e => e.2.st.targetOn c)
  completed : u.mc.counts.byLinkLoss = bumpBy s.mc.counts.byLinkLoss (s.ct.records.countP fun e => e.2.st.leaves c)

section LeavingReady

variable {s : State} {c : LinkNo}

theorem Record.placedOn_targetOn {r : Record} (h : r.st.targetOn c = true) : r.placedOn [c] = true := by
  rw [← Record.targetOn_iff] at h
  exact (Bool.and_eq_true_iff.1 h).1

theorem State.linksLost_clients (hw : s.ct.records.wf = true) (c : LinkNo) : s.ClientsLeave (s.linksLost [c]) c where
  attached n r a t hr hst := by rw [State.linksLost_record hw [c] hr, if_pos (Record.placedOn_attached hst)]
  targets n r hr hon := by rw [State.linksLost_record hw [c] hr, if_pos (Record.placedOn_targetOn hon)]
  moves n r target g t hold hr hst hoff := by
    have hplaced : r.placedOn [c] = false := by simp [Record.placedOn, hst, RecordState.place, hoff]
    have hleaves : r.leavesAny [c] = true := by simp [Record.leavesAny, hst, RecordState.former]
    rw [State.linksLost_record hw [c] hr, hplaced, if_neg nofun, if_pos hleaves, State.completed, hst]
  entries port _ htransmits hloopback := by
    rw [State.linksLost_queue hw [c] htransmits hloopback, ← State.flushedFrom_eq]
  lost := by
    rw [(State.linksLost_counts hw [c]).1]
    simp only [Record.targetOn_iff]
  completed := by
    rw [(State.linksLost_counts hw [c]).2]
    simp only [Record.leaves_iff]

/-- The tick's own writes to the link, which takes no flush, leave the rest of the event as it is. -/
theorem State.ClientsLeave.of_onLink {g : Link → Link} {u : State} (hprofile : (g (s.link c)).profile = (s.link c).profile)
    (h : (s.onLink c g).ClientsLeave u c) : s.ClientsLeave u c where
  attached := h.attached
  targets := h.targets
  moves n r target g' t hold hr hst hoff := by
    have hspb : (s.onLink c g).spb = s.spb := rfl
    have hlinks : ∀ d, ((s.onLink c g).link d).profile = (s.link d).profile := fun d => by
      rw [State.link_onLink]
      split
      · next hd => rw [hd, hprofile]
      · rfl
    have hidle := State.idleFor_congr (fun q => by rw [State.seat_eq_of_spb hspb]) hlinks r.cls target
    rw [h.moves n r target g' t hold hr hst hoff, hidle]
  entries port hne htransmits hloopback := by
    refine h.entries port hne ?_ hloopback
    cases port with
    | seat p => exact htransmits
    | backbone side => exact htransmits
    | ceiling d =>
      have hd : d ≠ c := fun e => hne (by rw [e])
      rw [← htransmits, State.transmits, State.transmits, State.link_onLink_of_ne _ _ hd]
  lost := h.lost
  completed := h.completed

/-- The closing of the link leaves its clients as they are. -/
theorem State.ClientsLeave.closed {t u : State} (h : s.ClientsLeave t c) (hclosed : t.LinkClosed u c) : s.ClientsLeave u c := by
  have hrecord := State.record_eq_of_ct hclosed.ct
  exact {
    attached := fun n r a t hr hst => by rw [hrecord, h.attached n r a t hr hst]
    targets := fun n r hr hon => by rw [hrecord, h.targets n r hr hon]
    moves := fun n r target g t hold hr hst hoff => by rw [hrecord, h.moves n r target g t hold hr hst hoff]
    entries := fun port hne htransmits hloopback => by rw [hclosed.queues port hne, h.entries port hne htransmits hloopback]
    lost := by rw [hclosed.mc, h.lost]
    completed := by rw [hclosed.mc, h.completed] }

/-- What the loss of its clients and its closing leave of the link (R143). -/
structure State.LinkLeft (s u : State) (c : LinkNo) (new : LinkState) : Prop where
  clients : s.ClientsLeave u c
  links : otherLinks s u c
  state : (u.link c).state = new
  off : (u.link c).window = none ∧ (u.link c).survey = none ∧ (u.link c).relay = none
  losses : (u.link c).counts.linkLosses = bump (s.link c).counts.linkLosses
  raised : u.raised .ceilingLinkLoss = bump (s.raised .ceilingLinkLoss)
  entries : (u.queue (.ceiling c)).entries = []
  responses : ∀ r, (s.link c).relay = some r → u.ev.responses = s.ev.responses
    ++ [{ station := r.station, side := r.side, long := true, code := relayCode, tag := r.tag, status := .linkDown,
          args := [linkByte c, r.item] }]

theorem State.link_leaves {g : Link → Link} {new : LinkState} (hw : s.ct.records.wf = true) (hg : (s.link c).Leaves g new) :
    s.LinkLeft (((s.onLink c g).linksLost [c]).linkClosed c) c new := by
  have hclients := (State.linksLost_clients (s := s.onLink c g) hw c).of_onLink hg.profile
  have honly := State.linksLost_only (s := s.onLink c g) hw [c]
  have hresponses := State.linksLost_responses (s := s.onLink c g) hw [c]
  generalize (s.onLink c g).linksLost [c] = v at *
  obtain ⟨_, _, _, _, _, _, hclb, _, hme, _⟩ := State.onlyChanges_iff.1 honly
  have hlink : v.link = (s.onLink c g).link := State.link_eq_of_clb (hclb (by simp))
  have hclosed := v.linkClosed_closed c
  have hself : v.link c = g (s.link c) := by rw [hlink, State.link_onLink, if_pos rfl]
  exact {
    clients := hclients.closed hclosed
    links := fun d hd => by rw [hclosed.links d hd, hlink, State.link_onLink_of_ne _ _ hd]
    state := by rw [hclosed.state, hself, hg.state]
    off := hclosed.off
    losses := by rw [hclosed.losses, hself, hg.losses]
    raised := by
      rw [hclosed.raised, State.raised_eq_of_me (hme (by simp))]
      rfl
    entries := hclosed.entries
    responses := fun r hr => by
      rw [hclosed.responses r (by rw [hself, hg.relay, hr]), hresponses]
      rfl }

theorem State.leaveReady_left {f : Link → Link} (hw : s.ct.records.wf = true) (new : LinkState)
    (hrelay : (f (s.link c)).relay = (s.link c).relay) (hprofile : (f (s.link c)).profile = (s.link c).profile)
    (hlosses : (f (s.link c)).counts.linkLosses = (s.link c).counts.linkLosses) :
    s.LinkLeft ((s.onLink c f).leaveReady [c] new) c new := by
  rw [State.leaveReady_one, State.onLink_onLink]
  exact State.link_leaves hw ⟨rfl, hrelay, hprofile, hlosses⟩

end LeavingReady

end Sys2Proof.Machine

namespace Sys2Proof.Proofs

open Sys2Proof.Machine

/-- Settles O33, by the link's state and what its status says; a link that leaves READY first loses its clients (`linksLost`), then
closes (`linkClosed`). -/
theorem linkStatusTable : Obligations.LinkStatusTable := by
  intro s c cut hinv hline x tick left
  have hleft : ∀ {u : State} {new : LinkState}, s.beginEvent.LinkLeft u c new → left u new := fun h =>
    ⟨h.state, h.off.1, h.off.2.1, h.off.2.2, h.losses, h.raised, h.entries, h.clients.attached, h.clients.targets, h.clients.moves,
      h.clients.entries, h.clients.lost, h.clients.completed, h.responses⟩
  have hw : s.ct.records.wf = true := hinv.records.1
  have hreach := fun {status : Option RadioStatus} {u : State} =>
    reaches_pinEvent (i := .ceilingStatusTick c status cut) (s := s) (u := u) (by rfl) hline
  have hothers : ∀ f, otherLinks s (s.beginEvent.onLink c f) c := fun f d hd => State.link_onLink_of_ne _ _ hd
  have hlink : ∀ f, (s.beginEvent.onLink c f).link c = f (s.link c) := fun f => by
    rw [State.link_onLink, if_pos rfl]
    rfl
  have honly : ∀ f, s.onlyChanges (s.beginEvent.onLink c f) [.clb] := fun f =>
    .of_begin (State.onlyChanges_iff.2 (by simp))
  refine ⟨fun status hstate => ?_, fun r hstate => ?_, fun r hstate => ?_, fun hstate => ?_, fun r w hstate hready hwindow hleft => ?_,
    fun r hstate hready => ?_, fun hstate => ?_⟩
  · exact ⟨_, ⟨hreach (State.statusTick_held (s := s.beginEvent) hstate status), hothers _⟩, hlink _, honly _⟩
  · exact ⟨_, ⟨hreach (State.statusTick_down (s := s.beginEvent) hstate r), hothers _⟩, hlink _, honly _⟩
  · have htick := State.statusTick_unready (s := s.beginEvent) (cut := cut) hstate r
    have hprofile : (s.beginEvent.link c).profile = (s.link c).profile := rfl
    rw [hprofile] at htick
    cases hon : r.ready && (s.link c).profile.enabled with
    | false =>
      rw [hon, if_neg nofun] at htick
      refine ⟨_, ⟨hreach htick, hothers _⟩, ?_, honly _⟩
      rw [hlink, if_neg nofun, if_neg nofun, Link.told, ← hstate]
    | true =>
      rw [hon, if_pos rfl, State.enterReady, State.onLink_onLink] at htick
      exact ⟨_, ⟨hreach htick, hothers _⟩, hlink _, honly _⟩
  · have hne : (s.link c).state ≠ .held ∧ (s.link c).state ≠ .ready := by
      rcases hstate with h | h <;> rw [h] <;> simp
    have htick := State.statusTick_none (s := s.beginEvent) (cut := cut) hne.1
    rw [if_neg (by exact hne.2), State.onLink_onLink] at htick
    refine ⟨_, ⟨hreach htick, hothers _⟩, ?_, honly _, ?_⟩
    · rw [hlink]
    · rw [hlink]
      rfl
  · have htick := State.statusTick_ready (s := s.beginEvent) (cut := cut) hstate r
    have hwindow : (s.link c).window = some w := hwindow
    have hdone : ((s.beginEvent.onLink c (Link.told r)).link c).windowDone = false := by
      rw [hlink]
      simp [Link.windowDone, Link.told, hwindow]
      omega
    rw [if_pos hready, State.surveyTick, hdone, if_neg nofun, State.onLink_onLink] at htick
    refine ⟨_, ⟨hreach htick, hothers _⟩, ?_, honly _⟩
    rw [hlink]
    simp [Link.told, hready, hwindow, x]
  · have htick := State.statusTick_ready (s := s.beginEvent) (cut := cut) hstate r
    rw [hready, if_neg nofun] at htick
    have hlost := State.leaveReady_left (s := s.beginEvent) (c := c) (f := Link.told r) hw .unready rfl rfl rfl
    exact ⟨_, ⟨hreach htick, hlost.links⟩, hleft hlost⟩
  · have hne : (s.link c).state ≠ .held := by
      intro h
      rw [show (s.link c).state = .ready from hstate] at h
      cases h
    have htick := State.statusTick_none (s := s.beginEvent) (c := c) (cut := cut) hne
    rw [if_pos (by exact hstate)] at htick
    have hlost := State.leaveReady_left (s := s.beginEvent) (c := c) (f := Link.silent cut) hw .down rfl rfl rfl
    exact ⟨_, ⟨hreach htick, hlost.links⟩, hleft hlost⟩

end Sys2Proof.Proofs
end

section
/-! PROOFS. A reload takes effect or is refused (O11). -/

namespace Sys2Proof.Machine

/-! ### Seats that take their profiles leave the links' clients alone -/

/-- Every record that is placed on a link stands as it did. -/
structure State.SparesLinks (s t : State) : Prop where
  wf : t.ct.records.wf = true
  record : ∀ n r c a, s.record n = some r → r.st.place = some (.ceiling c a) → t.record n = some r
  lingerTime : t.ct.lingerTime = s.ct.lingerTime

namespace State.SparesLinks

variable {s t u : State}

theorem of_ct (hw : s.ct.records.wf = true) (h : t.ct = s.ct) : s.SparesLinks t :=
  ⟨by rw [h, hw], fun _ _ _ _ hr _ => (congrFun (State.record_eq_of_ct h) _).trans hr, by rw [h]⟩

theorem trans (h : s.SparesLinks t) (h' : t.SparesLinks u) : s.SparesLinks u :=
  ⟨h'.wf, fun n r c a hr hpl => h'.record n r c a (h.record n r c a hr hpl) hpl, h'.lingerTime.trans h.lingerTime⟩

theorem onSeat (hw : s.ct.records.wf = true) (p : SeatNo) (f : Seat → Seat) : s.SparesLinks (s.onSeat p f) := of_ct hw rfl

theorem seatLost (hw : s.ct.records.wf = true) (p : SeatNo) : s.SparesLinks (s.seatLost p) := by
  have hevicts := State.seatLost_evicts hw p
  refine ⟨hevicts.wf, fun n r c a hr hpl => ?_, hevicts.lingerTime⟩
  rw [hevicts.records n fun hn => ?_, hr]
  cases ho : s.occupant p with
  | none => simp [ho] at hn
  | some e =>
    obtain ⟨m, y⟩ := e
    obtain ⟨hm, hplace⟩ := State.occupant_some hw ho
    obtain rfl : n = m := by simpa [ho] using hn
    obtain rfl := Option.some.inj (hr.symm.trans hm)
    rw [hpl] at hplace
    cases hplace

theorem seatUpdate (hw : s.ct.records.wf = true) (p : SeatNo) : s.SparesLinks (s.seatUpdate p) := by
  unfold State.seatUpdate
  split
  · split
    · exact of_ct hw rfl
    · exact of_ct hw rfl
  · split
    · unfold State.seatDown
      have hlost := seatLost (s := s.onSeat p fun x => { x with up := false, counts := { x.counts with linkDowns := bump x.counts.linkDowns } })
        hw p
      exact ((onSeat hw p _).trans hlost).trans (of_ct hlost.wf (by simp))
    · exact of_ct hw rfl

theorem setSeatProfile (hw : s.ct.records.wf = true) (p : SeatNo) (profile : SeatProfile) : s.SparesLinks (s.setSeatProfile p profile) := by
  unfold State.setSeatProfile
  dsimp only
  have hupdate := seatUpdate (s := s.onSeat p fun x => { x with profile := { profile with loopback := (s.seat p).profile.loopback } }) hw p
  have hfirst := (onSeat hw p _).trans hupdate
  split
  · exact hfirst.trans (of_ct hupdate.wf (by simp))
  · exact hfirst.trans (onSeat hupdate.wf p _)

theorem seatsGiven (hw : s.ct.records.wf = true) (x : Settings) : s.SparesLinks (s.seatsGiven x) := by
  have hfold : ∀ (ps : List SeatNo) (v : State), v.ct.records.wf = true →
      v.SparesLinks (ps.foldl (fun t p => t.setSeatProfile p (x.seats.getD p.val {})) v) := by
    intro ps
    induction ps with
    | nil => exact fun v hv => of_ct hv rfl
    | cons p rest ih =>
      intro v hv
      have hfirst := setSeatProfile hv p (x.seats.getD p.val {})
      exact hfirst.trans (ih _ hfirst.wf)
  have hall := hfold allSeats s hw
  unfold State.seatsGiven
  generalize allSeats.foldl (fun t p => t.setSeatProfile p (x.seats.getD p.val {})) s = t at *
  exact hall.trans (of_ct hall.wf rfl)

end State.SparesLinks

/-! ### Links that leave READY together -/

section LeaveTogether

variable {s : State} {cs : List LinkNo} {new : LinkState}

/-- The links' new states, before anything of their clients. -/
def State.linksInto (s : State) (cs : List LinkNo) (new : LinkState) : State :=
  cs.foldl (fun t c => t.onLink c fun x => { x with state := new }) s

theorem State.linksInto_leaves (cs : List LinkNo) (new : LinkState) (s : State) : (s.linksInto cs new).ct = s.ct
    ∧ (s.linksInto cs new).spb = s.spb
    ∧ ∀ c, (s.linksInto cs new).link c = if c ∈ cs then { s.link c with state := new } else s.link c := by
  unfold State.linksInto
  induction cs generalizing s with
  | nil => exact ⟨rfl, rfl, fun _ => rfl⟩
  | cons d rest ih =>
    obtain ⟨hct, hspb, hlink⟩ := ih (s.onLink d fun x => { x with state := new })
    refine ⟨hct, hspb, fun c => ?_⟩
    rw [List.foldl_cons, hlink, State.link_onLink]
    by_cases hc : c = d <;> by_cases hrest : c ∈ rest <;> simp [hc, hrest]

theorem State.foldl_linkClosed (cs : List LinkNo) (s : State) : (cs.foldl (fun t c => t.linkClosed c) s).ct = s.ct
    ∧ ∀ c, ((cs.foldl (fun t c => t.linkClosed c) s).link c).state = (s.link c).state := by
  induction cs generalizing s with
  | nil => exact ⟨rfl, fun _ => rfl⟩
  | cons d rest ih =>
    obtain ⟨hct, hstate⟩ := ih (s.linkClosed d)
    have hclosed := s.linkClosed_closed d
    refine ⟨hct.trans hclosed.ct, fun c => (hstate c).trans ?_⟩
    by_cases hc : c = d
    · rw [hc, hclosed.state]
    · rw [hclosed.links c hc]

/-- R152: the links' states, and what becomes of a record that is placed on a link. -/
theorem State.leaveReady_leaves (hw : s.ct.records.wf = true) (cs : List LinkNo) (new : LinkState) :
    (∀ c, ((s.leaveReady cs new).link c).state = if c ∈ cs then new else (s.link c).state)
    ∧ ∀ n r, s.record n = some r → (s.leaveReady cs new).record n
      = some (if r.placedOn cs then r.lingers s.ct.lingerTime else if r.leavesAny cs then s.completed r else r) := by
  obtain ⟨hct, hspb, hlink⟩ := s.linksInto_leaves cs new
  have heq : s.leaveReady cs new = cs.foldl (fun t c => t.linkClosed c) ((s.linksInto cs new).linksLost cs) := rfl
  rw [heq]
  have hwf : (s.linksInto cs new).ct.records.wf = true := by rw [hct, hw]
  have hrecord := State.record_eq_of_ct hct
  generalize s.linksInto cs new = v at *
  obtain ⟨_, _, _, _, _, _, hclb, _⟩ := State.onlyChanges_iff.1 (State.linksLost_only hwf cs)
  have hlost := fun n r (hr : s.record n = some r) => State.linksLost_record hwf cs ((congrFun hrecord n).trans hr)
  generalize v.linksLost cs = w at *
  obtain ⟨hctw, hstate⟩ := State.foldl_linkClosed cs w
  have hprofile : ∀ d, (v.link d).profile = (s.link d).profile := fun d => by
    rw [hlink]
    split <;> rfl
  have hidle := State.idleFor_congr (fun q => by rw [State.seat_eq_of_spb hspb]) hprofile
  have hcompleted : ∀ r, v.completed r = s.completed r := fun r => by
    unfold State.completed
    cases r.st <;> simp [hidle]
  refine ⟨fun c => ?_, fun n r hr => ?_⟩
  · rw [hstate, State.link_eq_of_clb (hclb (by simp)), hlink]
    split <;> rfl
  · rw [State.record_eq_of_ct hctw, hlost n r hr, hct, hcompleted]

end LeaveTogether

/-! ### The settings of a reload -/

/-- R215: a READY link that the settings disable. -/
def State.goes (s : State) (x : Settings) (c : LinkNo) : Prop := (s.link c).state = .ready ∧ (x.links.getD c.val {}).enabled = false

/-- The idle timer that the settings give a client on a link (R22). -/
def Settings.idleOn (x : Settings) (cls : Class) (c : LinkNo) : Timer :=
  if cls = .service then none else some ((x.links.getD c.val {}).idleTime * 1000)

section Reloading

variable {s : State} {x : Settings}

theorem State.mem_disabledBy {c : LinkNo} : c ∈ (s.seatsGiven x).disabledBy x.linkProfile ↔ s.goes x c := by
  rw [State.disabledBy, List.mem_filter, State.link_eq_of_clb (s.seatsGiven_clb x)]
  simp [allLinks, mem_numbers, State.goes, Settings.linkProfile]

/-- R215: the links that the settings disable leave READY, and what becomes of the clients placed on links. -/
theorem State.giveSettings_links (hw : s.ct.records.wf = true) (x : Settings) :
    (∀ c, s.goes x c → ((s.giveSettings x).link c).state = .unready)
    ∧ (∀ c, ¬ s.goes x c → ((s.giveSettings x).link c).state = (s.link c).state)
    ∧ ∀ n r c a, s.record n = some r → r.st.place = some (.ceiling c a) →
      (s.goes x c → (s.giveSettings x).record n = some (r.lingers s.ct.lingerTime))
      ∧ ∀ f g t hold, r.st = .moving (.ceiling c a) f g t hold → ¬ s.goes x c → s.goes x f → (s.giveSettings x).record n
        = some { r with st := .attached (.ceiling c a) (x.idleOn r.cls c) } := by
  have hspared := State.SparesLinks.seatsGiven hw x
  have hlinks := State.link_eq_of_clb (s.seatsGiven_clb x)
  have hmem := fun c => State.mem_disabledBy (s := s) (x := x) (c := c)
  rw [State.giveSettings_eq]
  generalize (s.seatsGiven x).disabledBy x.linkProfile = cs at *
  generalize s.seatsGiven x = t at *
  obtain ⟨hstates, hrecords⟩ := State.leaveReady_leaves (s := t.withLinkProfiles x.linkProfile) hspared.wf cs .unready
  have hstate : ∀ c, (((t.withLinkProfiles x.linkProfile).leaveReady cs .unready).link c).state
      = if c ∈ cs then .unready else (s.link c).state := fun c => by
    rw [hstates, State.withLinkProfiles_link, hlinks]
  have hplacedOn : ∀ r : Record, ∀ c a, r.st.place = some (.ceiling c a) → (r.placedOn cs = true ↔ s.goes x c) := fun r c a hpl => by
    rw [Record.placedOn_iff, hpl, ← hmem]
    exact ⟨fun ⟨d, b, hd, h⟩ => by cases h; exact hd, fun h => ⟨c, a, h, rfl⟩⟩
  refine ⟨fun c hc => ?_, fun c hc => ?_, fun n r c a hr hpl => ?_⟩
  · rw [State.withTimings_link, hstate, if_pos ((hmem c).2 hc)]
  · rw [State.withTimings_link, hstate, if_neg fun h => hc ((hmem c).1 h)]
  · have hrecord := hrecords n r (hspared.record n r c a hr hpl)
    refine ⟨fun hc => ?_, fun f g k hold hst hc hf => ?_⟩
    · rw [if_pos ((hplacedOn r c a hpl).2 hc)] at hrecord
      rw [← hspared.lingerTime]
      exact hrecord
    · have hleaves : r.leavesAny cs = true := by simp [Record.leavesAny, hst, RecordState.former, (hmem f).2 hf]
      have hidle : (t.withLinkProfiles x.linkProfile).idleFor r.cls (.ceiling c a) = x.idleOn r.cls c := by
        rw [State.idleFor, State.idleMs, State.withLinkProfiles_link]
        rfl
      rw [if_neg fun h => hc ((hplacedOn r c a hpl).1 h), if_pos hleaves, State.completed, hst] at hrecord
      dsimp only at hrecord
      rw [hidle] at hrecord
      exact hrecord

theorem readComplete_of_reloading {access : Nat} {r : Return} (h : reloading s access r) : s.beginEvent.readComplete access
    = s.beginEvent.reloadEnd s.memory.settings (if s.memory.settings.isSome then .ok else .badImage) := by
  obtain ⟨_, hunit, hbegun, haccess, hlast, _⟩ := h
  unfold State.readComplete
  rw [if_pos ⟨hunit, hbegun, haccess.symm⟩]
  exact if_neg (by rw [show s.beginEvent.sl.lastOperation = .reload from hlast]; simp)

theorem accessExpiry_of_reloading {access : Nat} {r : Return} (h : reloading s access r) :
    s.beginEvent.accessExpiry = s.beginEvent.reloadEnd none .noAnswer := by
  obtain ⟨_, hunit, _, _, hlast, _⟩ := h
  unfold State.accessExpiry
  rw [show s.beginEvent.sl.unit = .loading from hunit]
  exact if_neg (by rw [show s.beginEvent.sl.lastOperation = .reload from hlast]; simp)

/-- R215: a reload that fails. -/
theorem State.reloadEnd_none {r : Return} (hr : s.sl.pendingReturn = some r) (outcome : LoadOutcome) :
    let u := s.reloadEnd none outcome
    longResponse u r .settingsFault [] ∧ u.settings = s.settings ∧ u.sl.unit = .idle ∧ u.sl.outcome = some outcome
      ∧ u.sl.source = s.sl.source ∧ u.sl.counts.reloadFaults = bump s.sl.counts.reloadFaults ∧ u.ct = s.ct ∧ u.spb = s.spb := by
  simp only [State.reloadEnd, hr, State.respondLong]
  exact ⟨List.mem_append_right _ (List.mem_singleton_self _), rfl, rfl, rfl, rfl, rfl, rfl, rfl⟩

/-- R215: a reload that takes effect. -/
theorem State.reloadEnd_some {r : Return} (hr : s.sl.pendingReturn = some r) (hx : x.Whole) :
    let u := s.reloadEnd (some x) .ok
    longResponse u r .ok [boolByte ((!s.coupled .fore && !s.coupled .aft) || s.cu.vehicle == x.vehicle)]
      ∧ u.settings = { x with vehicle := if !s.coupled .fore && !s.coupled .aft then x.vehicle else s.cu.vehicle }
      ∧ u.sl.unit = .idle ∧ u.sl.source = some .stored ∧ u.sl.pendingReturn = none ∧ u.el = s.el
      ∧ u.link = (s.giveSettings x).link ∧ u.record = (s.giveSettings x).record := by
  obtain ⟨hrests, hgiven⟩ := s.giveSettings_gives hx
  simp only [State.reloadEnd, hr, State.respondLong]
  generalize s.giveSettings x = t at *
  obtain ⟨hsettings, _, _, honly, _⟩ := t.giveVehicle_gives x.vehicle
  obtain ⟨hct, _, _, hel, _, _, hclb, _⟩ := State.onlyChanges_iff.1 honly
  generalize t.giveVehicle x.vehicle = v at *
  refine ⟨List.mem_append_right _ (List.mem_singleton_self _), ?_, rfl, rfl, rfl, (hel (by simp)).trans hrests.el,
    State.link_eq_of_clb (hclb (by simp)), State.record_eq_of_ct (hct (by simp))⟩
  refine (show _ = v.settings from rfl).trans ?_
  rw [hsettings, hgiven, State.coupled_eq_of_cu hrests.cu, hrests.cu]
  cases s.coupled .fore <;> cases s.coupled .aft <;> rfl

end Reloading

end Sys2Proof.Machine

namespace Sys2Proof.Proofs

open Sys2Proof.Machine

/-- Settles O11, clause by clause: the request begins the read; its valid image is given; without one the reload is refused. -/
theorem reloadTakesEffectOrIsRefused : Obligations.ReloadTakesEffectOrIsRefused := by
  refine ⟨fun s h hs hcab hidle => ?_, fun s access r x hload hx => ?_, fun s access r hload hnone => ?_, fun s access r hload hdue => ?_⟩
  · obtain ⟨t, ht, hserved⟩ := served_begun hs (q := .reloadSettings) rfl hcab rfl
    have hperform : t.perform (returnOf h .reloadSettings) .reloadSettings = (t.beginReload (returnOf h .reloadSettings), none) := by
      simp [State.perform, State.doReloadSettings, ht.sl, hidle]
    refine ⟨_, hserved _ hperform, ht.responses, rfl, rfl, rfl, rfl, rfl, rfl, (ht.requestOnly _).after ?_ (by rfl) (by rfl)⟩
    simp [State.onlyChanges_iff, State.beginReload, State.beginLoad]
  · have hread : s.beginEvent.readComplete access = s.beginEvent.reloadEnd (some x) .ok := by
      rw [readComplete_of_reloading hload, hx]
      rfl
    have hreaches := reaches_event (i := .settingsReadComplete access) (by rfl) hload.1 hread
    obtain ⟨_, _, _, _, _, hreturn⟩ := hload
    obtain ⟨hresponse, hsettings, hunit, hsource, hpending, hel, hlink, hrecord⟩ :=
      State.reloadEnd_some (s := s.beginEvent) (r := r) hreturn (.of_image hx)
    refine ⟨_, hreaches, hresponse, hsettings, hunit, hsource, hpending, hel, fun hinv => ?_⟩
    obtain ⟨hgo, hstay, hclients⟩ := State.giveSettings_links (s := s.beginEvent) hinv.records.1 x
    refine ⟨fun c => ?_, fun n q c a hq hpl => ?_⟩
    · dsimp only
      rw [hlink]
      split
      · next h => exact hgo c h
      · next h => exact hstay c h
    · rw [hrecord]
      exact hclients n q c a hq hpl
  · have hread : s.beginEvent.readComplete access = s.beginEvent.reloadEnd none .badImage := by
      rw [readComplete_of_reloading hload, hnone]
      rfl
    have hreaches := reaches_event (i := .settingsReadComplete access) (by rfl) hload.1 hread
    obtain ⟨_, _, _, _, _, hreturn⟩ := hload
    obtain ⟨hresponse, hsettings, hunit, houtcome, hsource, hfaults, hct, hspb⟩ :=
      State.reloadEnd_none (s := s.beginEvent) (r := r) hreturn .badImage
    exact ⟨_, hreaches, hresponse, hsettings, hunit, houtcome, hsource, hfaults, hct, hspb⟩
  · have hreaches := reaches_eventWhen (i := .accessTimerExpiry) (s := s) rfl hload.1 (by rw [hdue]; rfl) (accessExpiry_of_reloading hload)
    obtain ⟨_, _, _, _, _, hreturn⟩ := hload
    obtain ⟨hresponse, hsettings, hunit, houtcome, _⟩ := State.reloadEnd_none (s := s.beginEvent) (r := r) hreturn .noAnswer
    exact ⟨_, hreaches, hresponse, hsettings, hunit, houtcome⟩

end Sys2Proof.Proofs
end

section
/-! SUPPORT. What an association's answer leaves, and what the hand-over leaves of the answer (R156 to R159). -/

namespace Sys2Proof.Machine

/-! ### What has been answered stands -/

/-- What the radios have been told stays told, and the links' last associations, their admissions and the deferrals stand. -/
structure State.KeepsAnswers (w u : State) : Prop where
  told : ∀ c m, toldRadio w c m → toldRadio u c m
  last : ∀ c, (u.link c).lastAssoc = (w.link c).lastAssoc
  admissions : ∀ c, (u.link c).counts.admissions = (w.link c).counts.admissions
  deferrals : u.clb.deferrals = w.clb.deferrals

namespace State.KeepsAnswers

variable {s t u : State}

theorem trans (h : s.KeepsAnswers t) (h' : t.KeepsAnswers u) : s.KeepsAnswers u where
  told c m ht := h'.told c m (h.told c m ht)
  last c := (h'.last c).trans (h.last c)
  admissions c := (h'.admissions c).trans (h.admissions c)
  deferrals := h'.deferrals.trans h.deferrals

theorem of_clb (hclb : t.clb = s.clb) (hout : s.ev.out ⊆ t.ev.out)
    (hwaiting : ∀ c, (t.queue (.ceiling c)).waiting = (s.queue (.ceiling c)).waiting) : s.KeepsAnswers t where
  told c _ ht := ht.mono hout (by simp [hwaiting])
  last c := by rw [State.link_eq_of_clb hclb]
  admissions c := by rw [State.link_eq_of_clb hclb]
  deferrals := by rw [hclb]

/-- Steps that leave the links, the store and the event's log alone. -/
theorem of_blocks (hclb : t.clb = s.clb) (hfs : t.fs = s.fs) (hev : t.ev = s.ev) : s.KeepsAnswers t :=
  of_clb hclb (by simp [hev]) fun c => by rw [State.queue_eq_of_fs hfs]

theorem refl (s : State) : s.KeepsAnswers s := of_blocks rfl rfl rfl

theorem onRecord (s : State) (n : Nat) (f : Record → Record) : s.KeepsAnswers (s.onRecord n f) := of_blocks rfl rfl rfl

theorem attach (s : State) (n : Nat) (pl : Place) : s.KeepsAnswers (s.attach n pl) := of_blocks rfl rfl rfl

theorem countMc (s : State) (f : McCounters → McCounters) : s.KeepsAnswers (s.countMc f) := of_blocks rfl rfl rfl

theorem setUp (s : State) (n : Nat) (reclaimed : Bool) (x : Addr) (pl : Place) : s.KeepsAnswers (s.setUp n reclaimed x pl) :=
  of_blocks rfl rfl rfl

theorem sendRadio (s : State) (d : LinkNo) (m : RadioOut) : s.KeepsAnswers (s.sendRadio d m) where
  told c out ht := by
    obtain ⟨more, hev⟩ := s.sendRadio_ev d m
    refine ht.mono (by rw [hev]; exact List.subset_append_left _ _) ?_
    by_cases hc : c = d
    · subst hc
      unfold State.sendRadio State.sendControl
      split
      · exact List.Subset.refl _
      · split
        · rw [State.onQueue, State.queue_setQueue_self]
          exact List.subset_append_left _ _
        · rw [State.goOut_queue]
          exact List.Subset.refl _
    · rw [State.sendRadio_queue_of_ne _ _ _ fun h => hc (Port.ceiling.inj h)]
      exact List.Subset.refl _
  last c := by
    rw [State.sendRadio_link]
    split <;> rfl
  admissions c := by
    rw [State.sendRadio_link]
    split
    · cases m <;> rfl
    · rfl
  deferrals := (s.sendRadio_clb d m).1

theorem discardSeat (s : State) (q : SeatNo) : s.KeepsAnswers (s.discardQueue (.seat q)) :=
  of_clb (State.Told.discardQueue s _).clb (by rw [State.discardQueue_out]; exact List.subset_append_left _ _) fun c => by
    rw [State.discardQueue_queue_of_ne s (by simp)]

theorem abandonTarget (s : State) (target : Place) : s.KeepsAnswers (s.abandonTarget target) := by
  cases target with
  | seat q => exact discardSeat s q
  | ceiling d e => exact sendRadio s d _

theorem flush (s : State) (pl : Place) (hold : List Nat) : s.KeepsAnswers (s.flush pl hold) := by
  have hflushes := State.flush_flushes hold s pl
  refine of_clb (by simp) (by simp [hflushes.log.1]) fun c => ?_
  by_cases hc : .ceiling c = pl.port
  · rw [hc, hflushes.waiting]
  · rw [hflushes.queues _ hc]

/-- A record on a link goes to LINGERING without a word to its radio. -/
theorem enterLingering {n : Nat} {r : Record} {c : LinkNo} {a : AssocNo} (hr : s.record n = some r)
    (hplace : r.st.place = some (.ceiling c a)) : s.KeepsAnswers (s.enterLingering n) := by
  have hleaves := State.enterLingering_leaves hr (RecordState.not_lingering_of_place hplace)
  rw [hplace] at hleaves
  have hout : (s.enterLingering n).ev.out = s.ev.out := by
    have hhold := fun (hold : List Nat) (t : State) => foldl_keeps (fun t : State => t.ev.out)
      (f := fun t k => (t.dropRef k).countMc fun c => { c with holdDiscarded := bump c.holdDiscarded })
      (fun t k => t.dropRef_out k) hold (b := t) rfl
    have hparked : ∀ t : State, (t.clearParked n).ev.out = t.ev.out := fun t => by
      unfold State.clearParked
      split
      · rfl
      · exact foldl_keeps (fun t : State => t.ev.out)
          (f := fun t k => (t.dropRef k).countSau fun c => { c with parkedDiscarded := bump c.parkedDiscarded })
          (fun t k => t.dropRef_out k) _ (b := t) rfl
    unfold State.enterLingering
    rw [hr]
    dsimp only
    cases hst : r.st with
    | lingering => rfl
    | attached pl t =>
      obtain rfl : pl = .ceiling c a := by simpa [hst, RecordState.place] using hplace
      exact hparked _
    | moving pl f g t hold =>
      obtain rfl : pl = .ceiling c a := by simpa [hst, RecordState.place] using hplace
      exact (hhold hold _).trans (hparked _)
  exact of_clb hleaves.rest.2.1 (by simp [hout]) fun d => by rw [hleaves.queue_link]

theorem completeMove (s : State) (n : Nat) (count : McCounters → McCounters) : s.KeepsAnswers (s.completeMove n count) := by
  unfold State.completeMove
  cases s.record n with
  | none => exact refl s
  | some r =>
    cases hst : r.st with
    | attached => simpa [hst] using refl s
    | lingering => simpa [hst] using refl s
    | moving target f g t hold =>
      simpa [hst] using ((flush s target hold).trans (attach _ n target)).trans (countMc _ count)

end State.KeepsAnswers

/-! ### The answers -/

/-- The link as an association leaves it. -/
def Link.heardAssoc (x : Addr) (a : AssocNo) (signal : Byte) (answer : AssocAnswer) (k : Link) : Link :=
  { k with
    lastAssoc := some { addr := x, assoc := a, signal := signal, answer := answer }
    counts := { k.counts with associations := bump k.counts.associations } }

/-- The part when an admission has been told and the hand-over is to come. -/
def State.assocAdmitted (s : State) (c : LinkNo) (a : AssocNo) (x : Addr) (signal : Byte) : State :=
  (((s.onLink c (Link.heardAssoc x a signal .admitted)).sendRadio c (.admitted a)).countLink c fun k =>
    { k with admissions := bump k.admissions }).removeDeferral x

def RefuseReason.counted (k : LinkCounters) : RefuseReason → LinkCounters
  | .barred => { k with refusedBarred := bump k.refusedBarred }
  | .linkFull => { k with refusedLinkFull := bump k.refusedLinkFull }
  | .tableFull => { k with refusedTableFull := bump k.refusedTableFull }

def RefuseReason.cause : RefuseReason → Cause
  | .barred => .barredSeen
  | .linkFull => .linkFull
  | .tableFull => .tableFull

section Answers

variable {s : State} {c : LinkNo} {a : AssocNo} {x : Addr} {signal : Byte}

theorem State.takeAssoc_admitted (h : s.admission x c a = .admitted) :
    s.takeAssoc c a x signal = (s.assocAdmitted c a x signal).handOver x c a := by
  unfold State.takeAssoc
  rw [h]
  rfl

theorem State.takeAssoc_refused {reason : RefuseReason} (h : s.admission x c a = .refused reason) : s.takeAssoc c a x signal
    = (((s.onLink c (Link.heardAssoc x a signal (.refused reason))).sendRadio c (.refuse a reason)).countLink c fun k =>
        reason.counted k).raise reason.cause := by
  unfold State.takeAssoc
  rw [h]
  cases reason <;> rfl

theorem State.takeAssoc_deferred (h : s.admission x c a = .deferred) : s.takeAssoc c a x signal
    = (((s.onLink c (Link.heardAssoc x a signal .deferred)).sendRadio c (.defer a)).countLink c fun k =>
        { k with deferrals := bump k.deferrals }).insertDeferral x := by
  unfold State.takeAssoc
  rw [h]
  rfl

/-- What an answer leaves of the part before anything of it takes effect elsewhere: its radio told, the association noted. -/
structure State.AssocAnswered (s w : State) (c : LinkNo) (a : AssocNo) (x : Addr) (signal : Byte) (answer : AssocAnswer) (m : RadioOut)
    (count : LinkCounters → LinkCounters) : Prop where
  like : s.Like w
  me : w.me = s.me
  told : toldRadio w c m
  last : (w.link c).lastAssoc = some { addr := x, assoc := a, signal := signal, answer := answer }
  links : otherLinks s w c
  deferrals : w.clb.deferrals = s.clb.deferrals
  window : w.clb.deferWindow = s.clb.deferWindow ∧ w.clb.overflows = s.clb.overflows

theorem State.Like.sendRadio (s : State) (c : LinkNo) (m : RadioOut) : s.Like (s.sendRadio c m) where
  ct := by simp
  mc := by simp
  sau := by simp
  spb := by simp
  slots := (s.sendRadio_fs c m).1
  entries := s.sendRadio_entries c m
  state := s.sendRadio_state c m
  profile d := by
    rw [State.sendRadio_link]
    split <;> rfl
  only := (s.sendRadio_only c m).mono (by simp)

theorem State.assoc_answered (h : (s.link c).state = .ready) (answer : AssocAnswer) (m : RadioOut) (count : LinkCounters → LinkCounters) :
    s.AssocAnswered (((s.onLink c (Link.heardAssoc x a signal answer)).sendRadio c m).countLink c count) c a x signal answer m count := by
  have hlink := State.link_onLink s c
  have hready : ((s.onLink c (Link.heardAssoc x a signal answer)).link c).state = .ready := by
    rw [State.link_onLink, if_pos rfl]
    exact h
  have hlike := State.Like.onLink s c (f := Link.heardAssoc x a signal answer) (fun _ => rfl) fun _ => rfl
  have hself : (s.onLink c (Link.heardAssoc x a signal answer)).link c = Link.heardAssoc x a signal answer (s.link c) := by
    rw [State.link_onLink, if_pos rfl]
  have hothers : otherLinks s (s.onLink c (Link.heardAssoc x a signal answer)) c := fun d hd => State.link_onLink_of_ne _ _ hd
  have hme : (s.onLink c (Link.heardAssoc x a signal answer)).me = s.me := rfl
  have hdeferrals : (s.onLink c (Link.heardAssoc x a signal answer)).clb.deferrals = s.clb.deferrals
      ∧ (s.onLink c (Link.heardAssoc x a signal answer)).clb.deferWindow = s.clb.deferWindow
      ∧ (s.onLink c (Link.heardAssoc x a signal answer)).clb.overflows = s.clb.overflows := ⟨rfl, rfl, rfl⟩
  generalize s.onLink c (Link.heardAssoc x a signal answer) = t at *
  obtain ⟨hsent, hwindow, hoverflows, _⟩ := t.sendRadio_clb c m
  refine ⟨(hlike.trans (.sendRadio t c m)).trans (.countLink _ c count), ?_, toldRadio_sendRadio hready m, ?_, fun d hd => ?_, ?_, ?_, ?_⟩
  · rw [← hme]
    simp
  · rw [State.countLink_eq, State.link_onLink, if_pos rfl, State.sendRadio_link, if_pos rfl, hself]
    rfl
  · rw [State.countLink_eq, State.link_onLink, if_neg hd, State.sendRadio_link, if_neg hd, hothers d hd]
  · exact hsent.trans hdeferrals.1
  · exact hwindow.trans hdeferrals.2.1
  · exact hoverflows.trans hdeferrals.2.2

end Answers

end Sys2Proof.Machine
end

section
/-! SUPPORT. The answer to an association and what takes effect with it (R14 to R17, R156 to R159). -/

namespace Sys2Proof.Machine

/-! ### The admission decision, case by case (R156 to R159) -/

section Admission

variable {s : State} {c : LinkNo} {a : AssocNo} {x : Addr} {n : Nat} {r : Record}

theorem State.displaced_congr {t : State} (hct : t.ct = s.ct) : t.displaced = s.displaced := by
  funext y d b
  rw [State.displaced, State.displaced, State.atPlace, State.atPlace, State.findRecord, State.findRecord, hct]

theorem State.obtain_congr {t : State} (hct : t.ct = s.ct) : t.obtain = s.obtain := by
  rw [State.obtain, State.obtain, hct]

theorem State.clearNumber_free (h : s.displaced x c a = none) : s.clearNumber x c a = s := by
  rw [State.clearNumber, h]
  rfl

theorem State.clearNumber_displaced {m : Nat} (h : s.displaced x c a = some m) : s.clearNumber x c a = s.enterLingering m := by
  rw [State.clearNumber, h]
  rfl

theorem State.effectiveCount_free (h : s.displaced x c a = none) : s.effectiveCount x c a = s.attachedCount c := by
  rw [State.effectiveCount, h]
  exact if_neg nofun

theorem State.effectiveCount_displaced {m : Nat} (h : s.displaced x c a = some m) :
    s.effectiveCount x c a = s.attachedCount c - 1 := by
  rw [State.effectiveCount, h]
  exact if_pos rfl

theorem State.isService_of_owns (h : s.owns x n r) : s.isService x = true ↔ r.cls = .service := by
  rw [State.isService, show s.byAddr x = some (n, r) from h]
  exact beq_iff_eq

/-- The effective count leaves no room for a client that is not SERVICE (R156). -/
def State.linkFull (s : State) (x : Addr) (c : LinkNo) (a : AssocNo) : Prop :=
  (s.link c).profile.clientLimit ≤ s.effectiveCount x c a ∧ s.isService x = false

theorem State.not_linkFull (h : s.effectiveCount x c a < (s.link c).profile.clientLimit ∨ s.isService x = true) :
    ¬ s.linkFull x c a := by
  rintro ⟨hle, hservice⟩
  rcases h with hlt | hyes
  · exact absurd hle (Nat.not_le.2 hlt)
  · simp [hyes] at hservice

/-- A client that is not in use, or LINGERING, has no place. -/
theorem State.place_none_of_lingering (h : (s.byAddr x).all (fun e => e.2.st.isLingering) = true) :
    ((s.byAddr x).bind fun e => e.2.st.place) = none := by
  cases hx : s.byAddr x with
  | none => rfl
  | some e =>
    rw [hx, Option.all_some] at h
    cases hst : e.2.st with
    | attached => simp [hst, RecordState.isLingering] at h
    | moving => simp [hst, RecordState.isLingering] at h
    | lingering => simp [hst, RecordState.place]

/-- The client is sent to a quieter link (R159). -/
def State.sentElsewhere (s : State) (x : Addr) (c : LinkNo) : Prop :=
  s.isService x = false ∧ (s.link c).crowded = true ∧ s.isDeferred x = false ∧ s.quieterLink c = true

theorem State.admission_barred (h : s.entitlement x = some .barred) : s.admission x c a = .refused .barred := if_pos h

section Entitled

variable (hb : s.entitlement x ≠ some .barred)

include hb

theorem State.admission_here {pl : Place} (hx : s.byAddr x = some (n, r)) (hpl : r.st.place = some pl) (hon : pl.onLink c = true) :
    s.admission x c a = .admitted := by
  simp [State.admission, hb, hx, hpl, hon]

theorem State.admission_placed_full {pl : Place} (hx : s.byAddr x = some (n, r)) (hpl : r.st.place = some pl)
    (hon : pl.onLink c = false) (hfull : s.linkFull x c a) : s.admission x c a = .refused .linkFull := by
  obtain ⟨hcount, hservice⟩ := hfull
  simp [State.admission, hb, hx, hpl, hon, hcount, hservice]

theorem State.admission_placed {pl : Place} (hx : s.byAddr x = some (n, r)) (hpl : r.st.place = some pl)
    (hroom : ¬ s.linkFull x c a) : s.admission x c a = .admitted := by
  rw [State.linkFull, not_and, Bool.not_eq_false] at hroom
  simpa [State.admission, hb, hx, hpl] using fun _ hcount => hroom hcount

theorem State.admission_full (hpl : ((s.byAddr x).bind fun e => e.2.st.place) = none) (hfull : s.linkFull x c a) :
    s.admission x c a = .refused .linkFull := by
  obtain ⟨hcount, hservice⟩ := hfull
  unfold State.admission
  rw [if_neg hb, hpl]
  simp [hcount, hservice]

section Room

variable (hpl : ((s.byAddr x).bind fun e => e.2.st.place) = none) (hroom : ¬ s.linkFull x c a)

include hpl hroom

theorem State.admission_deferred (hdefer : s.sentElsewhere x c) : s.admission x c a = .deferred := by
  obtain ⟨hservice, hcrowded, hnew, hquieter⟩ := hdefer
  rw [State.linkFull, not_and, Bool.not_eq_false] at hroom
  have hcount : ¬ (s.link c).profile.clientLimit ≤ s.effectiveCount x c a := fun h => by simp [hroom h] at hservice
  unfold State.admission
  rw [if_neg hb, hpl]
  simp [hcount, hservice, hcrowded, hnew, hquieter]

theorem State.admission_unplaced (hstay : ¬ s.sentElsewhere x c) : s.admission x c a
    = if (s.byAddr x).isNone && !s.canHaveRecord x c a then .refused .tableFull else .admitted := by
  have hfull : (decide ((s.link c).profile.clientLimit ≤ s.effectiveCount x c a) && !s.isService x) = false := by
    rw [State.linkFull] at hroom
    simpa using hroom
  have hdefer : ((s.link c).crowded && !s.isService x && !s.isDeferred x && s.quieterLink c) = false := by
    rw [State.sentElsewhere] at hstay
    cases hservice : s.isService x <;> simp [hservice] at hstay ⊢
    exact hstay
  unfold State.admission
  rw [if_neg hb, hpl]
  simp only [hfull, hdefer, Bool.false_eq_true, if_false]

end Room

end Entitled

end Admission

/-! ### The part once an association is admitted -/

theorem State.Like.removeDeferral (s : State) (x : Addr) : s.Like (s.removeDeferral x) where
  ct := rfl
  mc := rfl
  sau := rfl
  spb := rfl
  slots := rfl
  entries _ := rfl
  state _ := rfl
  profile _ := rfl
  only := State.onlyChanges_iff.2 (by simp [State.removeDeferral])

/-- What an admission leaves of the part, before the hand-over. -/
structure State.Admits (s w : State) (c : LinkNo) (a : AssocNo) (x : Addr) (signal : Byte) : Prop where
  like : s.Like w
  el : w.el = s.el
  told : toldRadio w c (.admitted a)
  last : (w.link c).lastAssoc = some { addr := x, assoc := a, signal := signal, answer := .admitted }
  admissions : (w.link c).counts.admissions = bump (s.link c).counts.admissions
  deferrals : w.clb.deferrals = s.clb.deferrals.filter fun d => d.addr != x
  links : otherLinks s w c

theorem State.assocAdmitted_admits {s : State} {c : LinkNo} (h : (s.link c).state = .ready) (a : AssocNo) (x : Addr) (signal : Byte) :
    s.Admits (s.beginEvent.assocAdmitted c a x signal) c a x signal := by
  have hanswered := State.assoc_answered (s := s.beginEvent) (a := a) (x := x) (signal := signal) h .admitted (.admitted a)
    fun k => { k with admissions := bump k.admissions }
  have hadmissions : ((((s.beginEvent.onLink c (Link.heardAssoc x a signal .admitted)).sendRadio c (.admitted a)).countLink c fun k =>
      { k with admissions := bump k.admissions }).link c).counts.admissions = bump (s.link c).counts.admissions := by
    rw [State.countLink_eq, State.link_onLink, if_pos rfl, State.sendRadio_link, if_pos rfl, State.link_onLink, if_pos rfl]
    rfl
  unfold State.assocAdmitted
  generalize (((s.beginEvent.onLink c (Link.heardAssoc x a signal .admitted)).sendRadio c (.admitted a)).countLink c fun k =>
    { k with admissions := bump k.admissions }) = w at *
  have hlike := hanswered.like.of_beginEvent.trans (.removeDeferral w x)
  have hkept := State.onlyChanges_iff.1 hlike.only
  exact {
    like := hlike
    el := by
      obtain ⟨_, _, _, hel, _⟩ := hkept
      exact hel (by simp)
    told := hanswered.told
    last := hanswered.last
    admissions := hadmissions
    deferrals := congrArg (List.filter fun d : Deferral => d.addr != x) hanswered.deferrals
    links := hanswered.links }

section Admits

variable {s w : State} {c : LinkNo} {a : AssocNo} {x : Addr} {signal : Byte} (h : s.Admits w c a x signal)

include h

theorem State.Admits.newRecord (pl : Place) : w.newRecord x pl = s.newRecord x pl := by
  have hcls : w.classOf x = s.classOf x := by rw [State.classOf, State.classOf, State.entitlement, State.entitlement, h.el]
  have hcredit : ∀ cls, w.newCredit cls = s.newCredit cls := fun cls => by rw [State.newCredit, State.newCredit, h.like.sau]
  rw [State.newRecord, State.newRecord, hcls, hcredit, h.like.idleFor]

/-- The admission stands through what the hand-over does. -/
theorem State.Admits.stands {u : State} (hkeeps : w.KeepsAnswers u) : toldRadio u c (.admitted a)
    ∧ (u.link c).lastAssoc = some { addr := x, assoc := a, signal := signal, answer := .admitted }
    ∧ (u.link c).counts.admissions = bump (s.link c).counts.admissions
    ∧ u.clb.deferrals = s.clb.deferrals.filter (fun d => d.addr != x) :=
  ⟨hkeeps.told _ _ h.told, (hkeeps.last c).trans h.last, (hkeeps.admissions c).trans h.admissions, hkeeps.deferrals.trans h.deferrals⟩

theorem State.Admits.otherLinks {u : State} (hclb : u.clb = w.clb) : otherLinks s u c := fun d hd => by
  rw [State.link_eq_of_clb hclb, h.links d hd]

end Admits

/-! ### The number is taken, case by case (R15 to R17) -/

section TakeNumber

variable {s : State} {x : Addr} {c : LinkNo} {a : AssocNo} {n : Nat} {r : Record}

theorem State.takeNumber_new {reclaimed : Bool} (hx : s.byAddr x = none) (hobtain : s.obtain = some (n, reclaimed)) :
    s.takeNumber x c a = s.setUp n reclaimed x (.ceiling c a) := by
  unfold State.takeNumber
  rw [hx]
  dsimp only
  rw [State.create, hobtain]
  rfl

variable (hx : s.byAddr x = some (n, r))

include hx

theorem State.takeNumber_lingering {t : Timer} (hst : r.st = .lingering t) : s.takeNumber x c a = s.attach n (.ceiling c a) := by
  unfold State.takeNumber
  rw [hx]
  dsimp only
  rw [hst]

theorem State.takeNumber_fromSeat {q : SeatNo} {t : Timer} (hst : r.st = .attached (.seat q) t) :
    s.takeNumber x c a = (s.discardQueue (.seat q)).attach n (.ceiling c a) := by
  unfold State.takeNumber
  rw [hx]
  dsimp only
  rw [hst]

theorem State.takeNumber_here {d : AssocNo} {t : Timer} (hst : r.st = .attached (.ceiling c d) t) :
    s.takeNumber x c a = s.attach n (.ceiling c a) := by
  unfold State.takeNumber
  rw [hx]
  dsimp only
  rw [hst]
  exact if_pos rfl

theorem State.takeNumber_fromLink {d : LinkNo} {e : AssocNo} {t : Timer} (hst : r.st = .attached (.ceiling d e) t) (hd : d ≠ c) :
    s.takeNumber x c a = s.beginMove n d e (.ceiling c a) := by
  unfold State.takeNumber
  rw [hx]
  dsimp only
  rw [hst]
  exact if_neg hd

section Moving

variable {target : Place} {f : LinkNo} {g : AssocNo} {t : Timer} {hold : List Nat}
  (hst : r.st = .moving target f g t hold)

include hst

theorem State.takeNumber_back (hf : f = c) : s.takeNumber x c a = s.cancelMove n (.ceiling c a) := by
  unfold State.takeNumber
  rw [hx]
  dsimp only
  rw [hst]
  exact if_pos hf

theorem State.takeNumber_renumbers (hf : f ≠ c) (hon : target.onLink c = true) :
    s.takeNumber x c a = s.onRecord n fun y => { y with st := .moving (.ceiling c a) f g t hold } := by
  unfold State.takeNumber
  rw [hx]
  dsimp only
  rw [hst]
  exact (if_neg hf).trans (if_pos hon)

theorem State.takeNumber_retargets (hf : f ≠ c) (hon : target.onLink c = false) :
    s.takeNumber x c a = s.retarget n (.ceiling c a) := by
  unfold State.takeNumber
  rw [hx]
  dsimp only
  rw [hst]
  exact (if_neg hf).trans (if_neg (by simp [hon]))

end Moving

end TakeNumber

/-! ### A move begins (R54, R55) -/

/-- R54, once a superseded move has completed. -/
def State.moveBegun (s : State) (n : Nat) (c : LinkNo) (a : AssocNo) (target : Place) (release : Nat) : State :=
  (((s.onRecord n fun r => { r with st := .moving target c a none [] }).sendRadio c (.release a)).onRecord n fun r =>
    { r with st := .moving target c a (some release) [] }).countMc fun k => { k with begun := bump k.begun }

theorem State.beginMove_eq (s : State) (n : Nat) (c : LinkNo) (a : AssocNo) (target : Place) :
    s.beginMove n c a target = (s.supersede c a).moveBegun n c a target s.mc.releaseTimeout := rfl

/-- What a move's beginning leaves. -/
structure State.Begins (s u : State) (n : Nat) (r : Record) (c : LinkNo) (a : AssocNo) (target : Place) (release : Nat) : Prop where
  record : u.record n = some { r with st := .moving target c a (some release) [] }
  others : otherRecords s u n
  told : toldRadio u c (.release a)
  mc : u.mc = { s.mc with counts := { s.mc.counts with begun := bump s.mc.counts.begun } }
  entries : queuesEntries s u
  only : s.onlyChanges u [.clb, .ct, .mc, .fs]
  keeps : s.KeepsAnswers u

theorem State.moveBegun_begins {s : State} {n : Nat} {r : Record} {c : LinkNo} (hr : s.record n = some r)
    (hready : (s.link c).state = .ready) (a : AssocNo) (target : Place) (release : Nat) :
    s.Begins (s.moveBegun n c a target release) n r c a target release := by
  have hkeeps := (State.KeepsAnswers.onRecord s n fun r => { r with st := .moving target c a none [] }).trans (.sendRadio _ c (.release a))
  have honly : s.onlyChanges (s.onRecord n fun r => { r with st := .moving target c a none [] }) [.ct] :=
    State.onlyChanges_iff.2 (by simp [State.onRecord])
  have hsent := (s.onRecord n fun r => { r with st := .moving target c a none [] }).sendRadio_only c (.release a)
  have htold : toldRadio ((s.onRecord n fun r => { r with st := .moving target c a none [] }).sendRadio c (.release a)) c (.release a) :=
    toldRadio_sendRadio (by exact hready) _
  have hentries := (s.onRecord n fun r => { r with st := .moving target c a none [] }).sendRadio_entries c (.release a)
  have hrecord : ∀ m, ((s.onRecord n fun r => { r with st := .moving target c a none [] }).sendRadio c (.release a)).record m
      = if m = n then (s.record n).map fun r => { r with st := .moving target c a none [] } else s.record m := fun m => by
    rw [State.sendRadio_record, State.onRecord_record]
  have hmc : ((s.onRecord n fun r => { r with st := .moving target c a none [] }).sendRadio c (.release a)).mc = s.mc := by simp
  unfold State.moveBegun
  generalize (s.onRecord n fun r => { r with st := .moving target c a none [] }).sendRadio c (.release a) = v at *
  have hlast : v.onlyChanges ((v.onRecord n fun r => { r with st := .moving target c a (some release) [] }).countMc fun k =>
      { k with begun := bump k.begun }) [.ct, .mc] := State.onlyChanges_iff.2 (by simp [State.onRecord, State.countMc])
  refine ⟨?_, fun m hm => ?_, htold, ?_, hentries, ?_, (hkeeps.trans (.onRecord v n _)).trans (.countMc _ _)⟩
  · change (v.onRecord n fun r => { r with st := .moving target c a (some release) [] }).record n = _
    rw [State.onRecord_record, if_pos rfl, hrecord, if_pos rfl, hr]
    rfl
  · change (v.onRecord n fun r => { r with st := .moving target c a (some release) [] }).record m = _
    rw [State.onRecord_record, if_neg hm, hrecord, if_neg hm]
  · rw [← hmc]
    rfl
  · exact (honly.both hsent (written := [.clb, .ct, .mc, .fs]) (by simp) (by simp)).both hlast (by simp) (by simp)

/-- R54, for a former place that no other move leaves. -/
theorem State.beginMove_begins {s : State} {n : Nat} {r : Record} {c : LinkNo} {a : AssocNo} (hr : s.record n = some r)
    (hready : (s.link c).state = .ready) (hformer : s.byFormer c a = none) (target : Place) :
    s.Begins (s.beginMove n c a target) n r c a target s.mc.releaseTimeout := by
  rw [State.beginMove_eq, State.supersede, hformer]
  exact State.moveBegun_begins hr hready a target _

/-- R55: what a move's beginning leaves when it completes the move of record `m` from the same former place first. -/
structure State.BeginsOver (s u : State) (n : Nat) (r : Record) (c : LinkNo) (a : AssocNo) (place : Place) (m : Nat) (y : Record)
    (target : Place) (hold : List Nat) : Prop where
  record : u.record n = some { r with st := .moving place c a (some s.mc.releaseTimeout) [] }
  superseded : u.record m = some { y with st := .attached target (s.idleFor y.cls target) }
  others : ∀ k, k ≠ n → k ≠ m → u.record k = s.record k
  told : toldRadio u c (.release a)
  entries : s.takesFrames target → (u.queue target.port).entries = s.flushedTo target hold
  begun : u.mc.counts.begun = bump s.mc.counts.begun
  supersessions : u.mc.counts.supersessions = bump s.mc.counts.supersessions
  only : s.onlyChanges u [.clb, .ct, .mc, .fs]
  keeps : s.KeepsAnswers u

theorem State.beginMove_beginsOver {s : State} {n m : Nat} {r y : Record} {c : LinkNo} {a : AssocNo} {target : Place} {left : Timer}
    {hold : List Nat} (hr : s.record n = some r) (hready : (s.link c).state = .ready) (hformer : s.byFormer c a = some (m, y))
    (hy : s.record m = some y) (hst : y.st = .moving target c a left hold) (hne : n ≠ m) (place : Place) :
    s.BeginsOver (s.beginMove n c a place) n r c a place m y target hold := by
  have hdone := State.completeMove_completes hy hst fun k => { k with supersessions := bump k.supersessions }
  have hkeeps := State.KeepsAnswers.completeMove s m fun k => { k with supersessions := bump k.supersessions }
  have hclb := (State.completeMove_keeps s m fun k => { k with supersessions := bump k.supersessions }).2.2.2.2.2.2.2.1
  rw [State.beginMove_eq, State.supersede, hformer]
  dsimp only
  generalize s.completeMove m (fun k => { k with supersessions := bump k.supersessions }) = v at *
  have hbegins := State.moveBegun_begins ((hdone.others n hne).trans hr) (by rw [State.link_eq_of_clb hclb]; exact hready) a place
    s.mc.releaseTimeout
  obtain ⟨drops, hvmc⟩ := hdone.mc
  refine ⟨hbegins.record, ?_, fun k hkn hkm => ?_, hbegins.told, fun htakes => ?_, ?_, ?_, ?_, hkeeps.trans hbegins.keeps⟩
  · rw [hbegins.others m hne.symm, hdone.record]
  · rw [hbegins.others k hkn, hdone.others k hkm]
  · rw [hbegins.entries]
    exact hdone.flushes.entries htakes
  · rw [hbegins.mc, hvmc]
  · rw [hbegins.mc, hvmc]
  · exact hdone.only.both hbegins.only (by simp) (by simp)

/-! ### A move is cancelled (R67) -/

/-- What the cancelling of a move leaves. -/
structure State.Cancels (s u : State) (n : Nat) (r : Record) (old place : Place) (hold : List Nat) : Prop where
  record : u.record n = some { r with st := .attached place (s.idleFor r.cls place) }
  others : otherRecords s u n
  released : s.reachable old → old.port ≠ place.port → targetReleased u old
  entries : s.takesFrames place → old.port ≠ place.port → (u.queue place.port).entries = s.flushedTo place hold
  cancellations : u.mc.counts.cancellations = bump s.mc.counts.cancellations
  only : s.onlyChanges u [.clb, .ct, .mc, .fs, .spb]
  keeps : s.KeepsAnswers u

theorem Place.port_ne_of_offLink {target : Place} {c : LinkNo} {a : AssocNo} (h : target.onLink c = false) :
    target.port ≠ (Place.ceiling c a).port := fun hsame => by
  cases target with
  | seat q => cases hsame
  | ceiling d e => simp [Place.onLink, Port.ceiling.inj hsame] at h

theorem State.Like.reachable {s w : State} (h : s.Like w) {target : Place} (ht : s.reachable target) : w.reachable target := by
  cases target with
  | seat q => trivial
  | ceiling d e => exact (h.state d).trans ht

/-- R66: what the release of a target leaves. -/
theorem State.abandonTarget_released {s : State} {target : Place} (h : s.reachable target) :
    targetReleased (s.abandonTarget target) target := by
  cases target with
  | seat q => exact State.discardQueue_entries _ _
  | ceiling d e => exact toldRadio_sendRadio h _

theorem State.abandonTarget_entries (s : State) {target place : Place} (h : target.port ≠ place.port) :
    ((s.abandonTarget target).queue place.port).entries = (s.queue place.port).entries := by
  cases target with
  | seat q =>
    have hqueue := State.discardQueue_queue_of_ne s (port := .seat q) (other := place.port) h.symm
    exact congrArg Egress.entries hqueue
  | ceiling d e => exact s.sendRadio_entries d _ _

theorem State.abandonTarget_idleFor (s : State) (target : Place) (cls : Class) (pl : Place) :
    (s.abandonTarget target).idleFor cls pl = s.idleFor cls pl := by
  cases target with
  | seat q => exact s.discardQueue_idleFor cls pl
  | ceiling d e => exact (State.Like.sendRadio s d (.drop e)).idleFor cls pl

theorem State.abandonTarget_takesFrames {s : State} {pl : Place} (target : Place) (h : s.takesFrames pl) :
    (s.abandonTarget target).takesFrames pl := by
  cases target with
  | seat q =>
    have htold := State.Told.discardQueue s (.seat q)
    obtain ⟨htransmits, hloopback⟩ := h
    exact ⟨by rw [← htransmits]; exact htold.transmits _, by rw [← hloopback]; exact htold.inLoopback _⟩
  | ceiling d e => exact (State.Like.sendRadio s d (.drop e)).takesFrames h

theorem State.cancelMove_cancels {s : State} {n : Nat} {r : Record} {old : Place} {f : LinkNo} {g : AssocNo} {t : Timer}
    {hold : List Nat} (hr : s.record n = some r) (hst : r.st = .moving old f g t hold) (place : Place) :
    s.Cancels (s.cancelMove n place) n r old place hold := by
  have heq : s.cancelMove n place = (((s.abandonTarget old).attach n place).flush place hold).countMc fun k =>
      { k with cancellations := bump k.cancellations } := by
    unfold State.cancelMove
    rw [hr]
    dsimp only
    rw [hst]
  have hrecord := s.abandonTarget_record old
  have hidle := s.abandonTarget_idleFor old r.cls place
  have hmc := s.abandonTarget_mc old
  have honly := s.abandonTarget_only old
  have hkeeps := State.KeepsAnswers.abandonTarget s old
  have hreleased := fun h : s.reachable old => State.abandonTarget_released h
  have htakes := fun h : s.takesFrames place => State.abandonTarget_takesFrames old h
  have hentries := fun h : old.port ≠ place.port => s.abandonTarget_entries h
  rw [heq]
  generalize s.abandonTarget old = v at *
  have hattached := State.comes_attach (s := s) (t := v) (n := n) (r := r) (by rw [hrecord, hr]) (fun m _ => by rw [hrecord])
    (honly.mono (by simp)) place
  rw [hidle] at hattached
  have hwmc : (v.attach n place).mc = s.mc := by simp [hmc]
  have hwqueue : (v.attach n place).queue = v.queue := State.queue_eq_of_fs (by simp)
  have hwtakes : (v.attach n place).takesFrames place ↔ v.takesFrames place := State.takesFrames_congr (by simp) (by simp) (by simp)
  have hwkeeps := hkeeps.trans (.attach v n place)
  have hwonly := hattached.only
  have hafter : v.KeepsAnswers (v.attach n place) := .attach v n place
  generalize v.attach n place = w at *
  have hflush := State.flush_flushes hold w place
  obtain ⟨hpending, _, hline, hmemory, hct, hsau, hel, hspb, hclb, hcu, hme, hsl⟩ := w.flush_keeps place hold
  have hfkeeps := State.KeepsAnswers.flush w place hold
  generalize w.flush place hold = u at *
  have hurecord : u.record = w.record := State.record_eq_of_ct hct
  have huonly : w.onlyChanges (u.countMc fun k => { k with cancellations := bump k.cancellations }) [.mc, .fs] :=
    State.onlyChanges_iff.2 (by simp [hct, hsau, hel, hspb, hclb, hcu, hme, hsl, hmemory, hpending, hline])
  refine ⟨?_, fun m hm => ?_, fun hreach hport => ?_, fun hplace hport => ?_, ?_, ?_,
    (hwkeeps.trans hfkeeps).trans (.countMc u _)⟩
  · exact (congrFun hurecord n).trans hattached.record
  · exact (congrFun hurecord m).trans (hattached.others m hm)
  · cases old with
    | seat q =>
      change (u.queue (.seat q)).entries = []
      rw [hflush.queues (.seat q) hport, hwqueue]
      exact hreleased hreach
    | ceiling d e => exact hfkeeps.told _ _ (hafter.told _ _ (hreleased hreach))
  · change (u.queue place.port).entries = _
    rw [hflush.entries (hwtakes.2 (htakes hplace)), State.flushedTo, hwqueue, hentries hport]
    rfl
  · obtain ⟨d, hd⟩ := hflush.mc
    change bump u.mc.counts.cancellations = _
    rw [hd, hwmc]
  · exact hwonly.both huonly (by simp) (by simp)

/-- R66: the abandoned target of a retarget is released, and the answers stand. -/
theorem State.retarget_releases {s : State} {n : Nat} {r : Record} {old target : Place} {f : LinkNo} {g : AssocNo} {t : Timer}
    {hold : List Nat} (hr : s.record n = some r) (hst : r.st = .moving old f g t hold) (hreach : s.reachable old) :
    targetReleased (s.retarget n target) old ∧ s.KeepsAnswers (s.retarget n target) := by
  have heq : s.retarget n target = ((s.abandonTarget old).onRecord n fun y => { y with st := .moving target f g t hold }).countMc
      fun k => { k with retargets := bump k.retargets } := by
    unfold State.retarget
    rw [hr]
    dsimp only
    rw [hst]
  have hreleased := State.abandonTarget_released hreach
  have hkeeps := State.KeepsAnswers.abandonTarget s old
  rw [heq]
  generalize s.abandonTarget old = v at *
  have hafter := (State.KeepsAnswers.onRecord v n fun y => { y with st := .moving target f g t hold }).trans
    (.countMc _ fun k => { k with retargets := bump k.retargets })
  refine ⟨?_, hkeeps.trans hafter⟩
  cases old with
  | seat q => exact hreleased
  | ceiling d e => exact hafter.told _ _ hreleased

end Sys2Proof.Machine
end

section
/-! PROOFS. An association is answered (O30). -/

namespace Sys2Proof.Machine

/-! ### A client displaced from its number (R14) -/

theorem State.obtain_unreclaimed {s : State} {n : Nat} (h : s.obtain = some (n, false)) :
    s.ct.records.firstFree 0 = n ∧ s.ct.records.firstFree 0 < 512 := by
  unfold State.obtain at h
  dsimp only at h
  split at h
  · next hlt => exact ⟨(Prod.mk.inj (Option.some.inj h)).1, hlt⟩
  · obtain ⟨e, _, he⟩ := Option.map_eq_some_iff.1 h
    cases (Prod.mk.inj he).2

theorem State.owns_record {s : State} (hw : s.ct.records.wf = true) {x : Addr} {n : Nat} {r : Record} (h : s.owns x n r) :
    s.record n = some r := (State.findRecord_some hw h).1

/-- What a hand-over to a new client leaves when it displaces record `m`. -/
structure State.Displaces (s u : State) (m : Nat) (y : Record) (n : Nat) (x : Addr) (place : Place) : Prop where
  lingers : u.record m = some (y.lingers s.ct.lingerTime)
  record : u.record n = some (s.newRecord x place)
  others : ∀ k, k ≠ m → k ≠ n → u.record k = s.record k
  clb : u.clb = s.clb
  keeps : s.KeepsAnswers u
  lost : y.isMoving = true → targetLost s u y

theorem State.handOver_displaces {s : State} (hw : s.ct.records.wf = true) {x : Addr} {c : LinkNo} {a : AssocNo} {m n : Nat} {y : Record}
    (hx : s.byAddr x = none) (hm : s.displaced x c a = some m) (hy : s.record m = some y) (hobtain : s.obtain = some (n, false)) :
    s.Displaces (s.handOver x c a) m y n x (.ceiling c a) := by
  obtain ⟨z, hat⟩ := State.displaced_some hm
  obtain ⟨hz, hplace⟩ := State.atPlace_some hw hat
  obtain rfl := Option.some.inj (hy.symm.trans hz)
  have hleaves := State.enterLingering_leaves hy (RecordState.not_lingering_of_place hplace)
  rw [hplace] at hleaves
  have hfirst := Table.firstFree_congr (State.enterLingering_records_wf hw hat) hw (hleaves.get_none_iff hy)
  obtain ⟨hn, hlt⟩ := State.obtain_unreclaimed hobtain
  have hvobtain : (s.enterLingering m).obtain = some (n, false) := by
    rw [State.obtain_free (by rw [hfirst]; exact hlt), hfirst, hn]
  have hfree : s.record n = none := by
    rw [← hn]
    exact Table.get_firstFree hw 0
  have hne : m ≠ n := fun h => by
    rw [h, hfree] at hy
    cases hy
  rw [State.handOver_new hw hx (by rw [State.clearNumber_displaced hm]; exact hvobtain), State.clearNumber_displaced hm]
  have hkeeps := State.KeepsAnswers.enterLingering hy hplace
  generalize s.enterLingering m = v at *
  obtain ⟨hel, hclb, _⟩ := hleaves.rest
  obtain ⟨d, hsau⟩ := hleaves.sau
  have hnew : v.newRecord x (.ceiling c a) = s.newRecord x (.ceiling c a) := by
    have hcls : v.classOf x = s.classOf x := by rw [State.classOf, State.classOf, State.entitlement, State.entitlement, hel]
    have hcredit : ∀ cls, v.newCredit cls = s.newCredit cls := fun cls => by rw [State.newCredit, State.newCredit, hsau]
    have hidle : ∀ cls pl, v.idleFor cls pl = s.idleFor cls pl := State.idleFor_congr
      (fun q => by rw [State.seat_eq_of_spb hleaves.spb_link]) fun e => by rw [State.link_eq_of_clb hclb]
    rw [State.newRecord, State.newRecord, hcls, hcredit, hidle]
  have hrecord : ∀ k, k ≠ n → (v.setUp n false x (.ceiling c a)).record k = v.record k := fun k hk => by
    rw [State.record, State.setUp_records, Table.get_put_of_ne _ _ _ _ hk]
    rfl
  refine ⟨?_, ?_, fun k hkm hkn => ?_, hclb, hkeeps.trans (.setUp v n false x _), fun hmoving => ?_⟩
  · rw [hrecord m hne, hleaves.record]
  · rw [State.record_setUp, hnew]
  · rw [hrecord k hkn, hleaves.others k hkm]
  · rw [hmoving] at hleaves
    exact hleaves.targetLost

/-! ### The Deferral List (R162) -/

theorem State.insertDeferral_link (s : State) (x : Addr) : (s.insertDeferral x).link = s.link := by
  unfold State.insertDeferral
  funext d
  unfold State.link State.onClb
  dsimp only
  split <;> rfl

theorem State.insertDeferral_deferrals (s : State) (x : Addr) : (s.insertDeferral x).clb.deferrals
    = (if s.clb.deferrals.length < 32 then s.clb.deferrals else s.clb.deferrals.drop 1) ++ [{ addr := x, left := s.clb.deferWindow }] := by
  unfold State.insertDeferral State.onClb
  dsimp only
  split <;> rfl

theorem State.insertDeferral_overflows (s : State) (x : Addr) : (s.insertDeferral x).clb.overflows
    = if s.clb.deferrals.length < 32 then s.clb.overflows else bump s.clb.overflows := by
  unfold State.insertDeferral State.onClb
  dsimp only
  split <;> rfl

theorem State.insertDeferral_only (s : State) (x : Addr) : s.onlyChanges (s.insertDeferral x) [.clb] :=
  State.onlyChanges_iff.2 (by simp [State.insertDeferral])

end Sys2Proof.Machine

namespace Sys2Proof.Proofs

open Sys2Proof.Machine

/-- Settles O30: the admission decision case by case; the answer is made (`assoc_answered`, `assocAdmitted_admits`), and stands through
what the hand-over does with it (`KeepsAnswers`). -/
theorem assocIsAnswered : Obligations.AssocIsAnswered := by
  intro s c a x signal hinv hhears hgood hclient b here limit answered refused admits admitted new noPlace deferred room full
  have hwf : s.ct.records.wf = true := hinv.records.1
  have hready : (s.link c).state = .ready := hhears.2
  have hi : exec (.assoc c a x signal) s = .next (s.event fun t => t.fromRadio c (some (.assoc a x signal))) := by
    change execAssoc c a x signal s = _
    simp [execAssoc, hclient]
  have hreach := fun {u : State} (hu : s.beginEvent.takeAssoc c b x signal = u) =>
    hhears.reaches (m := .assoc a x signal) hi (RadioMessage.badNumber_of_goodNumber rfl hgood) hu
  have hrefuse : ∀ reason, s.admission x c b = .refused reason → refused reason reason.cause := fun reason hanswer => by
    have hhanded := State.assoc_answered (s := s.beginEvent) (a := b) (x := x) (signal := signal) hready (.refused reason)
      (.refuse b reason) fun k => reason.counted k
    have hu := hreach (State.takeAssoc_refused (s := s.beginEvent) hanswer)
    generalize (((s.beginEvent.onLink c (Link.heardAssoc x b signal (.refused reason))).sendRadio c (.refuse b reason)).countLink c
      fun k => reason.counted k) = w at *
    refine ⟨_, ⟨hu, hhanded.told, hhanded.last⟩, hhanded.links, ?_, hhanded.deferrals, ?_⟩
    · rw [State.raised_raise_same, State.raised_eq_of_me hhanded.me]
      rfl
    · exact hhanded.like.of_beginEvent.only.both (w.raise_only reason.cause) (by simp) (by simp)
  have hadm := State.assocAdmitted_admits hready b x signal
  have hgo := fun {u : State} (h : s.admission x c b = .admitted) (hu : (s.beginEvent.assocAdmitted c b x signal).handOver x c b = u) =>
    hreach ((State.takeAssoc_admitted (s := s.beginEvent) h).trans hu)
  generalize s.beginEvent.assocAdmitted c b x signal = w at hadm hgo
  have hlike := hadm.like
  have hww : w.ct.records.wf = true := by rw [hlike.ct]; exact hwf
  have hstands : ∀ {u}, reaches (.assoc c a x signal) s u → w.KeepsAnswers u → admits u := fun hu hkeeps => by
    obtain ⟨htold, hlast, hadmissions, hdeferrals⟩ := hadm.stands hkeeps
    exact ⟨⟨hu, htold, hlast⟩, hadmissions, hdeferrals⟩
  refine ⟨fun hbarred _ => hrefuse .barred (State.admission_barred hbarred), fun hb hfree => ?_,
    fun m y n hb hm hy hx hroom hstay hobtain => ?_⟩
  · have hcount := State.effectiveCount_free hfree
    have htake : ∀ {u}, s.admission x c b = .admitted → w.takeNumber x c b = u → reaches (.assoc c a x signal) s u := fun h hu =>
      hgo h (by rw [State.handOver_eq, State.clearNumber_free (by rw [State.displaced_congr hlike.ct]; exact hfree), hu])
    have hfull : ∀ {n r}, s.owns x n r → full r → s.linkFull x c b := fun h hr =>
      ⟨hcount ▸ hr.1, Bool.eq_false_iff.2 (mt (State.isService_of_owns h).1 hr.2)⟩
    have hroom : ∀ {n r}, s.owns x n r → room r → ¬ s.linkFull x c b := fun h hr =>
      State.not_linkFull (hcount ▸ hr.imp id (State.isService_of_owns h).2)
    have hbyAddr : ∀ {n r}, s.owns x n r → w.byAddr x = some (n, r) := fun h => by
      rw [State.byAddr_congr hlike.ct]
      exact h
    have hrecord : ∀ {n r}, s.owns x n r → w.record n = some r := fun h => by
      rw [hlike.record]
      exact State.owns_record hwf h
    have hcomes : ∀ {n r u st}, s.admission x c b = .admitted → w.takeNumber x c b = u → w.Comes u n r st → u.clb = w.clb →
        w.KeepsAnswers u → admitted n { r with st := st } := fun h hu hcome hclb hkeeps =>
      ⟨_, hstands (htake h hu) hkeeps, hcome.record, fun k hk => by rw [hcome.others k hk, hlike.record], hadm.otherLinks hclb⟩
    have hattach : ∀ {n r v}, s.owns x n r → s.admission x c b = .admitted → w.takeNumber x c b = v.attach n here →
        w.onlyChanges v [.fs, .spb] → v.clb = w.clb → (∀ cls, v.idleFor cls here = w.idleFor cls here) → w.KeepsAnswers v →
        admitted n { r with st := .attached here (s.idleFor r.cls here) } := fun {n r v} hown h hu honly hclb hidle hkeeps => by
      obtain ⟨hct, _⟩ := State.onlyChanges_iff.1 honly
      have hvrecord := State.record_eq_of_ct (hct (by simp))
      have hattached := State.comes_attach (s := w) (t := v) (n := n) (r := r) (by rw [hvrecord]; exact hrecord hown)
        (fun m _ => by rw [hvrecord]) (honly.mono (by simp)) here
      rw [hidle, hlike.idleFor] at hattached
      exact hcomes h hu hattached hclb (hkeeps.trans (.attach v n here))
    refine ⟨fun n r d t hown hst => ?_, fun n r p t hown hst hr => ?_, fun n r p t hown hst hr => ?_, fun hnone hle hservice => ?_,
      fun hnone hlt hservice hdefer => ?_, fun hx hlt hnot => ?_, fun n r t hown hst hr hnot => ?_,
      fun n r d e t hown hst hd hdready => ?_, fun n r target f g t hold hown hst => ?_⟩
    · exact hattach hown (State.admission_here hb hown (by rw [hst]; rfl) (by simp [Place.onLink]))
        (State.takeNumber_here (hbyAddr hown) hst) (State.onlyChanges_iff.2 (by simp)) rfl (fun _ => rfl) (.refl w)
    · exact hrefuse .linkFull (State.admission_placed_full hb hown (by rw [hst]; rfl) rfl (hfull hown hr))
    · exact hattach hown (State.admission_placed hb hown (by rw [hst]; rfl) (hroom hown hr))
        (State.takeNumber_fromSeat (hbyAddr hown) hst) (w.discardQueue_only (by simp)) (State.Told.discardQueue w _).clb
        (fun cls => w.discardQueue_idleFor cls here) (.discardSeat w p)
    · exact hrefuse .linkFull (State.admission_full hb (State.place_none_of_lingering hnone) ⟨hcount ▸ hle, hservice⟩)
    · have hanswer := State.admission_deferred (a := b) hb (State.place_none_of_lingering hnone)
        (State.not_linkFull (hcount ▸ .inl hlt)) ⟨hservice, hdefer⟩
      have hu := hreach (State.takeAssoc_deferred (s := s.beginEvent) hanswer)
      have hhanded := State.assoc_answered (s := s.beginEvent) (a := b) (x := x) (signal := signal) hready .deferred (.defer b)
        fun k => { k with deferrals := bump k.deferrals }
      generalize ((s.beginEvent.onLink c (Link.heardAssoc x b signal .deferred)).sendRadio c (.defer b)).countLink c (fun k =>
        { k with deferrals := bump k.deferrals }) = v at *
      obtain ⟨hwindow, hoverflows⟩ := hhanded.window
      have hdeferrals : v.clb.deferrals = s.clb.deferrals := hhanded.deferrals
      refine ⟨_, ⟨hu, hhanded.told, ?_⟩, fun d hd => ?_, hhanded.like.ct, ?_, ?_, ?_⟩
      · rw [State.insertDeferral_link]
        exact hhanded.last
      · rw [State.insertDeferral_link]
        exact hhanded.links d hd
      · exact hhanded.like.of_beginEvent.only.both (v.insertDeferral_only x) (by simp) (by simp)
      · rw [State.insertDeferral_deferrals, hdeferrals, hwindow]
        rfl
      · rw [State.insertDeferral_overflows, hdeferrals, hoverflows]
        rfl
    · have hanswer := State.admission_unplaced hb (c := c) (a := b) (by rw [hx]; rfl) (State.not_linkFull (hcount ▸ hlt)) hnot
      refine ⟨fun hnone => ?_, fun n reclaimed hobtain => ?_⟩
      · exact hrefuse .tableFull (by simpa [hx, State.canHaveRecord, hnone, hfree] using hanswer)
      · have hadmit : s.admission x c b = .admitted := by simpa [State.canHaveRecord, hobtain] using hanswer
        have hu := htake hadmit (State.takeNumber_new (by rw [State.byAddr_congr hlike.ct]; exact hx)
          ((State.obtain_congr hlike.ct).trans hobtain))
        refine ⟨_, hstands hu (.setUp w n reclaimed x _), ?_, fun k hk => ?_, hadm.otherLinks rfl⟩
        · rw [State.record_setUp, hadm.newRecord]
          rfl
        · rw [State.record, State.setUp_records, Table.get_put_of_ne _ _ _ _ hk]
          exact congrFun hlike.record k
    · have hplace : ((s.byAddr x).bind fun e => e.2.st.place) = none := by
        rw [show s.byAddr x = some (n, r) from hown]
        simp [hst, RecordState.place]
      have hanswer := State.admission_unplaced hb (c := c) (a := b) hplace (hroom hown hr) hnot
      rw [show s.byAddr x = some (n, r) from hown] at hanswer
      exact hattach hown hanswer (State.takeNumber_lingering (hbyAddr hown) hst) (State.onlyChanges_iff.2 (by simp)) rfl
        (fun _ => rfl) (.refl w)
    · have helsewhere : (Place.ceiling d e).onLink c = false := by simpa [Place.onLink] using hd
      have hadmit := fun hr : room r => State.admission_placed hb hown (by rw [hst]; rfl) (hroom hown hr)
      have hwready : (w.link d).state = .ready := (hlike.state d).trans hdready
      have hrelease : w.mc.releaseTimeout = s.mc.releaseTimeout := by rw [hlike.mc]
      have hnumber := State.takeNumber_fromLink (a := b) (hbyAddr hown) hst hd
      refine ⟨fun hr => ?_, fun hr hformer => ?_, fun m y target left hold hr hformer hmoving htakes => ?_⟩
      · exact hrefuse .linkFull (State.admission_placed_full hb hown (by rw [hst]; rfl) helsewhere (hfull hown hr))
      · have hbegins := State.beginMove_begins (hrecord hown) hwready (by rw [hlike.byFormer]; exact hformer) here
        rw [hrelease] at hbegins
        refine ⟨_, hstands (htake (hadmit hr) hnumber) hbegins.keeps, hbegins.record, fun k hk => ?_, hbegins.told, ?_, fun q => ?_, ?_⟩
        · rw [hbegins.others k hk, hlike.record]
        · rw [hbegins.mc, hlike.mc]
        · rw [hbegins.entries q, hlike.entries q]
        · exact hlike.only.both hbegins.only (by simp) (by simp)
      · have hwformer : w.byFormer d e = some (m, y) := by rw [hlike.byFormer]; exact hformer
        have hym := State.byFormer_some hww hwformer
        have hne : n ≠ m := fun h => by
          have hrn := hrecord hown
          rw [h, hym] at hrn
          obtain rfl := Option.some.inj hrn
          rw [hst] at hmoving
          cases hmoving
        have hbegins := State.beginMove_beginsOver (hrecord hown) hwready hwformer hym hmoving hne here
        refine ⟨_, hstands (htake (hadmit hr) hnumber) hbegins.keeps, ?_, hbegins.told, ?_, ?_, fun k hkn hkm => ?_, ?_, ?_, ?_⟩
        · rw [hbegins.record, hlike.mc]
        · rw [hbegins.superseded, hlike.idleFor]
        · rw [hbegins.entries (hlike.takesFrames htakes), hlike.flushedTo]
        · rw [hbegins.others k hkn hkm, hlike.record]
        · rw [hbegins.begun, hlike.mc]
        · rw [hbegins.supersessions, hlike.mc]
        · exact hlike.only.both hbegins.only (by simp) (by simp)
    · have hplace : r.st.place = some target := by rw [hst]; rfl
      have hadmit := fun hr : room r => State.admission_placed hb hown hplace (hroom hown hr)
      refine ⟨fun hon hf => ?_, fun hoff hr => ?_, fun hoff hr hreachS hf => ?_, fun hoff hr hreachS hf => ?_⟩
      · exact hcomes (State.admission_here hb hown hplace hon) (State.takeNumber_renumbers (hbyAddr hown) hst hf hon)
          (.of_onRecord (hrecord hown) (fun _ _ => rfl) (State.onlyChanges_iff.2 (by simp)) rfl) rfl (.onRecord w n _)
      · exact hrefuse .linkFull (State.admission_placed_full hb hown hplace hoff (hfull hown hr))
      · have hcancels := State.cancelMove_cancels (hrecord hown) hst here
        refine ⟨_, hstands (htake (hadmit hr) (State.takeNumber_back (hbyAddr hown) hst hf)) hcancels.keeps,
          hcancels.released (hlike.reachable hreachS) (Place.port_ne_of_offLink hoff), ?_, fun k hk => ?_, ?_, ?_, ?_⟩
        · rw [hcancels.record, hlike.idleFor]
        · rw [hcancels.others k hk, hlike.record]
        · have hentries := hcancels.entries (hlike.takesFrames ⟨by simp [here, Place.port, State.transmits, hready], rfl⟩)
            (Place.port_ne_of_offLink hoff)
          rw [hlike.flushedTo] at hentries
          exact hentries
        · rw [hcancels.cancellations, hlike.mc]
        · exact hlike.only.both hcancels.only (by simp) (by simp)
      · obtain ⟨hcome, hmc, hfs, _⟩ := State.retarget_comes (target := here) (hrecord hown) hst
        obtain ⟨hreleased, hkeeps⟩ := State.retarget_releases (target := here) (hrecord hown) hst (hlike.reachable hreachS)
        refine ⟨_, hstands (htake (hadmit hr) (State.takeNumber_retargets (hbyAddr hown) hst hf hoff)) hkeeps, hreleased, hcome.record,
          fun k hk => ?_, ?_, ?_⟩
        · rw [hcome.others k hk, hlike.record]
        · rw [hmc, hlike.mc]
        · exact hlike.only.both hcome.only (by simp) (by simp)
  · have hanswer := State.admission_unplaced hb (c := c) (a := b) (by rw [hx]; rfl)
      (State.not_linkFull (State.effectiveCount_displaced hm ▸ hroom)) hstay
    have hadmit : s.admission x c b = .admitted := by simpa [State.canHaveRecord, hobtain] using hanswer
    have hdisplaces := State.handOver_displaces hww (x := x) (c := c) (a := b) (by rw [State.byAddr_congr hlike.ct]; exact hx)
      (by rw [State.displaced_congr hlike.ct]; exact hm) (by rw [hlike.record]; exact hy)
      ((State.obtain_congr hlike.ct).trans hobtain)
    refine ⟨_, hstands (hgo hadmit rfl) hdisplaces.keeps, ?_, ?_, fun k hkm hkn => ?_, hadm.otherLinks hdisplaces.clb,
      fun f g t hold hst => ?_⟩
    · rw [hdisplaces.lingers, hlike.ct]
    · rw [hdisplaces.record, hadm.newRecord]
      rfl
    · rw [hdisplaces.others k hkm hkn, hlike.record]
    · obtain ⟨hcounts, hrefs⟩ := hdisplaces.lost (by rw [Record.isMoving, hst]; rfl)
      rw [hlike.mc] at hcounts
      rw [hlike.refsOf] at hrefs
      exact ⟨hcounts, hrefs⟩

end Sys2Proof.Proofs
end
